-- ==== Sys2Proof/Word.lean ====
section
/-! DEFINITION. The words of the part: bytes, shelf time, and the numbers of lines, cards, programs and steps
(00_scope.md, "Conventions"). -/

namespace Sys2Proof

/-- A byte of a frame or record (R169). -/
abbrev Byte := BitVec 8

/-- Shelf time as it is sent: a count of milliseconds held in 32 bits (R28). -/
abbrev ShelfTime := BitVec 32

/-- Elapsed milliseconds since the last reset. Deadlines count elapsed time (R28), so they are kept here and not in
the 32 bits that wrap; log 1. -/
abbrev Ms := Nat

/-- The word at the plant sense input: a level in tenths of a volt, 0 to 1022, or the fault mark 1023 (R142). -/
abbrev LevelWord := BitVec 10

/-- A line number, 0-63. -/
abbrev LineNo := Fin 64

/-- A line card number, 0-7. -/
abbrev CardNo := Fin 8

/-- A line class number, 0-7. -/
abbrev ClassNo := Fin 8

/-- A cadence program number, 0-15. -/
abbrev ProgramNo := Fin 16

/-- A step of the Cadence Store, 0-127 (R88). -/
abbrev StepNo := Fin 128

/-- A dialled digit, 0-9. -/
abbrev Digit := Fin 10

/-- The number as one byte (R171: "Numbers of 0 to 255 take one byte"). -/
def byteOf (n : Nat) : Byte := BitVec.ofNat 8 n

/-- The number as two bytes, most significant first (R169). -/
def bytes2 (n : Nat) : List Byte := [byteOf (n / 256), byteOf n]

/-- The number as four bytes, most significant first (R169, R171: times and durations). -/
def bytes4 (n : Nat) : List Byte := [byteOf (n / 16777216), byteOf (n / 65536), byteOf (n / 256), byteOf n]

/-- Two bytes read as a number, most significant first (R169). -/
def nat2 (hi lo : Byte) : Nat := hi.toNat * 256 + lo.toNat

end Sys2Proof
end

