-- ==== Sys2Proof/Syntax.lean ====
section
/-! DEFINITION. The commands of the part: one constructor for each row of spec/opcode_table.json, with the operands
that say where the command acts. The fields of a request stand in the body of the frame that the command takes
(R152, R170), and the contents of a scanner event stand in the notice the scanner sent (R31). -/

namespace Sys2Proof

/-- The three control ports (00_scope.md, "The controllers and their ports"). -/
inductive Port where
  | A | B | M
  deriving DecidableEq, Repr

/-- What the four senses of one line show at a scan instant (00_scope.md, "The shelf around the part"). -/
structure LineSenses where
  /-- hook sense: loop closed -/
  offHook : Bool
  /-- ring-trip sense -/
  ringTrip : Bool
  /-- ring-current sense -/
  ringCurrent : Bool
  /-- ground sense: a leg of the line is in contact with ground -/
  grounded : Bool
  deriving DecidableEq, Repr

/-- One sample of the shelf, taken at one scan instant (R29). -/
structure ShelfSample where
  /-- the card-present sense of each card -/
  cards : Vector Bool 8
  /-- the senses of each line -/
  lines : Vector LineSenses 64
  deriving DecidableEq, Repr

/-- The commands: the rows of spec/opcode_table.json in the table's order. -/
inductive Instr where
  /-- POWER_ON_RESET (R26) -/
  | powerOnReset
  /-- RESET_INPUT (R161) -/
  | resetInput
  /-- SHELF_RESET_TAKES_EFFECT (R27) -/
  | shelfResetTakesEffect
  /-- RECEIVE_BYTE (R150): the byte `b` arrives on port `p` -/
  | receiveByte (p : Port) (b : Byte)
  /-- FRAME_BYTE_TIMEOUT (R150) -/
  | frameByteTimeout (p : Port)
  /-- ANSWER_MARK (R151) -/
  | answerMark (p : Port)
  /-- UNKNOWN_KIND (R152) -/
  | unknownKind (p : Port)
  /-- LINE_QUERY (R14) -/
  | lineQuery (p : Port)
  /-- ADOPT (R15) -/
  | adopt (p : Port)
  /-- CLAIM (R53) -/
  | claim (p : Port)
  /-- END_TONE (R69) -/
  | endTone (p : Port)
  /-- CONNECT (R70) -/
  | connect (p : Port)
  /-- GIVE_TONE (R77) -/
  | giveTone (p : Port)
  /-- KEEP_CALL (R78) -/
  | keepCall (p : Port)
  /-- RELEASE (R84) -/
  | release (p : Port)
  /-- RING (R110) -/
  | ring (p : Port)
  /-- RING_STOP (R137) -/
  | ringStop (p : Port)
  /-- RING_FINISH (R138) -/
  | ringFinish (p : Port)
  /-- SET_LINE (R13) -/
  | setLine (p : Port)
  /-- SET_CLASS (R11) -/
  | setClass (p : Port)
  /-- PARK (R17) -/
  | park (p : Port)
  /-- UNPARK (R19) -/
  | unpark (p : Port)
  /-- REMOVE_LINE (R20) -/
  | removeLine (p : Port)
  /-- RESTORE_LINE (R21) -/
  | restoreLine (p : Port)
  /-- FORCE_RELEASE (R22) -/
  | forceRelease (p : Port)
  /-- WRITE_STEPS (R91) -/
  | writeSteps (p : Port)
  /-- COMMIT_PROGRAM (R92) -/
  | commitProgram (p : Port)
  /-- ERASE_PROGRAM (R94) -/
  | eraseProgram (p : Port)
  /-- READ_PROGRAM (R99) -/
  | readProgram (p : Port)
  /-- SET_BUDGET (R120) -/
  | setBudget (p : Port)
  /-- SET_RING_LIMITS (R121) -/
  | setRingLimits (p : Port)
  /-- SET_PLANT_LIMITS (R147) -/
  | setPlantLimits (p : Port)
  /-- SET_TONE_LIMITS (R59) -/
  | setToneLimits (p : Port)
  /-- SET_ROUTE (R164) -/
  | setRoute (p : Port)
  /-- FETCH (R166) -/
  | fetch (p : Port)
  /-- STATUS (R160) -/
  | status (p : Port)
  /-- SET_PORT (R155) -/
  | setPort (p : Port)
  /-- PORT_RESTART (R158) -/
  | portRestart (p : Port)
  /-- SHELF_RESET (R161) -/
  | shelfReset (p : Port)
  /-- PRESENCE_DEADLINE_EXPIRY (R156) -/
  | presenceDeadlineExpiry (p : Port)
  /-- SCAN_INSTANT (R29) -/
  | scanInstant (sample : ShelfSample)
  /-- CARD_SETTLE_TIMEOUT (R48) -/
  | cardSettleTimeout (c : CardNo)
  /-- OFF_HOOK (R50) -/
  | offHook (l : LineNo)
  /-- PULSE (R62) -/
  | pulse (l : LineNo)
  /-- FLASH (R72) -/
  | flash (l : LineNo)
  /-- BAD_BREAK (R73) -/
  | badBreak (l : LineNo)
  /-- DISCONNECT (R66) -/
  | disconnect (l : LineNo)
  /-- DIGIT_END (R63) -/
  | digitEnd (l : LineNo)
  /-- ANSWER (R134) -/
  | answer (l : LineNo)
  /-- CARD_LOSS (R24) -/
  | cardLoss (c : CardNo)
  /-- CARD_PRESENT (R25) -/
  | cardPresent (c : CardNo)
  /-- CARD_SETTLED (R25) -/
  | cardSettled (c : CardNo)
  /-- TAKE_AFRESH (R45) -/
  | takeAfresh (l : LineNo)
  /-- DISCARD_PULSE_COUNT (R45) -/
  | discardPulseCount (l : LineNo)
  /-- STEP_ON (R40) -/
  | stepOn (l : LineNo)
  /-- STEP_OFF (R40) -/
  | stepOff (l : LineNo)
  /-- RING_END (R40) -/
  | ringEnd (l : LineNo)
  /-- BURST_FED (R127) -/
  | burstFed (l : LineNo)
  /-- SLOT_BOUNDARY (R125) -/
  | slotBoundary
  /-- STEP_END (R125) -/
  | stepEnd (l : LineNo)
  /-- WAIT_LIMIT_EXPIRY (R117) -/
  | waitLimitExpiry (l : LineNo)
  /-- OFFER_ADVANCE (R51) -/
  | offerAdvance (l : LineNo)
  /-- FIRST_DIGIT_EXPIRY (R65) -/
  | firstDigitExpiry (l : LineNo)
  /-- INTERDIGIT_EXPIRY (R64) -/
  | interdigitExpiry (l : LineNo)
  /-- RECALL_WINDOW_EXPIRY (R76) -/
  | recallWindowExpiry (l : LineNo)
  /-- RELEASE_WAIT_EXPIRY (R83) -/
  | releaseWaitExpiry (l : LineNo)
  /-- PARK_RELEASE_EXPIRY (R18) -/
  | parkReleaseExpiry (l : LineNo)
  /-- TONE_DELAY_EXPIRY (R61) -/
  | toneDelayExpiry (l : LineNo)
  /-- LEVEL_WORD (R142): the word that arrives at the plant sense input -/
  | levelWord (w : LevelWord)
  /-- SENSE_TIMER_EXPIRY (R143) -/
  | senseTimerExpiry
  /-- RING_ALLOCATOR_PLANT_CHANGE (R119) -/
  | ringAllocatorPlantChange
  /-- TAP_LIMIT_CHANGE (R58) -/
  | tapLimitChange
  deriving DecidableEq, Repr

end Sys2Proof
end

