-- ==== Sys2Proof/WellFormed.lean ====
section
/-! DEFINITION. Which commands are well formed: those whose operands name a line, card and level word the shelf has
(00_scope.md, "Conventions"; R142). The operand types already hold every number in its range (`LineNo`, `CardNo`,
`LevelWord`, and vectors of the shelf's own sizes in `ShelfSample`), so no ill-formed command can be written and the
check never fails; `Sys2Proof.wellFormed_all` in Laws/Decode.lean says so. -/

namespace Sys2Proof

/-- The line a command names as an operand. -/
def Instr.line? : Instr → Option Nat
  | .offHook l | .pulse l | .flash l | .badBreak l | .disconnect l | .digitEnd l | .answer l => some l.val
  | .takeAfresh l | .discardPulseCount l | .stepOn l | .stepOff l | .ringEnd l | .burstFed l => some l.val
  | .stepEnd l | .waitLimitExpiry l | .offerAdvance l | .firstDigitExpiry l | .interdigitExpiry l => some l.val
  | .recallWindowExpiry l | .releaseWaitExpiry l | .parkReleaseExpiry l | .toneDelayExpiry l => some l.val
  | _ => none

/-- The card a command names as an operand. -/
def Instr.card? : Instr → Option Nat
  | .cardSettleTimeout c | .cardLoss c | .cardPresent c | .cardSettled c => some c.val
  | _ => none

/-- The level word a command brings. -/
def Instr.word? : Instr → Option Nat
  | .levelWord w => some w.toNat
  | _ => none

/-- Every operand is in its range: lines 0-63, cards 0-7, level words 0-1023. -/
def WellFormed (i : Instr) : Bool :=
  (i.line?.all (· < 64)) && (i.card?.all (· < 8)) && (i.word?.all (· < 1024))

end Sys2Proof
end

