-- ==== Sys2Proof/Decode.lean ====
section
/-! DEFINITION. The commands that words spell by the bits of spec/opcode_table.json. The table gives no row any bits
("n_rows_with_fixed": 0 in spec/98_reader.md), so no word spells a command. The frames that controllers send are read by
the ports (Machine/Ports.lean, Machine/Operands.lean), not by this table; log 22. -/

namespace Sys2Proof

/-- The command spelled by the `nbits` bits of `w`: none, since no row of the table gives bits; log 22. -/
def decodeTableWord (_nbits _w : Nat) : Option Instr := none

end Sys2Proof
end

