-- ==== Sys2Proof/Config.lean ====
section
/-! DEFINITION. What the part fixes once and for all: the sizes, periods and default values the spec states, and the
one order the spec leaves open (a free value with no body). -/

namespace Sys2Proof.Config

/-- The scan instant period, 5 ms (R28). -/
def scanPeriod : Nat := 5

/-- A slot lasts 40 scan instants, 200 ms (R28, R102). -/
def slotLength : Nat := 200

/-- The card settle time, 2 s (R48). -/
def cardSettle : Nat := 2000

/-- The longest time between two bytes of one frame, 50 ms (R150). -/
def byteGap : Nat := 50

/-- The sense timer, 1 s (R143). -/
def senseTime : Nat := 1000

/-- The size of the input hold: four frames (R151). -/
def holdSize : Nat := 4

/-- The most frames one answer mark stands for (R151). -/
def markMax : Nat := 255

/-- The size of a report queue (R165). -/
def queueSize : Nat := 48

/-- The queue length at or below which a FETCH runs the resync issue (R166). -/
def resyncLevel : Nat := 24

/-- The most digits the digit buffer holds (R1). -/
def digitBufferSize : Nat := 16

/-- The greatest value of the counts that stop there: digits delivered (R1) and pass-overs (R115). -/
def countMax : Nat := 255

/-- The start byte of a request frame (R169). -/
def requestStart : Byte := 165#8

/-- The start byte of a response frame (R169). -/
def responseStart : Byte := 166#8

/-- FREE VALUE; log 6. Whether the lines of a card that is found absent at a scan instant are still sampled at that same
instant, before the loss is taken: a choice open for each card and each instant (R29, R47: the spec gives no order between
the two). -/
opaque lostCardStillSampled (c : CardNo) (t : Ms) : Bool

end Sys2Proof.Config
end

