-- ==== Sys2Proof/Machine/State.lean ====
section
/-! DEFINITION. The state of the part, block by block, as plain data; what can stop a command; and the state after
power-on reset (R26, R49, R60, R100, R122, R141, R149, R161, R168). -/

namespace Sys2Proof.Machine

/-! ## Names of states, causes and reasons -/

/-- The eleven line states, in the order of their codes (1.2, R171). -/
inductive LineState where
  | outOfService | idle | toneWait | dialTone | digits | held | recalling | ringWait | ringing | cleared | parked
  deriving DecidableEq, Repr

/-- The qualified hook condition: ON is on-hook, OFF is off-hook (R1, R2). -/
inductive Hook where
  | on | off
  deriving DecidableEq, Repr

/-- The progress of an origination offer (R1). -/
inductive OfferStage where
  | none | home | alternate | claimed
  deriving DecidableEq, Repr

/-- The digit collection method of a class (R10). -/
inductive Dialling where
  | pulse | tone
  deriving DecidableEq, Repr

/-- The purposes of a supervision timer, in the order of R6. -/
inductive TimerPurpose where
  | firstDigit | interdigit | recallWindow | releaseWait | parkRelease
  deriving DecidableEq, Repr

/-- The state to which unanswered ringing returns a line (R1). -/
inductive ReturnState where
  | idle | cleared
  deriving DecidableEq, Repr

/-- Why a line is out of service (R1, R23). -/
inductive OosReason where
  | card | settle | admin
  deriving DecidableEq, Repr

/-- Why a line is parked (R1). -/
inductive ParkReason where
  | permanentSignal | noController | releasedOffHook | maintenance
  deriving DecidableEq, Repr

/-- How a party is rung (R3). -/
inductive RingRoute where
  | loopAny | loop1 | loop2 | tip1 | tip2 | ring1 | ring2
  deriving DecidableEq, Repr

/-- The two ring supplies. -/
inductive Supply where
  | one | two
  deriving DecidableEq, Repr

/-- The leg a driven ring relay rings (R123). -/
inductive Leg where
  | acrossPair | tipToGround | ringToGround
  deriving DecidableEq, Repr

/-- The feed of a line: normal, or the reduced feed of parked and out-of-service lines (00_scope.md). -/
inductive Feed where
  | normal | reduced
  deriving DecidableEq, Repr

/-- The kind of a cadence step (R88). -/
inductive StepKind where
  | on | off
  deriving DecidableEq, Repr

/-- The priority of a ring request, in the order of the queue (R110, R112). -/
inductive Priority where
  | urgent | normal | test
  deriving DecidableEq, Repr

/-- The plant states (R145). -/
inductive PlantState where
  | normal | economy | shed
  deriving DecidableEq, Repr

/-- The port states (R154). -/
inductive PortState where
  | silent | present | absent
  deriving DecidableEq, Repr

/-- The states of a program (R89). -/
inductive ProgramState where
  | empty | draft | ready | faulted
  deriving DecidableEq, Repr

/-- The states of a card (R47). -/
inductive CardState where
  | inService | absent | settling
  deriving DecidableEq, Repr

/-- How an answer was qualified (R31). -/
inductive Qualification where
  | ringTrip | offHook
  deriving DecidableEq, Repr

/-- The outcome of a digit (R31, R37, R38). -/
inductive DigitOutcome where
  | digit (d : Digit) | tooManyPulses | badBreak
  deriving DecidableEq, Repr

/-- The cause of the last reset (R160). -/
inductive ResetCause where
  | power | resetInput | shelfResetRequest
  deriving DecidableEq, Repr

/-- The route of a report kind whose route may be changed (R162). -/
inductive ReportRoute where
  | none | holder | holderAndM | m
  deriving DecidableEq, Repr

/-! ## Reports (chapter 10, with the details of chapters 3, 4, 7, 8 and 9) -/

/-- The causes of ABANDON, in the order of R71. -/
inductive AbandonCause where
  | onHook | claimedElsewhere | noController | permanentSignal | teardown
  deriving DecidableEq, Repr

/-- The causes of DIGIT ERROR, in the order of R71. -/
inductive DigitErrorCause where
  | tooManyPulses | badBreak | bufferFull
  deriving DecidableEq, Repr

/-- The causes of RECALL LAPSED with what each carries (R87); log 10. -/
inductive RecallLapse where
  | window (emptied : Nat) | firstDigit | interdigit (delivered expected : Nat)
  deriving DecidableEq, Repr

/-- The causes of RING STOPPED, in the order of R140. -/
inductive StopCause where
  | stop | finish | release | maintenance
  deriving DecidableEq, Repr

/-- The causes of RING DEFERRED, in the order of R140. -/
inductive DeferCause where
  | evicted | followOn
  deriving DecidableEq, Repr

/-- The causes of RING FAILED, in the order of R140; FEED FAULT carries its supply; log 10. -/
inductive RingFailure where
  | feedFault (sup : Supply) | cadenceFault | groundFault | waitLimit | lineLost
  deriving DecidableEq, Repr

/-- The run that completed a plant declaration, in the order of R148. -/
inductive PlantRun where
  | economy | shed | recovery
  deriving DecidableEq, Repr

/-- The causes of PORT STATE, in the order of R159. -/
inductive PortStateCause where
  | window | restart | request
  deriving DecidableEq, Repr

/-- The detail of a report, one constructor for each kind of R171. -/
inductive ReportBody where
  | originate (stage : OfferStage) (state : LineState) (dialling : Option Dialling) (cls : ClassNo) (deadline : Ms)
  | abandon (cause : AbandonCause) (digits : Nat)
  | digit (d : Digit) (inCall : Bool)
  | dialingComplete (delivered : Nat)
  | digitError (cause : DigitErrorCause) (count : Nat)
  | interdigitTimeout (delivered expected : Nat)
  | dialRestart (removed discarded : Nat)
  | flash (state : LineState) (emptied discarded : Nat) (deadline : Ms)
  | recallLapsed (cause : RecallLapse)
  | unclassifiedBreak (start : Ms) (length : Nat)
  | clear (state : LineState) (discarded : Nat) (orphan : Bool)
  | releaseForced
  | answer (party : Nat) (sup : Option Supply) (program : ProgramNo) (q : Qualification) (kind : Option StepKind) (residue : Nat)
  | noAnswer (party : Nat) (sup : Supply) (program : ProgramNo)
  | ringStopped (cause : StopCause) (party : Nat) (program : ProgramNo) (residue : Nat)
  | ringDeferred (cause : DeferCause) (party : Nat) (program : ProgramNo) (cycles : Nat)
  | ringFailed (cause : RingFailure) (party : Nat) (program : ProgramNo) (residue : Nat)
  | ringCancelled (party : Nat) (program : ProgramNo) (requester : Port) (residue : Nat)
  | lineParked (reason : ParkReason)
  | lineUnparked
  | lineLost
  | lineRestored
  | orphaned
  | toneDelay (waited : Nat) (position inUse limit : Nat)
  | plantState (new previous : PlantState) (level : Nat) (run : PlantRun)
  | plantSenseLost (lastWord : Option Ms) (lastLevel : Option Nat) (state : PlantState)
  | plantSenseRestored (level : Nat) (since : Option Nat) (state : PlantState)
  | portState (port : Port) (new : PortState) (cause : PortStateCause)
  | lineSnapshot (data : List Byte)
  | shelfSnapshot (data : List Byte)
  deriving DecidableEq, Repr

/-- A report record: the line it concerns (or none), the time of the event that made it, and its detail (R162). -/
structure Report where
  line : Option LineNo
  time : Ms
  body : ReportBody
  deriving DecidableEq, Repr

/-! ## The Shelf Clock (R28, R102) -/

/-- The Shelf Clock; log 1, log 2. -/
structure Clock where
  /-- milliseconds since the last reset -/
  elapsed : Ms
  /-- the earliest scan instant not yet taken -/
  nextScan : Ms
  /-- the next slot boundary -/
  nextSlot : Ms
  /-- the ring frame slot counter (R102) -/
  slot : Fin 30
  deriving DecidableEq, Repr

/-! ## The Line Table (chapter 1) -/

/-- A line's one timer when it runs (R6). -/
structure Timer where
  purpose : TimerPurpose
  deadline : Ms
  deriving DecidableEq, Repr

/-- A party entry (R3). -/
structure Party where
  route : RingRoute
  load : Nat
  deriving DecidableEq, Repr

/-- A line record (R1). A field that is present in particular states is `none` elsewhere. The number of parties is the
number of party entries (R1: "a list with one entry per party"). -/
structure LineRecord where
  state : LineState
  hook : Hook
  holder : Option Port
  orphan : Bool
  offer : OfferStage
  offeredPort : Option Port
  offerDeadline : Option Ms
  recallMark : Bool
  dialling : Option Dialling
  digits : List Digit
  expected : Nat
  delivered : Nat
  timer : Option Timer
  toneWaitStart : Option Ms
  toneDelayReported : Option Bool
  reorigination : Option Bool
  returnState : Option ReturnState
  admin : Bool
  oosReason : Option OosReason
  parkReason : Option ParkReason
  digitInProgress : Option Bool
  cls : ClassNo
  parties : List Party
  feed : Feed
  deriving DecidableEq, Repr

/-- A line class (R10). All lengths are held in milliseconds. -/
structure LineClass where
  hitLimit : Nat
  originationQualify : Nat
  pulseBreakMin : Nat
  pulseBreakMax : Nat
  interdigitMake : Nat
  flashMin : Nat
  flashMax : Nat
  ringTripQualify : Nat
  firstDigitTimeout : Nat
  interdigitTimeout : Nat
  claimWindow : Nat
  recallWindow : Nat
  releaseWait : Nat
  parkRelease : Nat
  dialling : Dialling
  home : Port
  alternate : Option Port
  deriving DecidableEq, Repr

/-! ## The Line Scanner (chapter 2) -/

/-- A run of like samples with the qualify time latched for it (R29, R39). -/
structure Run where
  start : Ms
  qualify : Nat
  deriving DecidableEq, Repr

/-- An off-hook run in ON-HOOK or RING-OFF (R32, R43). The make that the run becomes begins at the run's first sample, and its
interdigit make is latched there (R39). -/
structure OffHookRun extends Run where
  interdigitMake : Nat
  deriving DecidableEq, Repr

/-- A break with the timings latched for it (R33, R39). -/
structure BreakRun where
  start : Ms
  hitLimit : Nat
  pulseBreakMin : Nat
  pulseBreakMax : Nat
  flashMin : Nat
  flashMax : Nat
  deriving DecidableEq, Repr

/-- The fields of a scanner record in OFF-HOOK (R30). -/
structure OffHookScan where
  makeStart : Ms
  interdigitMake : Nat
  breakRun : Option BreakRun
  pulses : Nat
  overlong : Bool
  deferred : Bool
  ringLatch : Bool
  deriving DecidableEq, Repr

/-- The scan mode with the fields of that mode (R30). -/
inductive ScanMode where
  | out
  | onHook (run : Option OffHookRun)
  | offHook (f : OffHookScan)
  | ringOn (run : Option Run) (fed : Bool)
  | ringOff (run : Option OffHookRun)
  deriving DecidableEq, Repr

/-- A scanner record: the scan mode and the ground state, ACTIVE or not (R30, R46). -/
structure ScanRecord where
  mode : ScanMode
  ground : Bool
  deriving DecidableEq, Repr

/-- A card as the scanner holds it: its state, its settle start while SETTLING, and whether the last card-present sample
differed from the state (R47, R48). -/
structure CardRecord where
  state : CardState
  settleStart : Option Ms
  differed : Bool
  deriving DecidableEq, Repr

/-- An event the scanner declared for a line, with the shelf time of the sample it was declared at (R31). -/
inductive ScanEvent where
  | offHook (time runStart : Ms)
  | pulse (time : Ms) (length count : Nat)
  | flash (time breakStart : Ms) (length discarded : Nat)
  | badBreak (time breakStart : Ms) (length : Nat)
  | disconnect (time breakStart : Ms) (discarded : Nat)
  | digitEnd (time : Ms) (outcome : DigitOutcome) (count : Nat)
  | answer (time : Ms) (q : Qualification) (kind : StepKind) (runStart : Ms)
  | cardLoss (time : Ms)
  | cardPresent (time : Ms)
  | cardSettled (time : Ms)
  deriving DecidableEq, Repr

/-- A command of the Line Table to the scanner (R45). -/
inductive ScanCommand where
  | takeAfresh | discardPulseCount
  deriving DecidableEq, Repr

/-- A ringing indication of the Sequencer to the scanner (R40). -/
inductive RingIndication where
  | stepOn | stepOff | ringEnd
  deriving DecidableEq, Repr

/-! ## The Tone Pool (3.2) -/

/-- A line in the tone wait queue with its tone delay deadline (R55, R61). -/
structure ToneWaiter where
  line : LineNo
  deadline : Ms
  deriving DecidableEq, Repr

/-- The Tone Pool (R55). `delayThreshold` is in seconds; `plant` is the plant state the pool has last taken; log 9. -/
structure TonePool where
  taps : Vector (Option LineNo) 12
  queue : List ToneWaiter
  economyLimit : Nat
  shedLimit : Nat
  delayThreshold : Nat
  currentLimit : Nat
  plant : PlantState
  deriving DecidableEq, Repr

/-! ## The Cadence Store (chapter 5) -/

/-- The fields of a written step (R88); `length` is in slots. -/
structure StepFields where
  kind : StepKind
  length : Nat
  marker : Bool
  deriving DecidableEq, Repr

/-- A check code. The spec gives no algorithm, only that the code is derived from the step number and the contents and
that the comparison fails if any of them differs (R88), so the code is the pair of the two; log 7. -/
structure CheckCode where
  step : StepNo
  contents : Option StepFields
  deriving DecidableEq, Repr

/-- A step of the store: its contents (`none` when clear) and the code stored with it (R88). -/
structure StepCell where
  contents : Option StepFields
  code : CheckCode
  deriving DecidableEq, Repr

/-- The shape of a program (R89, R90). -/
structure Shape where
  count : Nat
  cycle : Nat
  starts : List Nat
  onSlots : List Nat
  deriving DecidableEq, Repr

/-- The causes for which COMMIT PROGRAM refuses a draft, in the order of the tests (R92). -/
inductive CommitCause where
  | check (position : Nat) | noOnStep | marker | cycleLength | followOn
  deriving DecidableEq, Repr

/-- An entry of the program directory (R89). -/
structure ProgramEntry where
  state : ProgramState
  shape : Option Shape
  followOn : Option ProgramNo
  switchAfter : Option Nat
  uses : Nat
  faultedAt : Option Nat
  deriving DecidableEq, Repr

/-! ## The Ring Allocator (chapter 6) -/

/-- What the Allocator holds for one supply (R103, R104, R106, R116). -/
structure SupplyRecord where
  map : Vector Nat 30
  normal : Nat
  economy : Nat
  current : Nat
  pointer : Fin 30
  turn : Option LineNo
  deriving DecidableEq, Repr

/-- A waiting ring request (R112). -/
structure WaitingRequest where
  line : LineNo
  party : Nat
  program : ProgramNo
  cycles : Nat
  requester : Port
  priority : Priority
  age : Ms
  passOvers : Nat
  enqueued : Ms
  deadline : Ms
  deriving DecidableEq, Repr

/-- The Ring Allocator. `waitLimit` is in seconds; `plant` is the plant state the Allocator has last taken; log 9. -/
structure Allocator where
  one : SupplyRecord
  two : SupplyRecord
  lastStamp : Nat
  queue : List WaitingRequest
  waitLimit : Nat
  turnThreshold : Nat
  plant : PlantState
  deriving DecidableEq, Repr

/-! ## The Ring Sequencer (chapter 7) -/

/-- The step an entry is in, as it was read when the entry entered it (R96, R126). -/
structure CurrentStep where
  index : Nat
  kind : StepKind
  marker : Bool
  deriving DecidableEq, Repr

/-- A ring entry (R107, R127, R138). `step` is `none` until the entry enters its first step. -/
structure RingEntry where
  party : Nat
  sup : Supply
  offset : Nat
  program : ProgramNo
  step : Option CurrentStep
  slotsLeft : Nat
  cycles : Nat
  cyclesInProgram : Nat
  requester : Port
  priority : Priority
  age : Ms
  stamp : Nat
  fed : Bool
  missed : Nat
  finishing : Bool
  deriving DecidableEq, Repr

/-- The position of a ring relay (R123). -/
inductive Relay where
  | released
  | driven (sup : Supply) (leg : Leg)
  deriving DecidableEq, Repr

/-! ## The Plant Monitor (chapter 8) -/

/-- The six plant limits (R147): levels in tenths of a volt, times in seconds. -/
structure PlantLimits where
  economyLevel : Nat
  shedLevel : Nat
  hysteresis : Nat
  economyQualify : Nat
  shedQualify : Nat
  recoveryTime : Nat
  deriving DecidableEq, Repr

/-- The Plant Monitor (R142-R145). A run is held by its start. -/
structure PlantMonitor where
  state : PlantState
  limits : PlantLimits
  economyRun : Option Ms
  shedRun : Option Ms
  recoveryRun : Option Ms
  senseLost : Bool
  senseDeadline : Option Ms
  lastLevel : Option Nat
  lastWordTime : Option Ms
  deriving DecidableEq, Repr

/-! ## The Control Ports and the Report Unit (chapters 9 and 10) -/

/-- A frame being assembled: the bytes received so far, the start byte first, and the time of the last of them (R150). -/
structure PartFrame where
  bytes : List Byte
  lastByte : Ms
  deriving DecidableEq, Repr

/-- The results an answer mark stands for (R151). -/
inductive MarkResult where
  | frameError | overrun
  deriving DecidableEq, Repr

/-- An item of a reply order: a held good frame, by its kind and body, or an answer mark (R151). -/
inductive ReplyItem where
  | held (kind : Byte) (body : List Byte)
  | mark (result : MarkResult) (count : Nat)
  deriving DecidableEq, Repr

/-- What a request's own rule shows in its response while the frame formats give it no bytes: the cause of a refused COMMIT
PROGRAM (R92 beside R169; log 12), and the step starts and the ON pattern of READ PROGRAM (R99 beside R172; log 16). -/
inductive ResponseNote where
  | cause (c : CommitCause)
  | pattern (starts onSlots : List Nat)
  deriving DecidableEq, Repr

/-- A control port. `window` is in seconds. `sent` is the port's serial output: the response frames it has sent, oldest
first; nothing in the part reads it; log 14. `notes` holds what responses show beyond their bytes, each with the place of its
response in `sent`; log 12, log 16. -/
structure PortRecord where
  state : PortState
  window : Nat
  deadline : Option Ms
  assembling : Option PartFrame
  reply : List ReplyItem
  attention : Bool
  sent : List (List Byte)
  notes : List (Nat × ResponseNote)
  deriving DecidableEq, Repr

/-- The three ports. -/
structure PortRecords where
  a : PortRecord
  b : PortRecord
  m : PortRecord
  deriving DecidableEq, Repr

/-- A report queue with its resync marks and shelf mark (R165). -/
structure ReportQueue where
  records : List Report
  marks : Vector Bool 64
  shelfMark : Bool
  deriving DecidableEq, Repr

/-- The three report queues. -/
structure ReportQueues where
  a : ReportQueue
  b : ReportQueue
  m : ReportQueue
  deriving DecidableEq, Repr

/-! ## The whole part -/

/-- The state of the part. -/
structure State where
  /-- Shelf Clock -/
  clock : Clock
  /-- Line Table: the line records -/
  lines : Vector LineRecord 64
  /-- Line Table: the line classes -/
  classes : Vector LineClass 8
  /-- Line Scanner: the scanner records -/
  scans : Vector ScanRecord 64
  /-- Line Scanner: the cards -/
  cards : Vector CardRecord 8
  /-- Tone Pool -/
  tone : TonePool
  /-- Cadence Store: the steps -/
  steps : Vector StepCell 128
  /-- Cadence Store: the program directory -/
  programs : Vector ProgramEntry 16
  /-- Ring Allocator -/
  alloc : Allocator
  /-- Ring Sequencer: the ring table -/
  entries : Vector (Option RingEntry) 64
  /-- Ring Sequencer: the ring relays -/
  relays : Vector Relay 64
  /-- Plant Monitor -/
  plant : PlantMonitor
  /-- Control Ports -/
  ports : PortRecords
  /-- Control Ports: the cause of the last reset -/
  lastReset : ResetCause
  /-- Control Ports: a SHELF RESET has been answered OK and has not yet taken effect (R161) -/
  shelfResetDue : Bool
  /-- Report Unit: the report queues -/
  queues : ReportQueues
  /-- Report Unit: the routes of the 22 kinds whose route may be changed, by kind code from 66 on (R162, R171) -/
  routes : Vector ReportRoute 22
  /-- scanner events declared and not yet taken at the line record, oldest first (R31) -/
  scanEvents : Vector (List ScanEvent) 64
  /-- BURST FED notices declared and not yet taken by the Sequencer, by the time of their sample (R42) -/
  burstNotices : Vector (List Ms) 64
  /-- commands of the Line Table not yet taken at the scanner record, oldest first (R45) -/
  scanCommands : Vector (List ScanCommand) 64
  /-- ringing indications not yet taken at the scanner record, oldest first (R40) -/
  indications : Vector (List RingIndication) 64
  /-- plant states declared and not yet taken by the Ring Allocator, oldest first (R146) -/
  allocPlant : List PlantState
  /-- plant states declared and not yet taken by the Tone Pool, oldest first (R146) -/
  tonePlant : List PlantState
  /-- the event under way calls for a placement pass at its end (R114); no between events; log 13 -/
  passDue : Bool
  /-- the event under way has returned a tap (R57); no between events; log 13 -/
  tapReturned : Bool
  /-- the commands that are waiting, first in, first out; log 23 -/
  pending : List Instr
  deriving DecidableEq, Repr

/-- Why the part stops with a fault: never. The spec names nothing that stops the part (INVENTORY.md, "Faults"), so the
type has no constructor. -/
inductive Fault where
  deriving DecidableEq, Repr

/-- Why a command has no meaning. -/
inductive Refusal where
  /-- raised only by an arm of `exec` whose command has no meaning yet (none has); safe: the model stops -/
  | notModelled (mnemonic : String)
  deriving DecidableEq, Repr

/-! ## Values after power-on reset -/

/-- The defaults of a line class (R10). -/
def LineClass.default : LineClass where
  hitLimit := 15
  originationQualify := 60
  pulseBreakMin := 30
  pulseBreakMax := 95
  interdigitMake := 240
  flashMin := 200
  flashMax := 900
  ringTripQualify := 30
  firstDigitTimeout := 12000
  interdigitTimeout := 8000
  claimWindow := 2000
  recallWindow := 4000
  releaseWait := 20000
  parkRelease := 2000
  dialling := .pulse
  home := .A
  alternate := some .B

/-- A line record after power-on reset (R26). Every card starts SETTLING (R49), so the reason is SETTLE. Reorigination pending is
absent, though R26 writes "no": R1 gives the field to CLEARED alone; log 26. -/
def LineRecord.reset : LineRecord where
  state := .outOfService
  hook := .on
  holder := none
  orphan := false
  offer := .none
  offeredPort := none
  offerDeadline := none
  recallMark := false
  dialling := none
  digits := []
  expected := 0
  delivered := 0
  timer := none
  toneWaitStart := none
  toneDelayReported := none
  reorigination := none
  returnState := none
  admin := false
  oosReason := some .settle
  parkReason := none
  digitInProgress := none
  cls := 0
  parties := [⟨.loopAny, 2⟩]
  feed := .reduced

/-- A step cell with the check code of its contents (R88). -/
def StepCell.written (n : StepNo) (c : Option StepFields) : StepCell := ⟨c, ⟨n, c⟩⟩

/-- The steps after power-on reset (R100): steps 0 and 1 hold program 0, the others are clear. -/
def StepCell.reset (n : StepNo) : StepCell :=
  StepCell.written n
    (if n = 0 then some ⟨.on, 10, false⟩ else if n = 1 then some ⟨.off, 20, true⟩ else none)

/-- An EMPTY directory entry (R89, R94). -/
def ProgramEntry.empty : ProgramEntry := ⟨.empty, none, none, none, 0, none⟩

/-- The directory after power-on reset (R100): program 0 is READY, the others are EMPTY. -/
def ProgramEntry.reset (p : ProgramNo) : ProgramEntry :=
  if p = 0 then ⟨.ready, some ⟨2, 30, [0, 10], [0, 1, 2, 3, 4, 5, 6, 7, 8, 9]⟩, none, none, 0, none⟩
  else .empty

/-- A supply after power-on reset (R122). -/
def SupplyRecord.reset : SupplyRecord := ⟨Vector.replicate 30 0, 24, 12, 24, 0, none⟩

/-- A port after power-on reset (R161), with its presence window (R155). -/
def PortRecord.reset (window : Nat) : PortRecord := ⟨.silent, window, none, none, [], false, [], []⟩

/-- A report queue after either reset (R168). -/
def ReportQueue.reset : ReportQueue := ⟨[], Vector.replicate 64 false, false⟩

/-- The default routes of the kinds 66 to 87 (R162), in the order of their codes (R171). -/
def defaultRoutes : Vector ReportRoute 22 :=
  #v[.holder, .holder, .holder, .holder, .holder, .holder, .holder, .none, .holder, .holderAndM, .holder, .holder,
     .holder, .holder, .holderAndM, .m, .holderAndM, .m, .holderAndM, .m, .m, .m]

/-- The part right after power-on reset, with no command waiting. The slot boundary at shelf time 0 is the one that makes the
counter 0 (R28, R102): it is part of the reset, and the next boundary is at 200 ms; log 21. -/
def State.reset : State where
  clock := ⟨0, 0, Config.slotLength, 0⟩
  lines := Vector.replicate 64 .reset
  classes := Vector.replicate 8 .default
  scans := Vector.replicate 64 ⟨.out, false⟩
  cards := Vector.replicate 8 ⟨.settling, some 0, false⟩
  tone := ⟨Vector.replicate 12 none, [], 6, 2, 3, 12, .normal⟩
  steps := Vector.ofFn StepCell.reset
  programs := Vector.ofFn ProgramEntry.reset
  alloc := ⟨.reset, .reset, 0, [], 10, 6, .normal⟩
  entries := Vector.replicate 64 none
  relays := Vector.replicate 64 .released
  plant := ⟨.normal, ⟨465, 430, 10, 20, 5, 60⟩, none, none, none, false, some Config.senseTime, none, none⟩
  ports := ⟨.reset 10, .reset 10, .reset 0⟩
  lastReset := .power
  shelfResetDue := false
  queues := ⟨.reset, .reset, .reset⟩
  routes := defaultRoutes
  scanEvents := Vector.replicate 64 []
  burstNotices := Vector.replicate 64 []
  scanCommands := Vector.replicate 64 []
  indications := Vector.replicate 64 []
  allocPlant := []
  tonePlant := []
  passDue := false
  tapReturned := false
  pending := []

end Sys2Proof.Machine
end

