-- ==== Sys2Proof/Machine/Ops.lean ====
section
/-! DEFINITION. The named operations over the state: one way in and one way out of every register, the notices between
blocks, the entry of a line into a state (1.2, R1, R6) and the marks of the event under way. -/

namespace Sys2Proof.Machine

/-- Every line in ascending order. -/
def allLines : List LineNo := (List.range 64).map (Fin.ofNat 64)

/-- The eight lines of a card in ascending order: card c carries lines 8c to 8c+7 (00_scope.md). -/
def cardLines (c : CardNo) : List LineNo := (List.range 8).map fun k => Fin.ofNat 64 (8 * c.val + k)

/-- The card that carries a line. -/
def cardOf (l : LineNo) : CardNo := Fin.ofNat 8 (l.val / 8)

/-- The three ports in order. -/
def allPorts : List Port := [.A, .B, .M]

/-- The two supplies in order. -/
def allSupplies : List Supply := [.one, .two]

namespace State

/-! ### Reading -/

/-- The present time: milliseconds since the last reset; log 1. -/
def now (s : State) : Ms := s.clock.elapsed

/-- Shelf time, the 32 bits of the present time (R28). -/
def shelfTime (s : State) : ShelfTime := BitVec.ofNat 32 s.clock.elapsed

def line (s : State) (l : LineNo) : LineRecord := s.lines[l]

def classOf (s : State) (c : ClassNo) : LineClass := s.classes[c]

/-- The class a line names, as it stands now. -/
def lineClass (s : State) (l : LineNo) : LineClass := s.classOf (s.line l).cls

def scan (s : State) (l : LineNo) : ScanRecord := s.scans[l]

def card (s : State) (c : CardNo) : CardRecord := s.cards[c]

def step (s : State) (n : StepNo) : StepCell := s.steps[n]

def program (s : State) (p : ProgramNo) : ProgramEntry := s.programs[p]

def entry (s : State) (l : LineNo) : Option RingEntry := s.entries[l]

def relay (s : State) (l : LineNo) : Relay := s.relays[l]

def supply (s : State) : Supply → SupplyRecord
  | .one => s.alloc.one
  | .two => s.alloc.two

def port (s : State) : Port → PortRecord
  | .A => s.ports.a
  | .B => s.ports.b
  | .M => s.ports.m

def queue (s : State) : Port → ReportQueue
  | .A => s.queues.a
  | .B => s.queues.b
  | .M => s.queues.m

def eventsOf (s : State) (l : LineNo) : List ScanEvent := s.scanEvents[l]

def burstsOf (s : State) (l : LineNo) : List Ms := s.burstNotices[l]

def commandsOf (s : State) (l : LineNo) : List ScanCommand := s.scanCommands[l]

def indicationsOf (s : State) (l : LineNo) : List RingIndication := s.indications[l]

/-- A port that is PRESENT (R154). -/
def present (s : State) (p : Port) : Bool := (s.port p).state == .present

/-- The waiting request of a line, if it has one (R112). -/
def request (s : State) (l : LineNo) : Option WaitingRequest := s.alloc.queue.find? (·.line == l)

/-! ### Writing -/

def setLine (s : State) (l : LineNo) (r : LineRecord) : State := { s with lines := s.lines.set l r }

/-- Change a line record. -/
def modLine (s : State) (l : LineNo) (f : LineRecord → LineRecord) : State := s.setLine l (f (s.line l))

def setClass (s : State) (c : ClassNo) (r : LineClass) : State := { s with classes := s.classes.set c r }

def setScan (s : State) (l : LineNo) (r : ScanRecord) : State := { s with scans := s.scans.set l r }

/-- Put a scanner record into a mode; the ground state is kept. -/
def setMode (s : State) (l : LineNo) (m : ScanMode) : State := s.setScan l { s.scan l with mode := m }

def setCard (s : State) (c : CardNo) (r : CardRecord) : State := { s with cards := s.cards.set c r }

def setStep (s : State) (n : StepNo) (r : StepCell) : State := { s with steps := s.steps.set n r }

def setProgram (s : State) (p : ProgramNo) (r : ProgramEntry) : State := { s with programs := s.programs.set p r }

def setEntry (s : State) (l : LineNo) (e : Option RingEntry) : State := { s with entries := s.entries.set l e }

def setRelay (s : State) (l : LineNo) (r : Relay) : State := { s with relays := s.relays.set l r }

def setSupply (s : State) (sup : Supply) (r : SupplyRecord) : State :=
  match sup with
  | .one => { s with alloc := { s.alloc with one := r } }
  | .two => { s with alloc := { s.alloc with two := r } }

/-- Replace the ring wait queue. -/
def setWaiting (s : State) (q : List WaitingRequest) : State := { s with alloc := { s.alloc with queue := q } }

def setTone (s : State) (t : TonePool) : State := { s with tone := t }

def setPlant (s : State) (p : PlantMonitor) : State := { s with plant := p }

def setPort (s : State) (p : Port) (r : PortRecord) : State :=
  match p with
  | .A => { s with ports := { s.ports with a := r } }
  | .B => { s with ports := { s.ports with b := r } }
  | .M => { s with ports := { s.ports with m := r } }

/-- Change a port record. -/
def modPort (s : State) (p : Port) (f : PortRecord → PortRecord) : State := s.setPort p (f (s.port p))

/-- Replace a report queue record, leaving the attention output (only `setQueue` of Machine/Flags.lean calls this). -/
def putQueue (s : State) (p : Port) (r : ReportQueue) : State :=
  match p with
  | .A => { s with queues := { s.queues with a := r } }
  | .B => { s with queues := { s.queues with b := r } }
  | .M => { s with queues := { s.queues with m := r } }

/-! ### Notices between blocks -/

def setEvents (s : State) (l : LineNo) (es : List ScanEvent) : State := { s with scanEvents := s.scanEvents.set l es }

/-- The scanner delivers an event to a line record (R31): it joins the events of the line not yet taken. -/
def declareEvent (s : State) (l : LineNo) (e : ScanEvent) : State := s.setEvents l (s.eventsOf l ++ [e])

def setBursts (s : State) (l : LineNo) (ts : List Ms) : State := { s with burstNotices := s.burstNotices.set l ts }

def setCommands (s : State) (l : LineNo) (cs : List ScanCommand) : State :=
  { s with scanCommands := s.scanCommands.set l cs }

/-- The Line Table sends a command to the scanner (R45). -/
def sendCommand (s : State) (l : LineNo) (c : ScanCommand) : State := s.setCommands l (s.commandsOf l ++ [c])

def setIndications (s : State) (l : LineNo) (is : List RingIndication) : State :=
  { s with indications := s.indications.set l is }

/-- The Sequencer sends a ringing indication to the scanner (R40). -/
def indicate (s : State) (l : LineNo) (i : RingIndication) : State := s.setIndications l (s.indicationsOf l ++ [i])

/-! ### Marks of the event under way; log 13 -/

/-- A placement pass is due at the end of this event (R114). -/
def callPass (s : State) : State := { s with passDue := true }

/-- A tap has been returned in this event (R57). -/
def markTapReturned (s : State) : State := { s with tapReturned := true }

end State

/-! ## Line states -/

/-- TONE_WAIT, DIAL_TONE and DIGITS are the originating states (1.2). -/
def LineState.originating : LineState → Bool
  | .toneWait | .dialTone | .digits => true
  | _ => false

/-- The states in which a line has no holder: IDLE, PARKED and OUT_OF_SERVICE (R4). -/
def LineState.unheld : LineState → Bool
  | .idle | .parked | .outOfService => true
  | _ => false

/-- The feed of a state (the table of 1.2): reduced in OUT_OF_SERVICE and PARKED, normal elsewhere. -/
def LineState.feed : LineState → Feed
  | .outOfService | .parked => .reduced
  | _ => .normal

/-- The states in which a supervision timer purpose runs (the table of R6). -/
def TimerPurpose.runsIn : TimerPurpose → LineState → Bool
  | .firstDigit, .toneWait | .firstDigit, .dialTone => true
  | .interdigit, .digits | .recallWindow, .recalling | .releaseWait, .cleared | .parkRelease, .parked => true
  | _, _ => false

/-- An originating line to which the offer still applies: stage HOME or ALTERNATE. -/
def OfferStage.open : OfferStage → Bool
  | .home | .alternate => true
  | _ => false

/-- A line enters a state: the supervision timer is stopped (R6), the fields that are not present in the new state become
absent (R1), the holder becomes none in IDLE, PARKED and OUT_OF_SERVICE (R4), the digit buffer and the expected digits are
emptied where the state holds none (R1, R74), digits delivered becomes 0 outside the originating states (R1), and the feed is
that of the state. The rule that governs the entry then sets what the state calls for. -/
def LineRecord.enter (r : LineRecord) (st : LineState) : LineRecord :=
  { r with
    state := st
    timer := none
    holder := if st.unheld then none else r.holder
    orphan := r.orphan && (st == .held || st == .recalling)
    offer := if st.originating then r.offer else .none
    offeredPort := if st.originating then r.offeredPort else none
    offerDeadline := if st.originating then r.offerDeadline else none
    recallMark := r.recallMark && st.originating
    dialling := if st.originating then r.dialling else none
    digits := if st.originating || st == .recalling then r.digits else []
    expected := if st.originating then r.expected else 0
    delivered := if st.originating then r.delivered else 0
    toneWaitStart := if st == .toneWait then r.toneWaitStart else none
    toneDelayReported := if st == .toneWait then r.toneDelayReported else none
    reorigination := if st == .cleared then r.reorigination else none
    returnState := if st == .ringWait || st == .ringing then r.returnState else none
    oosReason := if st == .outOfService then r.oosReason else none
    parkReason := if st == .parked then r.parkReason else none
    digitInProgress := if st == .recalling then r.digitInProgress else none
    feed := st.feed }

/-- A line has a holder other than `p` (R53, R110: "HELD ELSEWHERE"). -/
def LineRecord.heldElsewhere (r : LineRecord) (p : Port) : Bool :=
  match r.holder with
  | some q => q != p
  | none => false

namespace State

/-- A line enters a state (`LineRecord.enter`). -/
def enter (s : State) (l : LineNo) (st : LineState) : State := s.modLine l (·.enter st)

/-- Start a line's supervision timer with a length counted from the present time (R6). -/
def startTimer (s : State) (l : LineNo) (p : TimerPurpose) (length : Nat) : State :=
  s.modLine l fun r => { r with timer := some ⟨p, s.now + length⟩ }

/-- Stop a line's supervision timer (R6). -/
def stopTimer (s : State) (l : LineNo) : State := s.modLine l fun r => { r with timer := none }

/-- The expiry of a purpose is there to be taken at the line: the timer runs with that purpose, its deadline has passed, and
the line is in a state in which that purpose runs ("no expiry is taken for a purpose the line has left", R6). -/
def timerExpired (s : State) (l : LineNo) (p : TimerPurpose) : Bool :=
  match (s.line l).timer with
  | some t => t.purpose == p && t.deadline ≤ s.now && p.runsIn (s.line l).state
  | none => false

end State

/-- A deadline has passed. -/
def deadlinePassed (d : Option Ms) (now : Ms) : Bool :=
  match d with
  | some t => t ≤ now
  | none => false

end Sys2Proof.Machine
end

