-- ==== Sys2Proof/Machine/Cadence.lean ====
section
/-! DEFINITION. The Cadence Store (chapter 5): steps and their check codes, shapes, the program directory, use counts and
the validation of a draft (R88-R98). -/

namespace Sys2Proof.Machine

/-- Every program in ascending order. -/
def allPrograms : List ProgramNo := (List.range 16).map (Fin.ofNat 16)

/-- Position `i` of program `p` is step 8p + i (R88). -/
def stepNo (p : ProgramNo) (i : Nat) : StepNo := Fin.ofNat 128 (8 * p.val + i)

/-- The step's code agrees with its number and its fields as they now stand (R88, R96). -/
def StepCell.passes (n : StepNo) (c : StepCell) : Bool := c.code == ⟨n, c.contents⟩

/-- The cycle slot at which each step begins, the first at `start` (R90). -/
def startsFrom (start : Nat) : List StepFields → List Nat
  | [] => []
  | f :: fs => start :: startsFrom (start + f.length) fs

/-- The cycle slots that lie within ON steps, the first step beginning at `start` (R90). -/
def onSlotsFrom (start : Nat) : List StepFields → List Nat
  | [] => []
  | f :: fs =>
    (if f.kind == .on then (List.range f.length).map (start + ·) else []) ++ onSlotsFrom (start + f.length) fs

/-- The sum of the step lengths (R90). -/
def cycleLength (fs : List StepFields) : Nat := fs.foldl (fun n f => n + f.length) 0

/-- The shape of a list of steps (R90). -/
def shapeOf (fs : List StepFields) : Shape := ⟨fs.length, cycleLength fs, startsFrom 0 fs, onSlotsFrom 0 fs⟩

namespace State

/-- The shape the Allocator reads for a program (R90); without one no slot is ON. -/
def shape (s : State) (p : ProgramNo) : Shape := (s.program p).shape.getD ⟨0, 0, [], []⟩

/-- The step count of a program's directory entry, 0 when absent. -/
def stepCount (s : State) (p : ProgramNo) : Nat := (s.shape p).count

/-- A program is READY (R89). -/
def ready (s : State) (p : ProgramNo) : Bool := (s.program p).state == .ready

/-- A step read (R96): the fields when the codes agree, `none` when the read fails. A step that is clear holds nothing to
enter, so reading one fails too; log 29. -/
def readStep (s : State) (p : ProgramNo) (i : Nat) : Option StepFields :=
  let n := stepNo p i
  if i < 8 && (s.step n).passes n then (s.step n).contents else none

/-- The first position below `n` whose read fails, in position order (R92, R99). -/
def firstFailing (s : State) (p : ProgramNo) (n : Nat) : Option Nat := (List.range n).find? fun i => (s.readStep p i).isNone

/-- The fields of the steps at the positions below `n`, as they stand. -/
def blockFields (s : State) (p : ProgramNo) (n : Nat) : List StepFields :=
  (List.range n).filterMap fun i => (s.step (stepNo p i)).contents

/-- Write the block of a program: positions below the list's length from the list, the others cleared, each with a fresh
check code (R88, R91). -/
def writeBlock (s : State) (p : ProgramNo) (fs : List StepFields) : State :=
  (List.range 8).foldl (fun s i => s.setStep (stepNo p i) (.written (stepNo p i) fs[i]?)) s

/-- Program `q` names `p` as its follow-on (R93). -/
def namesProgram (s : State) (q p : ProgramNo) : Bool := s.ready q && (s.program q).followOn == some p && q != p

/-- The programs that name `p`, in ascending order (R99). -/
def namingPrograms (s : State) (p : ProgramNo) : List ProgramNo := allPrograms.filter fun q => s.namesProgram q p

/-- A use of a program is taken (R95). -/
def takeUse (s : State) (p : ProgramNo) : State := s.setProgram p { s.program p with uses := (s.program p).uses + 1 }

/-- A use of a program is dropped (R95). -/
def dropUse (s : State) (p : ProgramNo) : State := s.setProgram p { s.program p with uses := (s.program p).uses - 1 }

/-- The validation of a draft by COMMIT PROGRAM: the cause of the first failing test in the order of the table (R92). -/
def commitCause (s : State) (p : ProgramNo) (follow : Option ProgramNo) : Option CommitCause :=
  let n := s.stepCount p
  let fs := s.blockFields p n
  match s.firstFailing p n with
  | some i => some (.check i)
  | none =>
    if !fs.any (·.kind == .on) then some .noOnStep
    else if !((fs.filter (·.marker)).length == 1 && (fs.getLast?.map (·.marker)).getD false) then some .marker
    else if 30 % (s.shape p).cycle != 0 then some .cycleLength
    else match follow with
      | none => none
      | some f => if f == p || s.ready f then none else some .followOn

end State

end Sys2Proof.Machine
end

