-- ==== Sys2Proof/Machine/Codes.lean ====
section
/-! DEFINITION. The codes of everything the part sends (R169, R170, R171). An enumerated field whose codes no table gives
has the position, counting from 1, of its value in the list of its defining rule, and 0 when absent (R171). -/

namespace Sys2Proof.Machine

/-- Result codes (R169). -/
inductive Result where
  | ok | heldElsewhere | lineActive | notHolder | badValue | inUse | notReady | noCapacity | ringActive | notPermitted
  | frameError | unknownKind | overrun
  deriving DecidableEq, Repr

/-- The code of a result (R169). -/
def Result.code : Result → Nat
  | .ok => 0
  | .heldElsewhere => 1
  | .lineActive => 2
  | .notHolder => 3
  | .badValue => 4
  | .inUse => 5
  | .notReady => 6
  | .noCapacity => 7
  | .ringActive => 8
  | .notPermitted => 9
  | .frameError => 10
  | .unknownKind => 11
  | .overrun => 12

/-- What the owner of a request returns: a result and the data its rule names (R152), and what the rule shows beyond the
bytes of the frame, if anything; log 12, log 16. -/
structure Reply where
  result : Result
  data : List Byte
  note : Option ResponseNote
  deriving DecidableEq, Repr

/-- A refusal: "A refused request is answered with no data" (R169). -/
def Reply.refuse (r : Result) : Reply := ⟨r, [], none⟩

/-- A refusal that shows the cause of a refused draft (R92); the frame carries no data (R169); log 12. -/
def Reply.refuseFor (r : Result) (c : CommitCause) : Reply := ⟨r, [], some (.cause c)⟩

/-- OK with data. -/
def Reply.okWith (d : List Byte) : Reply := ⟨.ok, d, none⟩

/-- OK with data, showing the step starts and the ON pattern of a program that has a shape (R99); log 16. -/
def Reply.okShowing (d : List Byte) (sh : Option Shape) : Reply := ⟨.ok, d, sh.map fun x => .pattern x.starts x.onSlots⟩

/-- OK with no data. -/
def Reply.ok : Reply := ⟨.ok, [], none⟩

/-- The note of a reply with the place of its response. -/
def Reply.noteAt (r : Reply) (place : Nat) : List (Nat × ResponseNote) :=
  match r.note with
  | some x => [(place, x)]
  | none => []

def boolCode (b : Bool) : Nat := if b then 1 else 0

/-- A yes/no field that may be absent (R171). -/
def optBoolCode : Option Bool → Nat
  | none => 255
  | some b => boolCode b

/-- A port, where none is 0 (R170). -/
def portCode : Option Port → Nat
  | none => 0
  | some .A => 1
  | some .B => 2
  | some .M => 3

def LineState.code : LineState → Nat
  | .outOfService => 0
  | .idle => 1
  | .toneWait => 2
  | .dialTone => 3
  | .digits => 4
  | .held => 5
  | .recalling => 6
  | .ringWait => 7
  | .ringing => 8
  | .cleared => 9
  | .parked => 10

def Hook.code : Hook → Nat
  | .on => 0
  | .off => 1

def OfferStage.code : OfferStage → Nat
  | .none => 0
  | .home => 1
  | .alternate => 2
  | .claimed => 3

def diallingCode : Option Dialling → Nat
  | none => 0
  | some .pulse => 1
  | some .tone => 2

def TimerPurpose.code : TimerPurpose → Nat
  | .firstDigit => 1
  | .interdigit => 2
  | .recallWindow => 3
  | .releaseWait => 4
  | .parkRelease => 5

def returnStateCode : Option ReturnState → Nat
  | none => 0
  | some .idle => 1
  | some .cleared => 2

def oosReasonCode : Option OosReason → Nat
  | none => 0
  | some .card => 1
  | some .settle => 2
  | some .admin => 3

def ParkReason.code : ParkReason → Nat
  | .permanentSignal => 1
  | .noController => 2
  | .releasedOffHook => 3
  | .maintenance => 4

def parkReasonCode : Option ParkReason → Nat
  | none => 0
  | some r => r.code

def RingRoute.code : RingRoute → Nat
  | .loopAny => 0
  | .loop1 => 1
  | .loop2 => 2
  | .tip1 => 3
  | .tip2 => 4
  | .ring1 => 5
  | .ring2 => 6

/-- A supply, where none is 0 (R171). -/
def supplyCode : Option Supply → Nat
  | none => 0
  | some .one => 1
  | some .two => 2

/-- A step kind, where NONE is 255 (R171). -/
def stepKindCode : Option StepKind → Nat
  | none => 255
  | some .off => 0
  | some .on => 1

def Priority.code : Priority → Nat
  | .urgent => 1
  | .normal => 2
  | .test => 3

def PlantState.code : PlantState → Nat
  | .normal => 1
  | .economy => 2
  | .shed => 3

def PortState.code : PortState → Nat
  | .silent => 1
  | .present => 2
  | .absent => 3

def ProgramState.code : ProgramState → Nat
  | .empty => 1
  | .draft => 2
  | .ready => 3
  | .faulted => 4

def ResetCause.code : ResetCause → Nat
  | .power => 1
  | .resetInput => 2
  | .shelfResetRequest => 3

def Qualification.code : Qualification → Nat
  | .ringTrip => 1
  | .offHook => 2

def AbandonCause.code : AbandonCause → Nat
  | .onHook => 1
  | .claimedElsewhere => 2
  | .noController => 3
  | .permanentSignal => 4
  | .teardown => 5

def DigitErrorCause.code : DigitErrorCause → Nat
  | .tooManyPulses => 1
  | .badBreak => 2
  | .bufferFull => 3

def StopCause.code : StopCause → Nat
  | .stop => 1
  | .finish => 2
  | .release => 3
  | .maintenance => 4

def DeferCause.code : DeferCause → Nat
  | .evicted => 1
  | .followOn => 2

def PlantRun.code : PlantRun → Nat
  | .economy => 1
  | .shed => 2
  | .recovery => 3

def PortStateCause.code : PortStateCause → Nat
  | .window => 1
  | .restart => 2
  | .request => 3

/-- A time or duration that may be absent, sent as 0 then (R171). -/
def optTime (t : Option Nat) : List Byte := bytes4 (t.getD 0)

/-- A level that may be absent: 65535 then (R172); log 11. -/
def optLevel (n : Option Nat) : List Byte := bytes2 (n.getD 65535)

/-- The code of a report's kind (R171). -/
def ReportBody.kind : ReportBody → Nat
  | .originate .. => 64
  | .abandon .. => 65
  | .digit .. => 66
  | .dialingComplete .. => 67
  | .digitError .. => 68
  | .interdigitTimeout .. => 69
  | .dialRestart .. => 70
  | .flash .. => 71
  | .recallLapsed .. => 72
  | .unclassifiedBreak .. => 73
  | .clear .. => 74
  | .releaseForced => 75
  | .answer .. => 76
  | .noAnswer .. => 77
  | .ringStopped .. => 78
  | .ringDeferred .. => 79
  | .ringFailed .. => 80
  | .ringCancelled .. => 81
  | .lineParked .. => 82
  | .lineUnparked => 83
  | .lineLost => 84
  | .lineRestored => 85
  | .orphaned => 86
  | .toneDelay .. => 87
  | .plantState .. => 88
  | .plantSenseLost .. => 89
  | .plantSenseRestored .. => 90
  | .portState .. => 91
  | .lineSnapshot .. => 92
  | .shelfSnapshot .. => 93

/-- The detail of RECALL LAPSED (R87); log 10. -/
def RecallLapse.detail : RecallLapse → List Byte
  | .window n => [byteOf 1, byteOf n]
  | .firstDigit => [byteOf 2]
  | .interdigit d e => [byteOf 3, byteOf d, byteOf e]

/-- The cause code of RING FAILED (R140). -/
def RingFailure.code : RingFailure → Nat
  | .feedFault _ => 1
  | .cadenceFault => 2
  | .groundFault => 3
  | .waitLimit => 4
  | .lineLost => 5

/-- The supply field of RING FAILED, carried for FEED FAULT (R140); log 10. -/
def RingFailure.supplyField : RingFailure → List Byte
  | .feedFault sup => [byteOf (supplyCode (some sup))]
  | _ => []

/-- The detail part of a record: the fields in the order of the detail table of the making chapter (R171; R71, R87, R140,
R148, R159). -/
def ReportBody.detail : ReportBody → List Byte
  | .originate stage st d c t => [byteOf stage.code, byteOf st.code, byteOf (diallingCode d), byteOf c.val] ++ bytes4 t
  | .abandon c n => [byteOf c.code, byteOf n]
  | .digit d inCall => [byteOf d.val, byteOf (boolCode inCall)]
  | .dialingComplete n => [byteOf n]
  | .digitError c n => [byteOf c.code, byteOf n]
  | .interdigitTimeout d e => [byteOf d, byteOf e]
  | .dialRestart r d => [byteOf r, byteOf d]
  | .flash st e d t => [byteOf st.code, byteOf e, byteOf d] ++ bytes4 t
  | .recallLapsed c => c.detail
  | .unclassifiedBreak t n => bytes4 t ++ bytes4 n
  | .clear st n o => [byteOf st.code, byteOf n, byteOf (boolCode o)]
  | .answer pt sup pr q k n =>
      [byteOf pt, byteOf (supplyCode sup), byteOf pr.val, byteOf q.code, byteOf (stepKindCode k), byteOf n]
  | .noAnswer pt sup pr => [byteOf pt, byteOf (supplyCode (some sup)), byteOf pr.val, byteOf 0]
  | .ringStopped c pt pr n => [byteOf c.code, byteOf pt, byteOf pr.val, byteOf n]
  | .ringDeferred c pt pr n => [byteOf c.code, byteOf pt, byteOf pr.val, byteOf n]
  | .ringFailed c pt pr n => [byteOf c.code, byteOf pt, byteOf pr.val] ++ c.supplyField ++ [byteOf n]
  | .ringCancelled pt pr p n => [byteOf pt, byteOf pr.val, byteOf (portCode (some p)), byteOf n]
  | .lineParked r => [byteOf r.code]
  | .releaseForced | .lineUnparked | .lineLost | .lineRestored | .orphaned => []
  | .toneDelay w pos u lim => bytes4 w ++ [byteOf pos, byteOf u, byteOf lim]
  | .plantState n p lv r => [byteOf n.code, byteOf p.code] ++ bytes2 lv ++ [byteOf r.code]
  | .plantSenseLost t lv st => optTime t ++ optLevel lv ++ [byteOf st.code]
  | .plantSenseRestored lv d st => bytes2 lv ++ optTime d ++ [byteOf st.code]
  | .portState p st c => [byteOf (portCode (some p)), byteOf st.code, byteOf c.code]
  | .lineSnapshot d => d
  | .shelfSnapshot d => d

/-- The line of a record header, 255 where none (R171). -/
def lineCode : Option LineNo → Nat
  | none => 255
  | some l => l.val

/-- A report record: kind, line, shelf time, detail length, detail (R171). -/
def Report.encode (r : Report) : List Byte :=
  [byteOf r.body.kind, byteOf (lineCode r.line)] ++ bytes4 r.time ++ [byteOf r.body.detail.length] ++ r.body.detail

/-- The check byte that makes every byte of a frame sum to 0 modulo 256 (R169). -/
def checkByte (bs : List Byte) : Byte := 0#8 - bs.foldl (· + ·) 0#8

/-- A response frame: start byte, two-byte length of kind, result and data, kind, result, data, check (R169). -/
def responseFrame (kind : Byte) (r : Reply) : List Byte :=
  let bs := [Config.responseStart] ++ bytes2 (2 + r.data.length) ++ [kind, byteOf r.result.code] ++ r.data
  bs ++ [checkByte bs]

end Sys2Proof.Machine
end

