-- ==== Sys2Proof/Machine/Flags.lean ====
section
/-! DEFINITION. The flags of the Report Unit: resync marks, shelf marks (R165) and the attention output that follows the
length of a queue (R165, R166, R168). -/

namespace Sys2Proof.Machine.State

/-- Replace a report queue record; the port's attention output is asserted while the queue holds a record (R165). -/
def setQueue (s : State) (p : Port) (r : ReportQueue) : State :=
  (s.putQueue p r).modPort p fun t => { t with attention := !r.records.isEmpty }

/-- The mark that stands in the way of a report: that of its line, or the shelf mark for a report without a line (R165). -/
def marked (s : State) (p : Port) (l : Option LineNo) : Bool :=
  match l with
  | some l => (s.queue p).marks[l]
  | none => (s.queue p).shelfMark

/-- Set or clear that mark. -/
def setMark (s : State) (p : Port) (l : Option LineNo) (v : Bool) : State :=
  match l with
  | some l => s.setQueue p { s.queue p with marks := (s.queue p).marks.set l v }
  | none => s.setQueue p { s.queue p with shelfMark := v }

/-- Append a record to a queue (R165: "copy joins the tail"). -/
def pushRecord (s : State) (p : Port) (r : Report) : State :=
  s.setQueue p { s.queue p with records := (s.queue p).records ++ [r] }

end Sys2Proof.Machine.State
end

