-- ==== Sys2Proof/Machine/Reports.lean ====
section
/-! DEFINITION. The Report Unit: routes, destinations and the taking of copies (R162-R165). -/

namespace Sys2Proof.Machine

/-- The destinations of a report of a line, by route and holder (R163). -/
def ReportRoute.destinations (route : ReportRoute) (holder : Option Port) : List Port :=
  match route, holder with
  | .none, _ => []
  | .m, _ => [.M]
  | .holder, some p => [p]
  | .holder, Option.none => [.M]
  | .holderAndM, some .M => [.M]
  | .holderAndM, some p => [p, .M]
  | .holderAndM, Option.none => [.M]

namespace State

/-- The route of a kind whose route may be changed, by its code (R162, R171); NONE outside the codes 66 to 87, whose
destinations the making rule names. -/
def routeOf (s : State) (kind : Nat) : ReportRoute := if 66 ≤ kind then s.routes.toList.getD (kind - 66) .none else .none

/-- A copy of a report for a port is taken (R163, R165): discarded when the port is not PRESENT, or when the mark of its
line (or the shelf mark) is set; queued while the queue holds fewer than 48 records; else discarded, and the mark is set. -/
def deliver (s : State) (p : Port) (r : Report) : State :=
  if !s.present p then s
  else if s.marked p r.line then s
  else if (s.queue p).records.length < Config.queueSize then s.pushRecord p r
  else s.setMark p r.line true

/-- A copy for each of the ports. -/
def deliverAll (s : State) (ps : List Port) (r : Report) : State := ps.foldl (fun s p => s.deliver p r) s

/-- A report about a line, sent by the route of its kind with the holder as it stands now (R163). -/
def report (s : State) (l : LineNo) (b : ReportBody) : State :=
  s.deliverAll ((s.routeOf b.kind).destinations (s.line l).holder) ⟨some l, s.now, b⟩

/-- A report about a line sent to the port the making rule names: ORIGINATE and ABANDON (R162). -/
def reportTo (s : State) (p : Port) (l : LineNo) (b : ReportBody) : State := s.deliver p ⟨some l, s.now, b⟩

/-- A report without a line for every PRESENT port (R162): PLANT STATE and the sense reports. -/
def reportPresent (s : State) (b : ReportBody) : State := s.deliverAll allPorts ⟨none, s.now, b⟩

/-- PORT STATE for every other PRESENT port (R159, R163). -/
def reportPortState (s : State) (p : Port) (new : PortState) (c : PortStateCause) : State :=
  s.deliverAll (allPorts.filter (· != p)) ⟨none, s.now, .portState p new c⟩

end State

end Sys2Proof.Machine
end

