-- ==== Sys2Proof/Machine/Snapshot.lean ====
section
/-! DEFINITION. The line snapshot and the STATUS view (R14, R160, R172), read from the blocks that own what they show. -/

namespace Sys2Proof.Machine

/-- Taps in use: the number of assigned taps (R55). -/
def TonePool.inUse (t : TonePool) : Nat := (t.taps.toList.filter (·.isSome)).length

/-- The tap that serves a line, if any (R14). -/
def TonePool.tapOf (t : TonePool) (l : LineNo) : Option Nat := t.taps.toList.findIdx? (· == some l)

/-- The position of a line in the tone wait queue, counting the head as 1; 0 when it is not there (R14, R172). -/
def TonePool.position (t : TonePool) (l : LineNo) : Nat :=
  match t.queue.findIdx? (·.line == l) with
  | some i => i + 1
  | none => 0

/-- The greatest number in a load map (R103). -/
def SupplyRecord.peak (r : SupplyRecord) : Nat := r.map.toList.foldl max 0

/-- The sum of a load map (R106). -/
def SupplyRecord.total (r : SupplyRecord) : Nat := r.map.toList.foldl (· + ·) 0

namespace State

/-- The position of a line's waiting request, counting the head as 1; 0 when there is none (R14). -/
def waitPosition (s : State) (l : LineNo) : Nat :=
  match s.alloc.queue.findIdx? (·.line == l) with
  | some i => i + 1
  | none => 0

/-- The turns a line's request holds: none 0, Supply 1 1, Supply 2 2, both 3 (R172). -/
def turnHeld (s : State) (l : LineNo) : Nat :=
  (if s.alloc.one.turn == some l then 1 else 0) + (if s.alloc.two.turn == some l then 2 else 0)

/-- The remaining time of a line's supervision timer; 0 when it is stopped or its deadline has passed (R14, R171). -/
def timerRemaining (s : State) (l : LineNo) : Nat :=
  match (s.line l).timer with
  | some t => t.deadline - s.now
  | none => 0

/-- The sixteen digit places of a snapshot, 255 where unused (R172). -/
def digitPlaces (ds : List Digit) : List Byte :=
  (List.range 16).map fun i => byteOf ((ds[i]?.map (·.val)).getD 255)

/-- The route and load of parties 1 to 4, 0 past the party count (R172). -/
def partyPlaces (ps : List Party) : List Byte :=
  (List.range 4).flatMap fun i =>
    match ps[i]? with
    | some p => [byteOf p.route.code, byteOf p.load]
    | none => [byteOf 0, byteOf 0]

/-- Offsets 58 to 75 of a line snapshot: the ring part (R14, R172). Fields that do not apply are 0, but the step index of a
waiting request is 255; a waiting request shows supply 0, a ring entry shows pass-over count 0 and queue position 0. -/
def ringPart (s : State) (l : LineNo) : List Byte :=
  match s.entry l with
  | some e =>
    [byteOf 2, byteOf e.party, byteOf e.program.val, byteOf e.cycles, byteOf e.priority.code, byteOf (portCode (some e.requester)),
     byteOf (supplyCode (some e.sup)), byteOf e.offset, byteOf ((e.step.map (·.index)).getD 255),
     byteOf (stepKindCode (e.step.map (·.kind))), byteOf (boolCode e.finishing)]
    ++ bytes4 e.age ++ [byteOf 0, byteOf 0, byteOf 0]
  | none =>
    match s.request l with
    | some w =>
      [byteOf 1, byteOf w.party, byteOf w.program.val, byteOf w.cycles, byteOf w.priority.code, byteOf (portCode (some w.requester)),
       byteOf 0, byteOf 0, byteOf 255, byteOf 0, byteOf 0]
      ++ bytes4 w.age ++ [byteOf w.passOvers, byteOf (s.waitPosition l), byteOf (s.turnHeld l)]
    | none => List.replicate 18 (byteOf 0)

/-- Offset 77: cycles in current program of a ring entry. -/
def snapshotCycles (s : State) (l : LineNo) : Nat :=
  match s.entry l with
  | some e => e.cyclesInProgram
  | none => 0

/-- The line snapshot, 79 bytes (R14, R172). -/
def lineSnapshot (s : State) (l : LineNo) : List Byte :=
  let r := s.line l
  [byteOf l.val, byteOf r.state.code, byteOf r.hook.code, byteOf (portCode r.holder), byteOf (boolCode r.orphan),
   byteOf r.offer.code, byteOf (portCode r.offeredPort)]
  ++ optTime r.offerDeadline
  ++ [byteOf (boolCode r.recallMark), byteOf (diallingCode r.dialling), byteOf r.digits.length]
  ++ digitPlaces r.digits
  ++ [byteOf r.expected, byteOf ((r.timer.map (·.purpose.code)).getD 0)]
  ++ bytes4 (s.timerRemaining l)
  ++ [byteOf ((s.tone.tapOf l).getD 255), byteOf (s.tone.position l)]
  ++ optTime r.toneWaitStart
  ++ [byteOf (optBoolCode r.reorigination), byteOf (returnStateCode r.returnState), byteOf (boolCode r.admin),
      byteOf (oosReasonCode r.oosReason), byteOf (parkReasonCode r.parkReason), byteOf (optBoolCode r.digitInProgress),
      byteOf r.cls.val, byteOf r.parties.length]
  ++ partyPlaces r.parties
  ++ s.ringPart l
  ++ [byteOf (optBoolCode r.toneDelayReported), byteOf (s.snapshotCycles l), byteOf r.delivered]

/-- The number of ring entries (R160). -/
def entryCount (s : State) : Nat := (s.entries.toList.filter (·.isSome)).length

/-- The STATUS data, 30 bytes (R160, R172). -/
def statusData (s : State) : List Byte :=
  [byteOf s.plant.state.code, byteOf (boolCode s.plant.senseLost),
   byteOf s.alloc.one.current, byteOf s.alloc.two.current, byteOf s.alloc.one.peak, byteOf s.alloc.two.peak,
   byteOf s.alloc.queue.length, byteOf s.entryCount,
   byteOf s.tone.inUse, byteOf s.tone.currentLimit, byteOf s.tone.queue.length,
   byteOf (lineCode s.alloc.one.turn), byteOf (lineCode s.alloc.two.turn),
   byteOf s.queues.a.records.length, byteOf s.queues.b.records.length, byteOf s.queues.m.records.length,
   byteOf s.ports.a.state.code, byteOf s.ports.b.state.code, byteOf s.ports.m.state.code,
   byteOf s.ports.a.window, byteOf s.ports.b.window, byteOf s.ports.m.window,
   byteOf s.clock.slot.val]
  ++ bytes4 s.now
  ++ [byteOf s.lastReset.code, byteOf (12 - s.tone.inUse), byteOf 0]

/-- The SHELF SNAPSHOT data, 36 bytes: STATUS, then the last level and the last word time (R166, R172). -/
def shelfSnapshot (s : State) : List Byte :=
  s.statusData ++ optLevel s.plant.lastLevel ++ optTime s.plant.lastWordTime

end State

end Sys2Proof.Machine
end

