-- ==== Sys2Proof/Machine/Tone.lean ====
section
/-! DEFINITION. The Tone Pool (3.2): asking for a tap, giving it up, grants and the tap limits (R55-R58). -/

namespace Sys2Proof.Machine

/-- The twelve taps in order (R55). -/
def allTaps : List (Fin 12) := (List.range 12).map (Fin.ofNat 12)

/-- The lowest-numbered free tap (R56). -/
def TonePool.freeTap (t : TonePool) : Option (Fin 12) := allTaps.find? fun k => t.taps[k] == none

/-- The current tap limit a plant state selects (R55). -/
def TonePool.limitFor (t : TonePool) : PlantState → Nat
  | .normal => 12
  | .economy => t.economyLimit
  | .shed => t.shedLimit

/-- A tap may be granted: taps in use are below the current tap limit (R56, R57). -/
def TonePool.hasRoom (t : TonePool) : Bool := t.inUse < t.currentLimit

/-- The pool without a line's taps: a returned tap becomes free (R57). -/
def TonePool.freeTapsOf (t : TonePool) (l : LineNo) : TonePool :=
  { t with taps := Vector.ofFn fun k => if t.taps[k] == some l then none else t.taps[k] }

/-- The pool without a line's queue entry; the lines behind it move up in the same order (R57). -/
def TonePool.withdraw (t : TonePool) (l : LineNo) : TonePool := { t with queue := t.queue.filter (·.line != l) }

namespace State

/-- Assign a tap to a line (R56). -/
def assignTap (s : State) (k : Fin 12) (l : LineNo) : State :=
  s.setTone { s.tone with taps := s.tone.taps.set k (some l) }

/-- A line joins the tail of the tone wait queue and enters TONE_WAIT (R56), with its tone delay deadline (R61). -/
def joinToneQueue (s : State) (l : LineNo) : State :=
  let s := s.setTone { s.tone with queue := s.tone.queue ++ [⟨l, s.now + 1000 * s.tone.delayThreshold⟩] }
  s.modLine l fun r => { r.enter .toneWait with toneWaitStart := some s.now, toneDelayReported := some false }

/-- A line asks for a tap (R56): with room and an empty queue the lowest free tap is assigned and the line enters DIAL_TONE;
otherwise it joins the queue. -/
def askTone (s : State) (l : LineNo) : State :=
  match s.tone.freeTap with
  | some k => if s.tone.hasRoom && s.tone.queue.isEmpty then (s.assignTap k l).enter l .dialTone else s.joinToneQueue l
  | none => s.joinToneQueue l

/-- A line gives up its place in the Tone Pool (R57): it returns its tap in DIAL_TONE and is withdrawn from the queue in
TONE_WAIT. The line's state is left to the rule that calls for this. -/
def giveUpTone (s : State) (l : LineNo) : State :=
  match (s.line l).state with
  | .dialTone => (s.setTone (s.tone.freeTapsOf l)).markTapReturned
  | .toneWait => s.setTone (s.tone.withdraw l)
  | _ => s

/-- The head of the tone wait queue is granted the lowest free tap and enters DIAL_TONE; its first-digit timer is carried
over with its deadline unchanged (R56, R6). -/
def grantHead (s : State) : State :=
  match s.tone.queue, s.tone.freeTap with
  | w :: rest, some k =>
    let s := (s.setTone { s.tone with queue := rest }).assignTap k w.line
    s.modLine w.line fun r => { r.enter .dialTone with timer := r.timer }
  | _, _ => s

/-- Grant the head, and again while there is room and the queue is not empty (R57, R58); at most `fuel` grants. -/
def grantLoop : Nat → State → State
  | 0, s => s
  | fuel + 1, s => if s.tone.hasRoom && !s.tone.queue.isEmpty then grantLoop fuel s.grantHead else s

/-- Grant while the limit allows: each grant takes a line from the queue, so the queue's length is fuel enough. -/
def grantAll (s : State) : State := grantLoop s.tone.queue.length s

/-- The grants at the end of an event in which a tap was returned (R57). -/
def settleTone (s : State) : State :=
  if s.tapReturned then { s.grantAll with tapReturned := false } else s

/-- The current tap limit takes a new value in one event (R58): a rise grants, a fall takes no tap away. -/
def setTapLimit (s : State) (limit : Nat) : State :=
  let old := s.tone.currentLimit
  let s := s.setTone { s.tone with currentLimit := limit }
  if old < limit then s.grantAll else s

end State

end Sys2Proof.Machine
end

