-- ==== Sys2Proof/Machine/LineStates.lean ====
section
/-! DEFINITION. The entries of a line into IDLE, PARKED, CLEARED and its return state, and parking from origination
(R18, R52, R80, R132). -/

namespace Sys2Proof.Machine.State

/-- A line enters IDLE (R4, R6): no holder, timer stopped. -/
def enterIdle (s : State) (l : LineNo) : State := s.enter l .idle

/-- A line enters PARKED with a reason; the park release timer starts from the moment of entry when the hook field is ON
(R18). -/
def enterParked (s : State) (l : LineNo) (reason : ParkReason) : State :=
  let s := s.modLine l fun r => { r.enter .parked with parkReason := some reason }
  if (s.line l).hook == .on then s.startTimer l .parkRelease (s.lineClass l).parkRelease else s

/-- A line enters CLEARED with its holder: reorigination pending follows the hook field and the release wait starts (R80). -/
def enterCleared (s : State) (l : LineNo) : State :=
  let s := s.modLine l fun r => { r.enter .cleared with reorigination := some (r.hook == .off) }
  s.startTimer l .releaseWait (s.lineClass l).releaseWait

/-- A line whose ring ended without an answer goes to its return state (R132). -/
def toReturnState (s : State) (l : LineNo) : State :=
  match (s.line l).returnState with
  | some .cleared => s.enterCleared l
  | _ => s.enterIdle l

/-- A PARKED line goes back to IDLE with normal feed, and LINE UNPARKED is reported (R18). -/
def unparkToIdle (s : State) (l : LineNo) : State := (s.enterIdle l).report l .lineUnparked

/-- ABANDON is sent to the offered port of a line whose offer stage is HOME or ALTERNATE, with the number of digits in the
buffer (R16, R51, R52, R66, R71). -/
def abandonOffer (s : State) (l : LineNo) (cause : AbandonCause) : State :=
  let r := s.line l
  match r.offer.open, r.offeredPort with
  | true, some p => s.reportTo p l (.abandon cause r.digits.length)
  | _, _ => s

/-- A line parks from origination (R52): tone given up, ABANDON to an offered port, LINE PARKED while the holder is still
recorded, then PARKED. -/
def parkFromOrigination (s : State) (l : LineNo) (reason : ParkReason) (cause : AbandonCause) : State :=
  let s := s.giveUpTone l
  let s := s.abandonOffer l cause
  let s := s.report l (.lineParked reason)
  s.enterParked l reason

/-- The offer of a line passes to a port: stage, offered port, a claim window from the present time, and ORIGINATE
(R50, R51, R157). -/
def offerTo (s : State) (l : LineNo) (stage : OfferStage) (p : Port) : State :=
  let deadline := s.now + (s.lineClass l).claimWindow
  s.modLine l fun r => { r with offer := stage, offeredPort := some p, offerDeadline := some deadline }

/-- ORIGINATE is sent to the offered port with the line as it stands (R71). -/
def sendOriginate (s : State) (l : LineNo) : State :=
  let r := s.line l
  match r.offeredPort, r.offerDeadline with
  | some p, some d => s.reportTo p l (.originate r.offer r.state r.dialling r.cls d)
  | _, _ => s

/-- The port to which a new offer goes: the home port if it is PRESENT, else the alternate if the class names one that is
PRESENT (R50, R157). -/
def offerPort (s : State) (l : LineNo) : Option (OfferStage × Port) :=
  let c := s.lineClass l
  if s.present c.home then some (.home, c.home)
  else match c.alternate with
    | some p => if s.present p then some (.alternate, p) else none
    | none => none

/-- A line originates (R50), the steps in the rule's order. With no PRESENT port it goes straight to PARKED. -/
def originate (s : State) (l : LineNo) : State :=
  match s.offerPort l with
  | none => (s.enterParked l .noController).report l (.lineParked .noController)
  | some (stage, p) =>
    let c := s.lineClass l
    let s := s.modLine l fun r =>
      { r with digits := [], expected := 0, recallMark := false, holder := none, dialling := some c.dialling }
    let s := s.offerTo l stage p
    let s := s.askTone l
    let s := s.startTimer l .firstDigit c.firstDigitTimeout
    s.sendOriginate l

/-- A CLEARED line is released, by its holder or by the release wait (R83): to IDLE, or it originates when reorigination
pending is yes. -/
def releaseCleared (s : State) (l : LineNo) : State :=
  let pending := (s.line l).reorigination == some true
  let s := s.modLine l fun r => { r with timer := none, holder := none, reorigination := none }
  if pending then s.originate l else s.enterIdle l

/-- An offer advance (R51), at the end of a claim window or at the absence of the offered port. -/
def advanceOffer (s : State) (l : LineNo) : State :=
  let next := match (s.lineClass l).alternate with
    | some p => if (s.line l).offer == .home && s.present p then some p else none
    | none => none
  match next with
  | some p => (s.offerTo l .alternate p).sendOriginate l
  | none => s.parkFromOrigination l .noController .noController

end Sys2Proof.Machine.State
end

