-- ==== Sys2Proof/Machine/Allocator.lean ====
section
/-! DEFINITION. The Ring Allocator (chapter 6): candidates, the placement attempt, the ring wait queue, turns, pass-overs and
the placement pass (R102-R117). -/

namespace Sys2Proof.Machine

/-- The thirty slots of the ring frame. -/
def allSlots : List (Fin 30) := (List.range 30).map (Fin.ofNat 30)

/-- The supplies a ring route allows (R105). -/
def RingRoute.supplies : RingRoute → List Supply
  | .loopAny => [.one, .two]
  | .loop1 | .tip1 | .ring1 => [.one]
  | .loop2 | .tip2 | .ring2 => [.two]

/-- The entry at `offset` on a program of this shape is ON in frame slot `t`: (t - offset) mod L is in the ON pattern
(R103). -/
def Shape.onAt (sh : Shape) (offset : Nat) (t : Fin 30) : Bool :=
  sh.onSlots.contains ((t.val + sh.cycle - offset % sh.cycle) % sh.cycle)

/-- The wait to the first step: L - ((c - o) mod L), with c the slot counter (R107). -/
def Shape.waitFrom (sh : Shape) (offset : Nat) (c : Fin 30) : Nat :=
  sh.cycle - (c.val + sh.cycle - offset % sh.cycle) % sh.cycle

/-- The load map raised by a load in every slot where the entry is ON (R106). -/
def SupplyRecord.raise (r : SupplyRecord) (sh : Shape) (offset load : Nat) : SupplyRecord :=
  { r with map := Vector.ofFn fun t => if sh.onAt offset t then r.map[t] + load else r.map[t] }

/-- The load map lowered by the same amounts (R103, R131). -/
def SupplyRecord.lower (r : SupplyRecord) (sh : Shape) (offset load : Nat) : SupplyRecord :=
  { r with map := Vector.ofFn fun t => if sh.onAt offset t then r.map[t] - load else r.map[t] }

/-- An offset fits: in every slot where the entry would be ON the map plus the load is within the current budget (R106). -/
def SupplyRecord.fits (r : SupplyRecord) (sh : Shape) (load offset : Nat) : Bool :=
  allSlots.all fun t => !sh.onAt offset t || r.map[t] + load ≤ r.current

/-- The offsets in the order they are tried: (p + k) mod L for k = 0, 1, ..., L - 1 (R106). -/
def SupplyRecord.offsets (r : SupplyRecord) (sh : Shape) : List Nat :=
  (List.range sh.cycle).map fun k => (r.pointer.val + k) % sh.cycle

/-- The first offset that fits (R106). -/
def SupplyRecord.findOffset (r : SupplyRecord) (sh : Shape) (load : Nat) : Option Nat :=
  (r.offsets sh).find? (r.fits sh load)

/-- The place of a priority in the queue's order (R112). -/
def Priority.rank : Priority → Nat
  | .urgent => 0
  | .normal => 1
  | .test => 2

/-- The order of the ring wait queue (R112): priority, then older age, then lower line number. -/
def WaitingRequest.before (w x : WaitingRequest) : Bool :=
  w.priority.rank < x.priority.rank
  || (w.priority.rank == x.priority.rank && (w.age < x.age || (w.age == x.age && w.line.val < x.line.val)))

/-- A request joins the queue at its place in the order (R112). -/
def insertRequest (w : WaitingRequest) : List WaitingRequest → List WaitingRequest
  | [] => [w]
  | x :: xs => if w.before x then w :: x :: xs else x :: insertRequest w xs

/-- The outcome of a placement attempt (R106, R108). -/
inductive Attempt where
  | placed (sup : Supply) (offset : Nat)
  | grounded
  | failed
  deriving DecidableEq, Repr

/-- A request that failed its attempt in the present pass, with its candidate supplies at that attempt and whether it has
been passed over in the pass already (R115). -/
structure FailedRequest where
  line : LineNo
  candidates : List Supply
  passed : Bool
  deriving DecidableEq, Repr

namespace State

/-! ### The party being rung (R3, R105) -/

/-- The party entry of a line's party number. -/
def party (s : State) (l : LineNo) (n : Nat) : Option Party := if n = 0 then none else (s.line l).parties[n - 1]?

/-- The load of a party. -/
def partyLoad (s : State) (l : LineNo) (n : Nat) : Nat := ((s.party l n).map (·.load)).getD 0

/-- The supplies a party's route allows. -/
def partySupplies (s : State) (l : LineNo) (n : Nat) : List Supply := ((s.party l n).map (·.route.supplies)).getD []

/-- The candidate supplies of a request: those its route allows, leaving out a supply whose turn is held by another request
(R105). -/
def candidates (s : State) (l : LineNo) (n : Nat) : List Supply :=
  (s.partySupplies l n).filter fun sup =>
    match (s.supply sup).turn with
    | some k => k == l
    | none => true

/-! ### The placement attempt (R106) -/

/-- The order in which the candidates are tried: the smaller map sum first, Supply 1 on equal sums (R106). -/
def supplyOrder (s : State) (cs : List Supply) : List Supply :=
  if cs == [.one, .two] && s.alloc.two.total < s.alloc.one.total then [.two, .one] else cs

/-- The supply and offset an attempt finds, if any (R106). -/
def findPlacement (s : State) (cs : List Supply) (sh : Shape) (load : Nat) : Option (Supply × Nat) :=
  (s.supplyOrder cs).findSome? fun sup => ((s.supply sup).findOffset sh load).map fun o => (sup, o)

/-- A placement attempt for a request, with the ground check of R108. -/
def attempt (s : State) (w : WaitingRequest) : Attempt :=
  match s.findPlacement (s.candidates w.line w.party) (s.shape w.program) (s.partyLoad w.line w.party) with
  | none => .failed
  | some (sup, o) => if (s.scan w.line).ground then .grounded else .placed sup o

/-! ### Turns (R116) -/

/-- The first request in queue order that can use a supply and whose pass-over count is at or above the turn threshold. -/
def nextTurn (s : State) (sup : Supply) : Option LineNo :=
  (s.alloc.queue.find? fun w =>
    (s.partySupplies w.line w.party).contains sup && s.alloc.turnThreshold ≤ w.passOvers).map (·.line)

/-- A line whose request has left the queue releases its turn on a supply: the turn is offered, and a pass is due (R116,
R114). -/
def releaseTurn (s : State) (l : LineNo) (sup : Supply) : State :=
  if (s.supply sup).turn == some l then
    (s.setSupply sup { s.supply sup with turn := s.nextTurn sup }).callPass
  else s

/-- A request takes the turn on each supply its route allows that has no turn holder (R116). -/
def takeTurns (s : State) (w : WaitingRequest) : State :=
  (s.partySupplies w.line w.party).foldl (fun s sup =>
    if (s.supply sup).turn.isNone then s.setSupply sup { s.supply sup with turn := some w.line } else s) s

/-! ### Joining and leaving the queue (R112, R113) -/

/-- The request of a line leaves the queue; a turn it held is released (R113, R116). -/
def unqueue (s : State) (l : LineNo) : State :=
  let s := s.setWaiting (s.alloc.queue.filter (·.line != l))
  allSupplies.foldl (fun s sup => s.releaseTurn l sup) s

/-- A request is deleted (R113): it leaves the queue and a use of its program is dropped. -/
def deleteRequest (s : State) (w : WaitingRequest) : State := (s.unqueue w.line).dropUse w.program

/-- A request joins the queue (R112): pass-over count 0, a new enqueue time and wait limit deadline, and a pass is due. -/
def enqueue (s : State) (w : WaitingRequest) : State :=
  let w := { w with passOvers := 0, enqueued := s.now, deadline := s.now + 1000 * s.alloc.waitLimit }
  (s.setWaiting (insertRequest w s.alloc.queue)).callPass

/-! ### Placing (R106, R107) -/

/-- A successful attempt (R106, R107): pointer, map, stamp, ring entry, the queue left, and the line in RINGING. -/
def place (s : State) (w : WaitingRequest) (sup : Supply) (o : Nat) : State :=
  let sh := s.shape w.program
  let r := (s.supply sup).raise sh o (s.partyLoad w.line w.party)
  let stamp := s.alloc.lastStamp + 1
  let e : RingEntry :=
    { party := w.party, sup := sup, offset := o, program := w.program, step := none, slotsLeft := sh.waitFrom o s.clock.slot,
      cycles := w.cycles, cyclesInProgram := 0, requester := w.requester, priority := w.priority, age := w.age, stamp := stamp,
      fed := false, missed := 0, finishing := false }
  let s := s.setSupply sup { r with pointer := Fin.ofNat 30 (o + 1) }
  let s := { s with alloc := { s.alloc with lastStamp := stamp } }
  let s := (s.setEntry w.line (some e)).unqueue w.line
  s.enter w.line .ringing

/-- A ground fault (R108): no entry; the request leaves the queue if it was there, a use is dropped, RING FAILED is reported
while the holder is recorded, and the line goes to its return state. -/
def groundFault (s : State) (w : WaitingRequest) : State :=
  let s := s.deleteRequest w
  let s := s.report w.line (.ringFailed .groundFault w.party w.program w.cycles)
  s.toReturnState w.line

/-! ### The placement pass (R114, R115) -/

/-- A waiting request is passed over once: its count rises by one and stops at 255; when it reaches the turn threshold the
request takes its turns (R115, R116). -/
def passOver (s : State) (l : LineNo) : State :=
  match s.request l with
  | none => s
  | some w =>
    let n := w.passOvers + 1
    if n ≤ Config.countMax then
      let s := s.setWaiting (s.alloc.queue.map fun x => if x.line == l then { x with passOvers := n } else x)
      if n == s.alloc.turnThreshold then s.takeTurns w else s
    else s

/-- A placement on a supply passes over, in queue order, each request that failed earlier in the pass with that supply as a
candidate and has not been passed over in the pass (R115). -/
def passOverAll (sup : Supply) : List FailedRequest → State → State × List FailedRequest
  | [], s => (s, [])
  | f :: fs, s =>
    if f.candidates.contains sup && !f.passed then
      let (s, fs) := passOverAll sup fs (s.passOver f.line)
      (s, { f with passed := true } :: fs)
    else
      let (s, fs) := passOverAll sup fs s
      (s, f :: fs)

/-- One attempt of a pass after another, from the head of the queue (R114). `failed` holds the requests that failed so far,
in queue order. -/
def passWalk : List LineNo → List FailedRequest → State → State
  | [], _, s => s
  | l :: ls, failed, s =>
    match s.request l with
    | none => passWalk ls failed s
    | some w =>
      match s.attempt w with
      | .placed sup o =>
        let (s, failed) := passOverAll sup failed (s.place w sup o)
        passWalk ls failed s
      | .grounded => passWalk ls failed (s.groundFault w)
      | .failed => passWalk ls (failed ++ [⟨l, s.candidates w.line w.party, false⟩]) s

/-- One placement pass over the queue as it stands (R114). -/
def placementPass (s : State) : State := passWalk (s.alloc.queue.map (·.line)) [] s

/-- The pass of an event, and a further pass as long as a turn was released during the last one (R114); at most `fuel`. -/
def runPasses : Nat → State → State
  | 0, s => { s with passDue := false }
  | fuel + 1, s => if s.passDue then runPasses fuel ({ s with passDue := false }).placementPass else s

/-- The placement passes at the end of an event that calls for one (R114). Each further pass needs a request to leave the
queue, so one pass more than the queue's length is fuel enough; log 24. -/
def settlePasses (s : State) : State := runPasses (s.alloc.queue.length + 2) s

/-- The end of an event: the grants of the Tone Pool when a tap was returned (R57), and the placement passes (R114). -/
def finish (s : State) : State := s.settleTone.settlePasses

end State

end Sys2Proof.Machine
end

