-- ==== Sys2Proof/Machine/Sequencer.lean ====
section
/-! DEFINITION. The Ring Sequencer (chapter 7) with eviction (R118) and the integrity fault (R97): the relays, entering a
step, the ending of a step, the removal of an entry and every ending of a ring. -/

namespace Sys2Proof.Machine

/-- The supply and leg a driven relay has (R123). -/
def RingRoute.leg : RingRoute → Leg
  | .loopAny | .loop1 | .loop2 => .acrossPair
  | .tip1 | .tip2 => .tipToGround
  | .ring1 | .ring2 => .ringToGround

/-- The waiting request that carries an entry's ring on with a program (R118, R130). -/
def RingEntry.toRequest (e : RingEntry) (l : LineNo) (p : ProgramNo) : WaitingRequest :=
  { line := l, party := e.party, program := p, cycles := e.cycles, requester := e.requester, priority := e.priority,
    age := e.age, passOvers := 0, enqueued := 0, deadline := 0 }

/-- What an integrity fault ended on a line: the party rung and the cycles remaining (R97). -/
structure FaultedRing where
  line : LineNo
  party : Nat
  cycles : Nat
  deriving DecidableEq, Repr

namespace State

/-! ### Removal of an entry (R131) -/

/-- A ring entry is removed (R131): relay released, RING END sent, load freed, the entry gone, a pass due. The use of its
program is left to the rule that removes it. -/
def removeEntry (s : State) (l : LineNo) : State :=
  match s.entry l with
  | none => s
  | some e =>
    let s := (s.setRelay l .released).indicate l .ringEnd
    let s := s.setSupply e.sup ((s.supply e.sup).lower (s.shape e.program) e.offset (s.partyLoad l e.party))
    (s.setEntry l none).callPass

/-- An entry is removed and a use of its current program dropped (R131). -/
def endEntry (s : State) (l : LineNo) (e : RingEntry) : State := (s.removeEntry l).dropUse e.program

/-- A ring that is in the table or in the queue is ended there: the entry removed (R131) or the request deleted (R113). -/
def endRing (s : State) (l : LineNo) : State :=
  match s.entry l with
  | some e => s.endEntry l e
  | none =>
    match s.request l with
    | some w => s.deleteRequest w
    | none => s

/-- The party, program and cycles remaining of a line's ring, in the table or in the queue (R133). -/
def ringOf (s : State) (l : LineNo) : Option (Nat × ProgramNo × Nat) :=
  match s.entry l with
  | some e => some (e.party, e.program, e.cycles)
  | none => (s.request l).map fun w => (w.party, w.program, w.cycles)

/-- A ring is stopped (R84, R137, R138, R16): RING STOPPED with its cause and residue while the holder is recorded, then the
ring ended. -/
def stopRing (s : State) (l : LineNo) (cause : StopCause) : State :=
  match s.ringOf l with
  | some (party, program, cycles) => (s.report l (.ringStopped cause party program cycles)).endRing l
  | none => s

/-- A ring fails (R127, R117, R24): RING FAILED with its cause and residue while the holder is recorded, then the ring
ended. -/
def failRing (s : State) (l : LineNo) (cause : RingFailure) : State :=
  match s.ringOf l with
  | some (party, program, cycles) => (s.report l (.ringFailed cause party program cycles)).endRing l
  | none => s

/-! ### The integrity fault (R97) -/

/-- The rings on a program, entries and waiting requests, in ascending line order (R97). -/
def ringsOn (s : State) (p : ProgramNo) : List FaultedRing :=
  allLines.filterMap fun l =>
    match s.ringOf l with
    | some (party, program, cycles) => if program == p then some ⟨l, party, cycles⟩ else none
    | none => none

/-- An integrity fault of program `p` at a position (R97): the directory first, then the table and the queue, then the line
records in ascending order. -/
def integrityFault (s : State) (p : ProgramNo) (position : Nat) : State :=
  let s := s.setProgram p { s.program p with state := .faulted, faultedAt := some position }
  let lost := s.ringsOn p
  let s := lost.foldl (fun s x => s.endRing x.line) s
  lost.foldl (fun s x =>
    (s.report x.line (.ringFailed .cadenceFault x.party p x.cycles)).toReturnState x.line) s

/-! ### Entering a step (R126) -/

/-- The entry of a line enters step `i` of its program (R126): the step is read first, and a failed read is an integrity
fault. -/
def enterStep (s : State) (l : LineNo) (e : RingEntry) (i : Nat) : State :=
  match s.readStep e.program i with
  | none => s.integrityFault e.program i
  | some f =>
    let e := { e with step := some ⟨i, f.kind, f.marker⟩, slotsLeft := f.length }
    match f.kind with
    | .on =>
      let leg := (((s.party l e.party).map (·.route.leg)).getD .acrossPair)
      ((s.setEntry l (some { e with fed := false })).setRelay l (.driven e.sup leg)).indicate l .stepOn
    | .off => ((s.setEntry l (some e)).setRelay l .released).indicate l .stepOff

/-! ### The follow-on switch (R129, R130) -/

/-- The re-placement of a switched ring, ahead of the queue (R129 step 4, R130). -/
def replaceRing (s : State) (l : LineNo) (w : WaitingRequest) : State :=
  match s.attempt w with
  | .placed sup o => s.place w sup o
  | .grounded => s.groundFault w
  | .failed =>
    let s := (s.enqueue w).enter l .ringWait
    s.report l (.ringDeferred .followOn w.party w.program w.cycles)

/-- A follow-on switch of a line's entry from its program to `f` (R98, R129). -/
def followOnSwitch (s : State) (l : LineNo) (e : RingEntry) (f : ProgramNo) : State :=
  if s.ready f then
    let s := (s.takeUse f).dropUse e.program
    (s.removeEntry l).replaceRing l (e.toRequest l f)
  else
    let s := s.report l (.ringFailed .cadenceFault e.party f e.cycles)
    (s.endEntry l e).toReturnState l

/-! ### The end of a step (R125, R127, R128) -/

/-- The cycle end of a surviving entry (R128); `e` is the entry with its counts already moved. -/
def cycleEnd (s : State) (l : LineNo) (e : RingEntry) : State :=
  let e := { e with cycles := e.cycles - 1, cyclesInProgram := e.cyclesInProgram + 1 }
  let s := s.setEntry l (some e)
  if e.cycles = 0 then
    ((s.report l (.noAnswer e.party e.sup e.program)).endEntry l e).toReturnState l
  else if e.finishing then (s.stopRing l .finish).toReturnState l
  else
    match (s.program e.program).followOn with
    | some f => if (s.program e.program).switchAfter == some e.cyclesInProgram then s.followOnSwitch l e f else s.enterStep l e 0
    | none => s.enterStep l e 0

/-- A step whose feed check the entry has survived ends: the cycle end after the marker, else the next step (R125). -/
def afterFeed (s : State) (l : LineNo) (e : RingEntry) (st : CurrentStep) : State :=
  if st.marker then s.cycleEnd l e else s.enterStep l e (st.index + 1)

/-- The step of an entry ends (R125): the feed check of an ON step comes first and may end the ring (R127). -/
def endStep (s : State) (l : LineNo) (e : RingEntry) (st : CurrentStep) : State :=
  match st.kind with
  | .off => s.afterFeed l e st
  | .on =>
    let e := { e with missed := if e.fed then 0 else e.missed + 1 }
    let s := s.setEntry l (some e)
    if e.missed ≥ 2 then (s.failRing l (.feedFault e.sup)).toReturnState l else s.afterFeed l e st

/-- An entry whose slots left have reached 0 (R125). -/
def stepEnded (s : State) (l : LineNo) (e : RingEntry) : State :=
  match e.step with
  | none => s.enterStep l e 0
  | some st => s.endStep l e st

/-- One slot boundary at every entry of the table: slots left falls by one (R125). -/
def countSlots (s : State) : State :=
  { s with entries := Vector.ofFn fun l => (s.entries[l]).map fun e => { e with slotsLeft := e.slotsLeft - 1 } }

/-! ### Eviction (R118) -/

/-- The youngest entry on a supply: the one with the greatest placement stamp (R107). -/
def youngestOn (s : State) (sup : Supply) : Option (LineNo × RingEntry) :=
  allLines.foldl (fun best l =>
    match s.entry l with
    | some e =>
      if e.sup == sup then
        match best with
        | some (k, b) => if b.stamp < e.stamp then some (l, e) else some (k, b)
        | none => some (l, e)
      else best
    | none => best) none

/-- One entry is evicted (R118): deferred to the queue, or ended with RING STOPPED when it was finishing. -/
def evictOne (s : State) (l : LineNo) (e : RingEntry) : State :=
  if e.finishing then (s.stopRing l .finish).toReturnState l
  else
    let s := (s.removeEntry l).enqueue (e.toRequest l e.program)
    (s.enter l .ringWait).report l (.ringDeferred .evicted e.party e.program e.cycles)

/-- Entries are evicted from a supply, youngest first, until every number of its map is within its current budget (R118). -/
def evictLoop (sup : Supply) : Nat → State → State
  | 0, s => s
  | fuel + 1, s =>
    if (s.supply sup).peak ≤ (s.supply sup).current then s
    else
      match s.youngestOn sup with
      | some (l, e) => evictLoop sup fuel (s.evictOne l e)
      | none => s

/-- Eviction from a supply; a supply carries at most 64 entries (R118, R123). -/
def evict (s : State) (sup : Supply) : State := evictLoop sup 64 s

end State

/-! ## Budgets (R104, R118-R120) -/

/-- The current budget a plant state selects for a supply (R104). -/
def SupplyRecord.budgetFor (r : SupplyRecord) : PlantState → Nat
  | .normal => r.normal
  | .economy => r.economy
  | .shed => 0

namespace State

/-- The current budget of a supply follows the plant state the Allocator has taken (R104). -/
def selectBudget (s : State) (sup : Supply) : State :=
  s.setSupply sup { s.supply sup with current := (s.supply sup).budgetFor s.alloc.plant }

/-- Both current budgets follow the plant state; entries are evicted from a supply whose budget fell, Supply 1 first, and a
pass is due when a budget rose (R118, R119, R120). An eviction calls for the pass by itself (R131). -/
def followBudgets (s : State) : State :=
  let old1 := s.alloc.one.current
  let old2 := s.alloc.two.current
  let s := (s.selectBudget .one).selectBudget .two
  let s := if s.alloc.one.current < old1 then s.evict .one else s
  let s := if s.alloc.two.current < old2 then s.evict .two else s
  if old1 < s.alloc.one.current || old2 < s.alloc.two.current then s.callPass else s

end State

end Sys2Proof.Machine
end

