-- ==== Sys2Proof/Machine/Calls.lean ====
section
/-! DEFINITION. What happens to a line and its call: hook events in every state (chapters 1, 3, 4, 7), teardown (R16), port
absence (R156, R157), and the expiries of the supervision timer. Each operation is the event at the line record; the grants
and passes of the event's end (`State.finish`) are left to the command. -/

namespace Sys2Proof.Machine

/-- Why a line is torn down (R16). -/
inductive TeardownCause where
  | park | remove | cardLoss
  deriving DecidableEq, Repr

/-- The cause a DIGIT END without a digit gives a DIGIT ERROR (R63). -/
def DigitOutcome.errorCause : DigitOutcome → DigitErrorCause
  | .badBreak => .badBreak
  | _ => .tooManyPulses

namespace State

/-- The hook field takes a value (R2). -/
def setHook (s : State) (l : LineNo) (h : Hook) : State := s.modLine l fun r => { r with hook := h }

/-! ### Answer (R134, R135) -/

/-- An answer on a RINGING line (R134): ANSWER reported, the entry removed, the line HELD by the requester. -/
def answerRinging (s : State) (l : LineNo) (q : Qualification) (kind : Option StepKind) : State :=
  match s.entry l with
  | some e => ((s.report l (.answer e.party (some e.sup) e.program q kind e.cycles)).endEntry l e).enter l .held
  | none => s

/-- A pre-ring answer on a line in RING_WAIT (R9, R135): the request deleted, the line HELD by the requester. -/
def preRingAnswer (s : State) (l : LineNo) (q : Qualification) : State :=
  match s.request l with
  | some w => ((s.report l (.answer w.party none w.program q none w.cycles)).deleteRequest w).enter l .held
  | none => s

/-- A lift of the handset reaches a line record (R2, R50, R134-R136, R18, R82): an OFF-HOOK, or an ANSWER with its
qualification and the step kind it carried. -/
def lifted (s : State) (l : LineNo) (q : Qualification) (kind : Option StepKind) : State :=
  match (s.line l).state with
  | .outOfService => s
  | .idle => (s.setHook l .off).originate l
  | .toneWait | .dialTone | .digits | .held | .recalling => s.setHook l .off
  | .ringWait => (s.setHook l .off).preRingAnswer l q
  | .ringing => (s.setHook l .off).answerRinging l q kind
  | .cleared => (s.setHook l .off).modLine l fun r => { r with reorigination := some true }
  | .parked => (s.setHook l .off).stopTimer l

/-! ### Pulses and digits (R62-R64, R73-R75) -/

/-- Start the interdigit timer with the class's interdigit timeout (R64). -/
def startInterdigit (s : State) (l : LineNo) : State := s.startTimer l .interdigit (s.lineClass l).interdigitTimeout

/-- Start the first-digit timer with the class's first-digit timeout (R50, R67, R77). -/
def startFirstDigit (s : State) (l : LineNo) : State := s.startTimer l .firstDigit (s.lineClass l).firstDigitTimeout

/-- The interdigit timer of a claimed line restarts; an unclaimed line has none (R62, R63). -/
def restartInterdigit (s : State) (l : LineNo) : State :=
  if (s.line l).holder.isSome then s.startInterdigit l else s

/-- A PULSE at a line record (R62, R74). -/
def pulsed (s : State) (l : LineNo) : State :=
  match (s.line l).state with
  | .toneWait | .dialTone => ((s.giveUpTone l).enter l .digits).restartInterdigit l
  | .digits => s.restartInterdigit l
  | .recalling => s.modLine l fun r => { r with digitInProgress := some true }
  | _ => s

/-- The dialling is complete: DIALING COMPLETE is reported and the line goes to HELD (R54, R63, R77). -/
def dialingDone (s : State) (l : LineNo) : State :=
  (s.report l (.dialingComplete (s.line l).delivered)).enter l .held

/-- A digit ends on a claimed line in DIGITS (R63): DIGIT, the counts, and DIALING COMPLETE when the last awaited digit
comes. -/
def digitToHolder (s : State) (l : LineNo) (d : Digit) : State :=
  let s := s.report l (.digit d false)
  let n := (s.line l).expected
  let s := s.modLine l fun r =>
    { r with delivered := min (r.delivered + 1) Config.countMax, expected := r.expected - 1 }
  if n = 1 then s.dialingDone l else s.restartInterdigit l

/-- A digit joins the tail of the digit buffer, or is discarded with DIGIT ERROR when the buffer is full (R63, R75). -/
def bufferDigit (s : State) (l : LineNo) (d : Digit) (count : Nat) : State :=
  if (s.line l).digits.length < Config.digitBufferSize then
    s.modLine l fun r => { r with digits := r.digits ++ [d] }
  else s.report l (.digitError .bufferFull count)

/-- A DIGIT END at a line record (R63, R73, R75). -/
def digitEnded (s : State) (l : LineNo) (outcome : DigitOutcome) (count : Nat) : State :=
  match (s.line l).state, outcome with
  | .digits, .digit d => if (s.line l).holder.isSome then s.digitToHolder l d else s.bufferDigit l d count
  | .digits, o => (s.report l (.digitError o.errorCause count)).restartInterdigit l
  | .held, .digit d => s.report l (.digit d true)
  | .held, o => s.report l (.digitError o.errorCause count)
  | .recalling, .digit d => (s.modLine l fun r => { r with digitInProgress := some false }).bufferDigit l d count
  | .recalling, o => (s.modLine l fun r => { r with digitInProgress := some false }).report l (.digitError o.errorCause count)
  | _, _ => s

/-- A BAD BREAK at a line record (R68, R73, R75). -/
def badBroken (s : State) (l : LineNo) (start : Ms) (length : Nat) : State :=
  match (s.line l).state with
  | .held | .recalling => s.report l (.unclassifiedBreak start length)
  | _ => s

/-! ### Flash (R67, R72, R75) -/

/-- A recall starts or starts over (R72, R75): buffer emptied, digit in progress no, a full recall window, FLASH with the
state it was taken in. -/
def startRecall (s : State) (l : LineNo) (discarded : Nat) : State :=
  let r := s.line l
  let window := (s.lineClass l).recallWindow
  let s := s.modLine l fun r => { r.enter .recalling with digits := [], digitInProgress := some false }
  let s := s.startTimer l .recallWindow window
  s.report l (.flash r.state r.digits.length discarded (s.now + window))

/-- A dial restart from DIGITS (R67): buffer emptied, the count of a claimed line open-ended, tone asked for anew. -/
def restartDialling (s : State) (l : LineNo) (discarded : Nat) : State :=
  let n := (s.line l).digits.length
  let s := s.modLine l fun r =>
    { r with digits := [], expected := if r.holder.isSome then 0 else r.expected, timer := none }
  let s := (s.askTone l).startFirstDigit l
  s.report l (.dialRestart n discarded)

/-- A FLASH at a line record (R67, R72, R75). -/
def flashed (s : State) (l : LineNo) (discarded : Nat) : State :=
  match (s.line l).state with
  | .toneWait | .dialTone => (s.startFirstDigit l).report l (.dialRestart 0 discarded)
  | .digits => s.restartDialling l discarded
  | .held | .recalling => s.startRecall l discarded
  | _ => s

/-! ### Disconnect (R66, R73, R79, R80, R82, R18) -/

/-- The call on a line ends by a hang-up (R66, R79, R80, R5): CLEAR, then CLEARED with the holder, or IDLE for an orphan. -/
def clearCall (s : State) (l : LineNo) (discarded : Nat) : State :=
  let r := s.line l
  let s := (s.giveUpTone l).report l (.clear r.state discarded r.orphan)
  if r.holder.isSome then s.enterCleared l else s.enterIdle l

/-- A PARKED line's subscriber hangs up (R18, R86): the park release time counts from the start of the break, and the line
leaves at once when it has already passed. -/
def parkedHangUp (s : State) (l : LineNo) (breakStart : Ms) : State :=
  let deadline := breakStart + (s.lineClass l).parkRelease
  if deadline ≤ s.now then s.unparkToIdle l
  else s.modLine l fun r => { r with timer := some ⟨.parkRelease, deadline⟩ }

/-- A DISCONNECT at a line record. -/
def hungUp (s : State) (l : LineNo) (breakStart : Ms) (discarded : Nat) : State :=
  match (s.line l).state with
  | .outOfService => s
  | .toneWait | .dialTone | .digits =>
    let s := s.setHook l .on
    if (s.line l).holder.isSome then s.clearCall l discarded
    else ((s.giveUpTone l).abandonOffer l .onHook).enterIdle l
  | .held | .recalling => (s.setHook l .on).clearCall l discarded
  | .cleared => (s.setHook l .on).modLine l fun r => { r with reorigination := some false }
  | .parked => (s.setHook l .on).parkedHangUp l breakStart
  | .idle | .ringWait | .ringing => s.setHook l .on

/-! ### Timer expiries (R64, R65, R76, R81, R83, R18) -/

/-- The first-digit timer of a line in TONE_WAIT or DIAL_TONE expires (R65, R81). -/
def firstDigitExpired (s : State) (l : LineNo) : State :=
  if (s.line l).recallMark then ((s.giveUpTone l).report l (.recallLapsed .firstDigit)).enter l .held
  else s.parkFromOrigination l .permanentSignal .permanentSignal

/-- The interdigit timer of a line in DIGITS expires (R64, R81). -/
def interdigitExpired (s : State) (l : LineNo) : State :=
  let r := s.line l
  if r.recallMark then (s.report l (.recallLapsed (.interdigit r.delivered r.expected))).enter l .held
  else (s.report l (.interdigitTimeout r.delivered r.expected)).stopTimer l

/-- The recall window lapses (R76): RECALL LAPSED with the digits in the buffer, then HELD. -/
def recallLapsed (s : State) (l : LineNo) : State :=
  (s.report l (.recallLapsed (.window (s.line l).digits.length))).enter l .held

/-- A line in the tone wait queue passes its tone delay deadline (R61). -/
def toneDelayed (s : State) (l : LineNo) : State :=
  let waited := s.now - ((s.line l).toneWaitStart.getD s.now)
  let s := s.modLine l fun r => { r with toneDelayReported := some true }
  s.report l (.toneDelay waited (s.tone.position l) s.tone.inUse s.tone.currentLimit)

/-! ### Teardown (R16) -/

/-- Step 1 to 4 of the teardown (R16, R22): tone, ringing, offer, digits. -/
def freeLine (s : State) (l : LineNo) (cause : TeardownCause) : State :=
  let s := s.giveUpTone l
  let s := match cause with
    | .cardLoss => s.failRing l .lineLost
    | .park | .remove => s.stopRing l .maintenance
  let s := s.abandonOffer l .teardown
  (s.modLine l fun r => { r with digits := [], expected := 0 }).sendCommand l .discardPulseCount

/-- Step 6 of the teardown (R16): the fields that a state entry does not clear by itself are cleared. Reorigination pending
becomes absent; log 26. -/
def clearFields (s : State) (l : LineNo) : State :=
  s.modLine l fun r =>
    { r with holder := none, orphan := false, recallMark := false, reorigination := none, offer := .none, returnState := none,
             timer := none }

/-- A line enters OUT_OF_SERVICE with a reason; its hook field stays ON from then on (R23, R24); log 8. -/
def enterOutOfService (s : State) (l : LineNo) (reason : OosReason) : State :=
  s.modLine l fun r => { r.enter .outOfService with oosReason := some reason, hook := .on }

/-- The teardown of a line (R16). -/
def teardown (s : State) (l : LineNo) (cause : TeardownCause) : State :=
  let s := s.freeLine l cause
  match cause with
  | .park => ((s.report l (.lineParked .maintenance)).clearFields l).enterParked l .maintenance
  | .remove => ((s.report l .lineLost).clearFields l).enterOutOfService l .admin
  | .cardLoss => ((s.report l .lineLost).clearFields l).enterOutOfService l .card

/-- FORCE RELEASE of a line that has a holder or is an orphan (R22). -/
def forceReleased (s : State) (l : LineNo) : State :=
  let s := ((s.freeLine l .park).report l .releaseForced).clearFields l
  if (s.line l).hook == .on then s.enterIdle l else s.enterParked l .maintenance

/-- A line returns to service from OUT_OF_SERVICE (R21, R25): IDLE, taken afresh as on-hook, LINE RESTORED. -/
def restoreService (s : State) (l : LineNo) : State :=
  ((s.enterIdle l).setHook l .on |>.sendCommand l .takeAfresh).report l .lineRestored

/-! ### Card events (R24, R25) -/

/-- CARD LOSS at one line record (R24). -/
def lineCardLost (s : State) (l : LineNo) : State :=
  if (s.line l).state == .outOfService then s.modLine l fun r => { r with oosReason := some .card }
  else s.teardown l .cardLoss

/-- CARD PRESENT at one line record (R25). -/
def lineCardPresent (s : State) (l : LineNo) : State :=
  if (s.line l).oosReason == some .card then s.modLine l fun r => { r with oosReason := some .settle } else s

/-- CARD SETTLED at one line record (R25). -/
def lineCardSettled (s : State) (l : LineNo) : State :=
  if (s.line l).state == .outOfService then
    if (s.line l).admin then s.modLine l fun r => { r with oosReason := some .admin } else s.restoreService l
  else s

/-! ### Release (R84, R85) -/

/-- A held line whose subscriber is off-hook is released and parked (R85). -/
def releaseToPark (s : State) (l : LineNo) : State :=
  let s := s.giveUpTone l
  let s := (s.modLine l fun r => { r with digits := [], expected := 0 }).sendCommand l .discardPulseCount
  (s.report l (.lineParked .releasedOffHook)).enterParked l .releasedOffHook

/-- RELEASE of a line by its holder, by the line's state (R84). -/
def releaseLine (s : State) (l : LineNo) : State :=
  match (s.line l).state with
  | .cleared => s.releaseCleared l
  | .held | .recalling | .toneWait | .dialTone | .digits => s.releaseToPark l
  | .ringWait | .ringing => (s.stopRing l .release).enterIdle l
  | .idle | .parked | .outOfService => s

/-! ### Port absence (R139, R156, R157) -/

/-- A held line of the absent port becomes an orphan (R5). -/
def orphanLine (s : State) (l : LineNo) : State :=
  (s.modLine l fun r => { r with holder := none, orphan := true }).report l .orphaned

/-- A claimed originating line of the absent port is offered again (R157). -/
def offerAgain (s : State) (l : LineNo) : State :=
  let s := s.modLine l fun r =>
    { r with holder := none, recallMark := false, expected := 0, delivered := 0,
             timer := if r.state == .digits then none else r.timer }
  match s.offerPort l with
  | some (stage, p) => (s.offerTo l stage p).sendOriginate l
  | none => s.parkFromOrigination l .noController .noController

/-- A ring of the absent requester is cancelled (R139): the ring ended, the line IDLE, RING CANCELLED. The placement pass of
the absence event is due even when no entry was removed (R156). -/
def cancelRing (s : State) (l : LineNo) (p : Port) : State :=
  match s.ringOf l with
  | some (party, program, cycles) =>
    ((s.endRing l).callPass.enterIdle l).report l (.ringCancelled party program p cycles)
  | none => s

/-- One line in the absence of a port (R157). -/
def lineAbsent (s : State) (p : Port) (l : LineNo) : State :=
  let r := s.line l
  if r.holder == some p then
    match r.state with
    | .held | .recalling => s.orphanLine l
    | .toneWait | .dialTone | .digits => s.offerAgain l
    | .cleared => s.releaseCleared l
    | .ringWait | .ringing => s.cancelRing l p
    | .idle | .parked | .outOfService => s
  else if r.state.originating && r.offer.open && r.offeredPort == some p then s.advanceOffer l
  else s

/-- The absence of a port (R156), with the cause its PORT STATE gives, up to and with the grants and the placement pass at
its end. -/
def absence (s : State) (p : Port) (cause : PortStateCause) : State :=
  let s := s.modPort p fun t => { t with state := .absent, deadline := none }
  let s := s.setQueue p .reset
  let s := s.reportPortState p .absent cause
  (allLines.foldl (fun s l => s.lineAbsent p l) s).finish

end State

end Sys2Proof.Machine
end

