-- ==== Sys2Proof/Machine/Operands.lean ====
section
/-! DEFINITION. The operand forms of the requests: the codes of received fields and the body of every kind (R170). A code the
table does not give for a field reads as `none`, and the owner refuses it BAD VALUE. -/

namespace Sys2Proof.Machine

/-- A number below `n`, as its type. -/
def below (n : Nat) [NeZero n] (v : Nat) : Option (Fin n) := if v < n then some (Fin.ofNat n v) else none

/-- A line number (R8). -/
def lineOf (b : Byte) : Option LineNo := below 64 b.toNat

/-- A program number (R91). -/
def programOf (b : Byte) : Option ProgramNo := below 16 b.toNat

/-- A class number (R11). -/
def classNoOf (b : Byte) : Option ClassNo := below 8 b.toNat

/-- A port that must be named (R170). -/
def portOf (b : Byte) : Option Port :=
  match b.toNat with
  | 1 => some .A
  | 2 => some .B
  | 3 => some .M
  | _ => none

/-- A port that may be none (R170): the outer `none` is a code the table does not give. -/
def optPortOf (b : Byte) : Option (Option Port) := if b.toNat = 0 then some none else (portOf b).map some

/-- A ring route (R170). -/
def routeCodeOf (b : Byte) : Option RingRoute :=
  match b.toNat with
  | 0 => some .loopAny
  | 1 => some .loop1
  | 2 => some .loop2
  | 3 => some .tip1
  | 4 => some .tip2
  | 5 => some .ring1
  | 6 => some .ring2
  | _ => none

/-- A priority (R170). -/
def priorityOf (b : Byte) : Option Priority :=
  match b.toNat with
  | 1 => some .urgent
  | 2 => some .normal
  | 3 => some .test
  | _ => none

/-- A dialling method (R170). -/
def diallingOf (b : Byte) : Option Dialling :=
  match b.toNat with
  | 1 => some .pulse
  | 2 => some .tone
  | _ => none

/-- A report route (R170). -/
def reportRouteOf (b : Byte) : Option ReportRoute :=
  match b.toNat with
  | 0 => some .none
  | 1 => some .holder
  | 2 => some .holderAndM
  | 3 => some .m
  | _ => none

/-- A step kind (R170). -/
def stepKindOf (b : Byte) : Option StepKind :=
  match b.toNat with
  | 0 => some .off
  | 1 => some .on
  | _ => none

/-- A yes/no field (R170). -/
def yesNoOf (b : Byte) : Option Bool :=
  match b.toNat with
  | 0 => some false
  | 1 => some true
  | _ => none

/-- A follow-on, 255 for none (R170): the outer `none` is a value out of range. -/
def followOnOf (b : Byte) : Option (Option ProgramNo) := if b.toNat = 255 then some none else (programOf b).map some

/-- A value within a range that includes both ends. -/
def inRange (lo hi v : Nat) : Bool := lo ≤ v && v ≤ hi

/-- A list read entry by entry, `none` when one entry has no reading. -/
def allSome {α : Type} : List (Option α) → Option (List α)
  | [] => some []
  | none :: _ => none
  | some a :: xs => (allSome xs).map (a :: ·)

/-- The party entries of SET LINE: two bytes each, ring route and load of 1 to 8 (R13, R170). -/
def partiesOf : List Byte → Option (List Party)
  | r :: l :: bs =>
    match routeCodeOf r, inRange 1 8 l.toNat, partiesOf bs with
    | some route, true, some ps => some (⟨route, l.toNat⟩ :: ps)
    | _, _, _ => none
  | [] => some []
  | [_] => none

/-- The steps of WRITE STEPS: three bytes each, kind, length of 1 to 30 slots, marker (R91, R170). -/
def stepsOf : List Byte → Option (List StepFields)
  | k :: n :: m :: bs =>
    match stepKindOf k, inRange 1 30 n.toNat, yesNoOf m, stepsOf bs with
    | some kind, true, some marker, some fs => some (⟨kind, n.toNat, marker⟩ :: fs)
    | _, _, _, _ => none
  | [] => some []
  | _ => none

/-- A kind that names a request (R170). -/
def knownKind (kind : Nat) : Bool := inRange 1 32 kind

/-- The body of a known kind has the length the table gives (R170). WRITE STEPS and SET LINE must hold their count byte and be
exactly the length the count gives. -/
def bodyFits (kind : Nat) (body : List Byte) : Bool :=
  match kind with
  | 3 | 6 | 24 | 27 => body.length == 2
  | 9 => body.length == 5
  | 12 => match body[3]? with
    | some e => body.length == 4 + 2 * e.toNat
    | none => false
  | 13 => body.length == 26
  | 19 => match body[1]? with
    | some n => body.length == 2 + 3 * n.toNat
    | none => false
  | 20 | 26 => body.length == 3
  | 23 => body.length == 4
  | 25 => body.length == 11
  | 29 | 31 | 32 => body.length == 0
  | _ => body.length == 1

/-- The permissions checked by the port (R153): the maintenance requests and RING with priority TEST are port M's. -/
def permitted (kind : Nat) (body : List Byte) (p : Port) : Bool :=
  match kind with
  | 14 | 15 | 16 | 17 | 18 | 32 => p == .M
  | 9 => p == .M || (body[4]?.map (·.toNat)) != some 3
  | _ => true

/-- A time measured at the scan: within its range and a multiple of 5 ms (R10). -/
def scanTimeOk (lo hi v : Nat) : Bool := inRange lo hi v && v % 5 == 0

/-- The value checks of SET CLASS on the read values (R11, R10). -/
def LineClass.valid (c : LineClass) : Bool :=
  scanTimeOk 5 50 c.hitLimit && scanTimeOk 20 500 c.originationQualify
  && scanTimeOk 10 100 c.pulseBreakMin && scanTimeOk 20 150 c.pulseBreakMax
  && scanTimeOk 100 800 c.interdigitMake && scanTimeOk 100 1000 c.flashMin && scanTimeOk 200 2000 c.flashMax
  && scanTimeOk 10 200 c.ringTripQualify
  && inRange 2000 60000 c.firstDigitTimeout && inRange 2000 60000 c.interdigitTimeout
  && inRange 500 10000 c.claimWindow && inRange 1000 30000 c.recallWindow
  && inRange 1000 120000 c.releaseWait && inRange 500 10000 c.parkRelease
  && c.alternate != some c.home
  && c.hitLimit < c.pulseBreakMin && c.pulseBreakMin ≤ c.pulseBreakMax
  && c.pulseBreakMax < c.flashMin && c.flashMin < c.flashMax
  && c.pulseBreakMax < c.interdigitMake && c.hitLimit < c.originationQualify

/-- The class number and the class that a SET CLASS body carries (R170, R11), `none` when a check fails. -/
def classOfBody : List Byte → Option (ClassNo × LineClass)
  | [c, h1, h0, o1, o0, a1, a0, b1, b0, i1, i0, f1, f0, g1, g0, t1, t0, fd, id, cw, rw, rl, pk, dl, hm, al] =>
    match classNoOf c, diallingOf dl, portOf hm, optPortOf al with
    | some n, some dialling, some home, some alternate =>
      let k : LineClass :=
        { hitLimit := nat2 h1 h0, originationQualify := nat2 o1 o0, pulseBreakMin := nat2 a1 a0, pulseBreakMax := nat2 b1 b0,
          interdigitMake := nat2 i1 i0, flashMin := nat2 f1 f0, flashMax := nat2 g1 g0, ringTripQualify := nat2 t1 t0,
          firstDigitTimeout := 1000 * fd.toNat, interdigitTimeout := 1000 * id.toNat, claimWindow := 100 * cw.toNat,
          recallWindow := 1000 * rw.toNat, releaseWait := 1000 * rl.toNat, parkRelease := 100 * pk.toNat,
          dialling := dialling, home := home, alternate := alternate }
      if k.valid then some (n, k) else none
    | _, _, _, _ => none
  | _ => none

/-- The plant limits that a SET PLANT LIMITS body carries (R147, R170), `none` when a check fails. -/
def plantLimitsOf : List Byte → Option PlantLimits
  | [e1, e0, s1, s0, h, q1, q0, r1, r0, t1, t0] =>
    let k : PlantLimits := ⟨nat2 e1 e0, nat2 s1 s0, h.toNat, nat2 q1 q0, nat2 r1 r0, nat2 t1 t0⟩
    if inRange 400 560 k.economyLevel && inRange 350 559 k.shedLevel && k.shedLevel < k.economyLevel
        && inRange 2 50 k.hysteresis && inRange 1 300 k.economyQualify && inRange 1 300 k.shedQualify
        && inRange 5 600 k.recoveryTime then some k
    else none
  | _ => none

end Sys2Proof.Machine
end

