-- ==== Sys2Proof/Machine/Ports.lean ====
section
/-! DEFINITION. The Control Ports (chapter 9): frame assembly, the reply order, presence, and the taking of a request. -/

namespace Sys2Proof.Machine

/-- What a command answers: always a next state (INVENTORY.md, "Faults"). -/
abbrev Answer := Host.Outcome State Fault Refusal

/-- The number of held frames of a reply order: the input hold (R151). -/
def heldCount (q : List ReplyItem) : Nat :=
  (q.filter fun
    | .held _ _ => true
    | .mark _ _ => false).length

/-- A frame to be answered FRAME ERROR or OVERRUN joins the answer mark at the tail, or forms a new mark (R151). -/
def joinMark (r : MarkResult) : List ReplyItem → List ReplyItem
  | [] => [.mark r 1]
  | [.mark q n] => if q = r ∧ n < Config.markMax then [.mark q (n + 1)] else [.mark q n, .mark r 1]
  | x :: xs => x :: joinMark r xs

/-- The result an answer mark is answered with (R151). -/
def MarkResult.result : MarkResult → Result
  | .frameError => .frameError
  | .overrun => .overrun

/-- A good frame completes (R151): held while fewer than four frames are held, else an overrun. -/
def PortRecord.completeFrame (t : PortRecord) (kind : Byte) (body : List Byte) : PortRecord :=
  if heldCount t.reply < Config.holdSize then { t with assembling := none, reply := t.reply ++ [.held kind body] }
  else { t with assembling := none, reply := joinMark .overrun t.reply }

/-- The bytes received so far form a bad frame (R150, R151). -/
def PortRecord.badFrame (t : PortRecord) : PortRecord :=
  { t with assembling := none, reply := joinMark .frameError t.reply }

/-- A byte while no frame is being assembled: the start byte begins one, any other is discarded (R150). -/
def PortRecord.startByte (t : PortRecord) (b : Byte) (now : Ms) : PortRecord :=
  if b = Config.requestStart then { t with assembling := some ⟨[b], now⟩ } else t

/-- A byte of a frame being assembled (R150): the length byte is checked at once, and the frame is complete at its check byte,
where its bytes must sum to 0 modulo 256. -/
def PortRecord.nextByte (t : PortRecord) (f : PartFrame) (b : Byte) (now : Ms) : PortRecord :=
  match f.bytes ++ [b] with
  | [s, len] =>
    if inRange 1 32 len.toNat then { t with assembling := some ⟨[s, len], now⟩ } else t.badFrame
  | s :: len :: rest =>
    if rest.length < len.toNat + 1 then { t with assembling := some ⟨s :: len :: rest, now⟩ }
    else if (s :: len :: rest).foldl (· + ·) 0#8 = 0#8 then
      t.completeFrame (rest.headD 0#8) ((rest.drop 1).take (len.toNat - 1))
    else t.badFrame
  | bs => { t with assembling := some ⟨bs, now⟩ }

/-- More than 50 ms have passed since the last byte of a frame that is not complete (R150). -/
def PartFrame.timedOut (f : PartFrame) (now : Ms) : Bool := f.lastByte + Config.byteGap < now

/-- A byte arrives on a port (R150). A frame whose last byte is more than 50 ms old is a bad frame first; log 17. -/
def PortRecord.receive (t : PortRecord) (b : Byte) (now : Ms) : PortRecord :=
  match t.assembling with
  | none => t.startByte b now
  | some f => if f.timedOut now then t.badFrame.startByte b now else t.nextByte f b now

namespace State

/-- A port sends a response frame (R152, R169), with what the response shows beyond its bytes. -/
def respond (s : State) (p : Port) (kind : Byte) (r : Reply) : State :=
  s.modPort p fun t => { t with sent := t.sent ++ [responseFrame kind r], notes := t.notes ++ r.noteAt t.sent.length }

/-- The presence deadline of a refresh at the present time: none with a window of 0 (R154). -/
def presenceDeadline (s : State) (window : Nat) : Option Ms :=
  if window = 0 then none else some (s.now + 1000 * window)

/-- A presence refresh (R152, R154): the port becomes PRESENT with its deadline restarted, and the return of an ABSENT port is
reported to the other PRESENT ports. -/
def refreshPresence (s : State) (p : Port) : State :=
  let old := (s.port p).state
  let s := s.modPort p fun t => { t with state := .present, deadline := s.presenceDeadline t.window }
  if old == .absent then s.reportPortState p .present .request else s

/-- The presence deadline of a port is there to be taken (R154). -/
def presenceExpired (s : State) (p : Port) : Bool := s.present p && deadlinePassed (s.port p).deadline s.now

/-- The port hands a request to its owner after its own checks (R152, R153). -/
def handOver (s : State) (kind : Nat) (p : Port) (body : List Byte)
    (owner : State → Port → List Byte → State × Reply) : State × Reply :=
  if !bodyFits kind body then (s, .refuse .badValue)
  else if !permitted kind body p then (s, .refuse .notPermitted)
  else owner s p body

end State

/-- A port takes the held frame at the head of its reply order, when that is a request of this kind (R151, R152): its place in
the hold is freed, presence is refreshed, the port's checks are made, the owner acts, the event ends with its grants and
passes, and the response is sent. With anything else at the head there is no such request to take, and nothing happens;
log 3. -/
def takeRequest (kind : Nat) (p : Port) (owner : State → Port → List Byte → State × Reply) (s : State) : Answer :=
  match (s.port p).reply with
  | .held k body :: rest =>
    if k.toNat = kind then
      let s := (s.modPort p fun t => { t with reply := rest }).refreshPresence p
      let (s, reply) := s.handOver kind p body owner
      .next (s.finish.respond p k reply)
    else .next s
  | _ => .next s

/-- RECEIVE_BYTE (R150, R151). -/
def execReceiveByte (p : Port) (b : Byte) (s : State) : Answer := .next (s.modPort p (·.receive b s.now))

/-- FRAME_BYTE_TIMEOUT (R150): the bytes received so far form a bad frame. -/
def execFrameByteTimeout (p : Port) (s : State) : Answer :=
  match (s.port p).assembling with
  | some f => if f.timedOut s.now then .next (s.modPort p (·.badFrame)) else .next s
  | none => .next s

/-- ANSWER_MARK (R151): the mark at the head is answered with as many responses as its count, and removed. The responses carry
kind 0 (R169). -/
def execAnswerMark (p : Port) (s : State) : Answer :=
  match (s.port p).reply with
  | .mark r n :: rest =>
    .next (s.modPort p fun t =>
      { t with reply := rest, sent := t.sent ++ List.replicate n (responseFrame 0#8 (.refuse r.result)) })
  | _ => .next s

/-- UNKNOWN_KIND (R152, R170): a held frame whose kind names no request is answered UNKNOWN KIND, and presence is not
refreshed. -/
def execUnknownKind (p : Port) (s : State) : Answer :=
  match (s.port p).reply with
  | .held k _ :: rest =>
    if knownKind k.toNat then .next s
    else .next ((s.modPort p fun t => { t with reply := rest }).respond p k (.refuse .unknownKind))
  | _ => .next s

/-- PRESENCE_DEADLINE_EXPIRY (R156, R157). -/
def execPresenceDeadlineExpiry (p : Port) (s : State) : Answer :=
  if s.presenceExpired p then .next (s.absence p .window) else .next s

end Sys2Proof.Machine
end

