-- ==== Sys2Proof/Machine/LineRequests.lean ====
section
/-! DEFINITION. The requests that chapter 1 owns: LINE QUERY, ADOPT, SET LINE, SET CLASS and the maintenance requests
(R11-R22). -/

namespace Sys2Proof.Machine

namespace State

/-- A request whose one body byte is a line number: a line outside 0-63 is refused BAD VALUE before every other check (R8). -/
def onLine (act : State → Port → LineNo → State × Reply) (s : State) (p : Port) (body : List Byte) : State × Reply :=
  match body with
  | [b] =>
    match lineOf b with
    | some l => act s p l
    | none => (s, .refuse .badValue)
  | _ => (s, .refuse .badValue)

/-- LINE QUERY (R14). -/
def lineQuery (s : State) (_p : Port) (l : LineNo) : State × Reply := (s, .okWith (s.lineSnapshot l))

/-- ADOPT (R15). -/
def adopt (s : State) (p : Port) (l : LineNo) : State × Reply :=
  let r := s.line l
  if r.orphan then
    let s := s.modLine l fun r => { r with holder := some p, orphan := false }
    (s, .okWith (s.lineSnapshot l))
  else if r.holder.isSome then (s, .refuse .heldElsewhere)
  else (s, .refuse .lineActive)

/-- The configuration a SET LINE body carries after its range checks (R13): class, and the party entries. -/
def lineConfigOf (cls parties count : Byte) (entries : List Byte) : Option (ClassNo × List Party) :=
  match classNoOf cls, partiesOf entries with
  | some c, some ps =>
    if inRange 1 4 parties.toNat && count.toNat == parties.toNat && ps.length == parties.toNat
        && (ps.length == 1 || ps.all (·.route != .loopAny)) then some (c, ps)
    else none
  | _, _ => none

/-- SET LINE (R13): in IDLE, PARKED and OUT_OF_SERVICE the configuration is replaced whole. -/
def setLineConfig (s : State) (_p : Port) (body : List Byte) : State × Reply :=
  match body with
  | lb :: cls :: parties :: count :: entries =>
    match lineOf lb, lineConfigOf cls parties count entries with
    | some l, some (c, ps) =>
      if (s.line l).state.unheld then (s.modLine l fun r => { r with cls := c, parties := ps }, .ok)
      else (s, .refuse .lineActive)
    | _, _ => (s, .refuse .badValue)
  | _ => (s, .refuse .badValue)

/-- SET CLASS (R11): the class is replaced whole. -/
def setClassValues (s : State) (_p : Port) (body : List Byte) : State × Reply :=
  match classOfBody body with
  | some (n, c) => (s.setClass n c, .ok)
  | none => (s, .refuse .badValue)

/-- PARK (R17). -/
def parkLine (s : State) (_p : Port) (l : LineNo) : State × Reply :=
  match (s.line l).state with
  | .outOfService => (s, .refuse .lineActive)
  | .parked => ((s.modLine l fun r => { r with parkReason := some .maintenance }).report l (.lineParked .maintenance), .ok)
  | _ => (s.teardown l .park, .ok)

/-- UNPARK (R19): LINE UNPARKED, then IDLE on-hook, or an origination off-hook. -/
def unparkLine (s : State) (_p : Port) (l : LineNo) : State × Reply :=
  match (s.line l).state with
  | .parked =>
    let s := s.unparkToIdle l
    (if (s.line l).hook == .off then s.originate l else s, .ok)
  | _ => (s, .refuse .lineActive)

/-- REMOVE LINE (R20): the flag is set; a line in service is torn down; a line out of service keeps its state, and the reason
it has is the one R23 works out with the flag set. -/
def removeLine (s : State) (_p : Port) (l : LineNo) : State × Reply :=
  let s := if (s.line l).state == .outOfService then s else s.teardown l .remove
  (s.modLine l fun r => { r with admin := true }, .ok)

/-- RESTORE LINE (R21). -/
def restoreLine (s : State) (_p : Port) (l : LineNo) : State × Reply :=
  let r := s.line l
  if r.admin then
    let s := s.modLine l fun r => { r with admin := false }
    (if r.state == .outOfService && r.oosReason == some .admin then s.restoreService l else s, .ok)
  else (s, .ok)

/-- FORCE RELEASE (R22). -/
def forceRelease (s : State) (_p : Port) (l : LineNo) : State × Reply :=
  if (s.line l).holder.isSome || (s.line l).orphan then (s.forceReleased l, .ok) else (s, .refuse .notHolder)

end State

/-- LINE_QUERY (R14). -/
def execLineQuery (p : Port) (s : State) : Answer := takeRequest 1 p (State.onLine State.lineQuery) s

/-- ADOPT (R15). -/
def execAdopt (p : Port) (s : State) : Answer := takeRequest 2 p (State.onLine State.adopt) s

/-- SET_LINE (R13). -/
def execSetLine (p : Port) (s : State) : Answer := takeRequest 12 p State.setLineConfig s

/-- SET_CLASS (R11). -/
def execSetClass (p : Port) (s : State) : Answer := takeRequest 13 p State.setClassValues s

/-- PARK (R17). -/
def execPark (p : Port) (s : State) : Answer := takeRequest 14 p (State.onLine State.parkLine) s

/-- UNPARK (R19). -/
def execUnpark (p : Port) (s : State) : Answer := takeRequest 15 p (State.onLine State.unparkLine) s

/-- REMOVE_LINE (R20). -/
def execRemoveLine (p : Port) (s : State) : Answer := takeRequest 16 p (State.onLine State.removeLine) s

/-- RESTORE_LINE (R21). -/
def execRestoreLine (p : Port) (s : State) : Answer := takeRequest 17 p (State.onLine State.restoreLine) s

/-- FORCE_RELEASE (R22). -/
def execForceRelease (p : Port) (s : State) : Answer := takeRequest 18 p (State.onLine State.forceRelease) s

end Sys2Proof.Machine
end

