-- ==== Sys2Proof/Machine/CallRequests.lean ====
section
/-! DEFINITION. The requests of the holder during a call: CLAIM, END TONE, CONNECT, GIVE TONE, KEEP CALL and RELEASE
(R53, R54, R69, R70, R77, R78, R84). -/

namespace Sys2Proof.Machine

namespace State

/-- A request with a line and an expected digit count of 0 to 16 (R53, R77, R170). -/
def onLineAndCount (act : State → Port → LineNo → Nat → State × Reply) (s : State) (p : Port) (body : List Byte) :
    State × Reply :=
  match body with
  | [b, n] =>
    match lineOf b, inRange 0 16 n.toNat with
    | some l, true => act s p l n.toNat
    | _, _ => (s, .refuse .badValue)
  | _ => (s, .refuse .badValue)

/-- The data of CLAIM and GIVE TONE: state entered, tone tap (255 none), the digits carried (R172). -/
def callData (s : State) (l : LineNo) (ds : List Digit) : List Byte :=
  [byteOf (s.line l).state.code, byteOf ((s.tone.tapOf l).getD 255), byteOf ds.length] ++ ds.map fun d => byteOf d.val

/-- The count still awaited after `k` of `n` digits, 0 when open-ended (R54, R77). -/
def awaited (n k : Nat) : Nat := if n = 0 then 0 else n - k

/-- An unclaimed originating line is claimed (R54). -/
def claimLine (s : State) (p : Port) (l : LineNo) (n : Nat) : State × Reply :=
  let r := s.line l
  let k := r.digits.length
  let s := if r.offeredPort == some p then s else s.abandonOffer l .claimedElsewhere
  let s := s.modLine l fun r =>
    { r with holder := some p, offer := .claimed, offeredPort := none, offerDeadline := none, digits := [],
             delivered := k, expected := awaited n k }
  let s :=
    if 0 < n && n ≤ k then (s.giveUpTone l).dialingDone l
    else if r.state == .digits then s.startInterdigit l
    else s
  (s, .okWith (s.callData l r.digits))

/-- CLAIM (R53). A re-claim changes only the expected digits (R54). -/
def claim (s : State) (p : Port) (l : LineNo) (n : Nat) : State × Reply :=
  let r := s.line l
  if r.heldElsewhere p then (s, .refuse .heldElsewhere)
  else if r.state.originating && r.offer.open then s.claimLine p l n
  else if r.state.originating && r.holder == some p then
    let s := s.modLine l fun r => { r with expected := n }
    (s, .okWith (s.callData l []))
  else (s, .refuse .lineActive)

/-- END TONE (R69): on a line whose dialling is TONE the interdigit timer stays stopped (R64). -/
def endTone (s : State) (p : Port) (l : LineNo) : State × Reply :=
  let r := s.line l
  if r.holder != some p then (s, .refuse .notHolder)
  else match r.state with
    | .dialTone | .toneWait =>
      let s := (s.giveUpTone l).enter l .digits
      (if r.dialling == some .tone then s else s.startInterdigit l, .ok)
    | .digits => (s, .ok)
    | _ => (s, .refuse .lineActive)

/-- CONNECT (R70). -/
def connect (s : State) (p : Port) (l : LineNo) : State × Reply :=
  let r := s.line l
  if r.holder != some p then (s, .refuse .notHolder)
  else if r.state.originating then ((s.giveUpTone l).enter l .held, .ok)
  else (s, .refuse .lineActive)

/-- An accepted GIVE TONE (R77). -/
def giveToneLine (s : State) (l : LineNo) (n : Nat) : State × Reply :=
  let r := s.line l
  let k := r.digits.length
  let dialling := (s.lineClass l).dialling
  let s := s.modLine l fun r =>
    { r with recallMark := true, offer := .claimed, dialling := some dialling, digits := [], delivered := k,
             expected := awaited n k, timer := none }
  let s :=
    if 0 < n && n ≤ k then s.dialingDone l
    else if 0 < k || r.digitInProgress == some true then (s.enter l .digits).startInterdigit l
    else (s.askTone l).startFirstDigit l
  (s, .okWith (s.callData l r.digits))

/-- GIVE TONE (R77). -/
def giveTone (s : State) (p : Port) (l : LineNo) (n : Nat) : State × Reply :=
  let r := s.line l
  if r.holder != some p then (s, .refuse .notHolder)
  else if r.state != .recalling then (s, .refuse .lineActive)
  else s.giveToneLine l n

/-- KEEP CALL (R78): the response carries the number of digits discarded. -/
def keepCall (s : State) (p : Port) (l : LineNo) : State × Reply :=
  let r := s.line l
  if r.holder != some p then (s, .refuse .notHolder)
  else if r.state != .recalling then (s, .refuse .lineActive)
  else (s.enter l .held, .okWith [byteOf r.digits.length])

/-- RELEASE (R84). -/
def release (s : State) (p : Port) (l : LineNo) : State × Reply :=
  if (s.line l).holder != some p then (s, .refuse .notHolder) else (s.releaseLine l, .ok)

end State

/-- CLAIM (R53). -/
def execClaim (p : Port) (s : State) : Answer := takeRequest 3 p (State.onLineAndCount State.claim) s

/-- END_TONE (R69). -/
def execEndTone (p : Port) (s : State) : Answer := takeRequest 4 p (State.onLine State.endTone) s

/-- CONNECT (R70). -/
def execConnect (p : Port) (s : State) : Answer := takeRequest 5 p (State.onLine State.connect) s

/-- GIVE_TONE (R77). -/
def execGiveTone (p : Port) (s : State) : Answer := takeRequest 6 p (State.onLineAndCount State.giveTone) s

/-- KEEP_CALL (R78). -/
def execKeepCall (p : Port) (s : State) : Answer := takeRequest 7 p (State.onLine State.keepCall) s

/-- RELEASE (R84). -/
def execRelease (p : Port) (s : State) : Answer := takeRequest 8 p (State.onLine State.release) s

end Sys2Proof.Machine
end

