-- ==== Sys2Proof/Machine/Plant.lean ====
section
/-! DEFINITION. The Plant Monitor (chapter 8): level words, qualification runs, declarations and the sense timer
(R142-R147). -/

namespace Sys2Proof.Machine

/-- A good word applied to a qualification run (R144): a word that meets the condition begins or extends the run, another
ends it. -/
def runAfter (run : Option Ms) (meets : Bool) (t : Ms) : Option Ms := if meets then some (run.getD t) else none

/-- A run is complete at a word that meets its condition and arrives at or after its start plus the qualify time (R144). -/
def runComplete (run : Option Ms) (seconds : Nat) (t : Ms) : Bool :=
  match run with
  | some start => start + 1000 * seconds ≤ t
  | none => false

/-- The runs of the present state after a good word (R144); a run of another state is not kept. -/
def PlantMonitor.applyRuns (p : PlantMonitor) (level : Nat) (t : Ms) : PlantMonitor :=
  let lim := p.limits
  match p.state with
  | .normal =>
    { p with economyRun := runAfter p.economyRun (level < lim.economyLevel) t
             shedRun := runAfter p.shedRun (level < lim.shedLevel) t
             recoveryRun := none }
  | .economy =>
    { p with economyRun := none
             shedRun := runAfter p.shedRun (level < lim.shedLevel) t
             recoveryRun := runAfter p.recoveryRun (lim.economyLevel + lim.hysteresis ≤ level) t }
  | .shed =>
    { p with economyRun := none
             shedRun := none
             recoveryRun := runAfter p.recoveryRun (lim.shedLevel + lim.hysteresis ≤ level) t }

/-- The declaration that a completed run makes, if one is complete: the new state and the run (R144). SHED comes before
ECONOMY when one word completes both. -/
def PlantMonitor.declared (p : PlantMonitor) (t : Ms) : Option (PlantState × PlantRun) :=
  let lim := p.limits
  match p.state with
  | .normal =>
    if runComplete p.shedRun lim.shedQualify t then some (.shed, .shed)
    else if runComplete p.economyRun lim.economyQualify t then some (.economy, .economy)
    else none
  | .economy =>
    if runComplete p.shedRun lim.shedQualify t then some (.shed, .shed)
    else if runComplete p.recoveryRun lim.recoveryTime t then some (.normal, .recovery)
    else none
  | .shed => if runComplete p.recoveryRun lim.recoveryTime t then some (.economy, .recovery) else none

/-- The runs after a declaration (R145): the shed run is kept from NORMAL to ECONOMY, every other run is discarded. -/
def PlantMonitor.changeTo (p : PlantMonitor) (new : PlantState) : PlantMonitor :=
  { p with state := new, economyRun := none, recoveryRun := none,
           shedRun := if p.state == .normal && new == .economy then p.shedRun else none }

/-- Every run is ended and discarded (R143, R147). -/
def PlantMonitor.discardRuns (p : PlantMonitor) : PlantMonitor :=
  { p with economyRun := none, shedRun := none, recoveryRun := none }

namespace State

/-- A plant state is declared (R145, R146): PLANT STATE to every PRESENT port, and the new state handed to the Ring Allocator
and the Tone Pool. -/
def declarePlant (s : State) (new : PlantState) (level : Nat) (run : PlantRun) : State :=
  let s' := (s.setPlant (s.plant.changeTo new)).reportPresent (.plantState new s.plant.state level run)
  { s' with allocPlant := s'.allocPlant ++ [new], tonePlant := s'.tonePlant ++ [new] }

/-- The first good word after a loss clears the sense-lost flag (R143). -/
def restoreSense (s : State) (level : Nat) : State :=
  if s.plant.senseLost then
    let since := s.plant.lastWordTime.map (s.now - ·)
    (s.setPlant { s.plant with senseLost := false }).reportPresent (.plantSenseRestored level since s.plant.state)
  else s

/-- A good word (R142): the sense restored if it was lost, the level and the time recorded, the sense timer restarted, and
the level applied to the runs, which may declare a plant state. -/
def goodWord (s : State) (level : Nat) : State :=
  let s := s.restoreSense level
  let p := { s.plant with lastLevel := some level, lastWordTime := some s.now, senseDeadline := some (s.now + Config.senseTime) }
  let s := s.setPlant (p.applyRuns level s.now)
  match s.plant.declared s.now with
  | some (new, run) => s.declarePlant new level run
  | none => s

/-- The sense timer expires (R143). -/
def senseExpired (s : State) : State :=
  (s.setPlant { s.plant.discardRuns with senseLost := true, senseDeadline := none }).reportPresent
    (.plantSenseLost s.plant.lastWordTime s.plant.lastLevel s.plant.state)

end State

end Sys2Proof.Machine
end

