-- ==== Sys2Proof/Machine/Scanner.lean ====
section
/-! DEFINITION. The Line Scanner (chapter 2): the qualification of the card-present sense, the sampling of a line in each
scan mode, and the taking of indications and commands (R28-R49). -/

namespace Sys2Proof.Machine

/-- The length of a run at the sample taken at `t`: 5 ms for each sample from its start on (R29). -/
def lengthAt (start t : Ms) : Nat := t + Config.scanPeriod - start

/-- A sample of a ring-trip run, which must be unbroken (R41): it begins or extends the run, or ends it. The ring-trip qualify
is latched at the run's first sample (R39). -/
def Run.sample (run : Option Run) (ringTrip : Bool) (t : Ms) (c : LineClass) : Option Run :=
  if ringTrip then some (run.getD ⟨t, c.ringTripQualify⟩) else none

/-- A sample of an off-hook run, which must be unbroken (R32, R43): it begins or extends the run, or ends it. The origination
qualify, and the interdigit make of the make that begins here, are latched at the run's first sample (R39). -/
def OffHookRun.sample (run : Option OffHookRun) (offHook : Bool) (t : Ms) (c : LineClass) : Option OffHookRun :=
  if offHook then some (run.getD ⟨⟨t, c.originationQualify⟩, c.interdigitMake⟩) else none

/-- The run has reached its latched qualify time at the sample taken at `t` (R29). -/
def Run.reached (r : Run) (t : Ms) : Bool := r.qualify ≤ lengthAt r.start t

/-- A new OFF-HOOK record (R32, R41, R43): no break, pulse count 0, and the interdigit make latched for its make (R39). -/
def OffHookScan.fresh (makeStart : Ms) (interdigitMake : Nat) (latch : Bool) : OffHookScan :=
  ⟨makeStart, interdigitMake, none, 0, false, false, latch⟩

/-- The pulses discarded by a break that is not a pulse (R38); 11 stands for more than ten. -/
def OffHookScan.discarded (f : OffHookScan) : Nat := if f.overlong then 11 else f.pulses

/-- The outcome of a completed digit (R37). -/
def OffHookScan.outcome (f : OffHookScan) : DigitOutcome :=
  if f.overlong then .tooManyPulses else .digit (Fin.ofNat 10 f.pulses)

/-- The first on-hook sample of a break latches the class's timings (R33, R39). -/
def LineClass.beginBreak (c : LineClass) (t : Ms) : BreakRun :=
  ⟨t, c.hitLimit, c.pulseBreakMin, c.pulseBreakMax, c.flashMin, c.flashMax⟩

/-- The digit ends at the sample taken at `t` when the pulse count is above 0 and the make, of this length, has lasted the
latched interdigit make (R36, R37, R44). -/
def OffHookScan.endDigitOf (f : OffHookScan) (t : Ms) (make : Nat) : OffHookScan × List ScanEvent :=
  if 0 < f.pulses && f.interdigitMake ≤ make then
    ({ f with pulses := 0, overlong := false, deferred := false }, [.digitEnd t f.outcome f.discarded])
  else (f, [])

/-- An off-hook sample with no break running counts in the make, and may end the digit (R36). -/
def OffHookScan.endDigit (f : OffHookScan) (t : Ms) : OffHookScan × List ScanEvent := f.endDigitOf t (lengthAt f.makeStart t)

/-- The first on-hook sample of a break: a make that had already reached its interdigit make at the sample before, because the
ring latch discarded a break in it, ends the digit at this sample (R44). The sample itself is not counted, since its own break
is not settled yet (R33); log 28. While a break runs nothing ends here. -/
def OffHookScan.endDigitOwed (f : OffHookScan) (t : Ms) : OffHookScan × List ScanEvent :=
  if f.breakRun.isNone then f.endDigitOf t (t - f.makeStart) else (f, [])

/-- A new make begins at the off-hook sample that ends a true break (R34). -/
def OffHookScan.newMake (f : OffHookScan) (t : Ms) (c : LineClass) : OffHookScan :=
  { f with makeStart := t, interdigitMake := c.interdigitMake, breakRun := none, deferred := false }

/-- A break of pulse length ends: the pulse is counted, and no event comes from the eleventh on (R37). -/
def OffHookScan.countPulse (f : OffHookScan) (t : Ms) (length : Nat) : OffHookScan × List ScanEvent :=
  if f.overlong || 10 ≤ f.pulses then ({ f with overlong := true }, [])
  else ({ f with pulses := f.pulses + 1 }, [.pulse t length (f.pulses + 1)])

/-- A bad break ends: a digit in progress ends first, without completing (R38). -/
def OffHookScan.badBreak (f : OffHookScan) (t start : Ms) (length : Nat) : OffHookScan × List ScanEvent :=
  ({ f with pulses := 0, overlong := false },
   (if 0 < f.discarded then [.digitEnd t .badBreak f.discarded] else []) ++ [.badBreak t start length])

/-- A running break ends at the off-hook sample taken at `t` (R33, R34, R37, R38). -/
def OffHookScan.endBreak (f : OffHookScan) (b : BreakRun) (t : Ms) (c : LineClass) : OffHookScan × List ScanEvent :=
  let d := t - b.start
  if d < b.hitLimit then ({ f with breakRun := none, deferred := false }).endDigit t
  else
    let g := f.newMake t c
    if d < b.pulseBreakMin then g.badBreak t b.start d
    else if d ≤ b.pulseBreakMax then g.countPulse t d
    else if d < b.flashMin then g.badBreak t b.start d
    else ({ g with pulses := 0, overlong := false }, [.flash t b.start d f.discarded])

/-- An on-hook sample with the ring latch no (R33, R35, R36): the break begins or grows, is a disconnect at its flash max, is
a true break from its hit limit on, and until then may defer the end of a digit. A digit that is owed at its first sample ends
there before it begins (R44). -/
def OffHookScan.breakSample (f : OffHookScan) (t : Ms) (c : LineClass) : ScanMode × List ScanEvent :=
  let b := f.breakRun.getD (c.beginBreak t)
  let (f, es) := f.endDigitOwed t
  let f := { f with breakRun := some b }
  let d := lengthAt b.start t
  if b.flashMax ≤ d then (.onHook none, es ++ [.disconnect t b.start f.discarded])
  else if b.hitLimit ≤ d then (.offHook { f with deferred := false }, es)
  else if 0 < f.pulses && f.interdigitMake ≤ lengthAt f.makeStart t then (.offHook { f with deferred := true }, es)
  else (.offHook f, es)

/-- A sample in OFF-HOOK mode (R33-R38). While the ring latch is yes every sample is taken as off-hook (R44). -/
def OffHookScan.sample (f : OffHookScan) (offHook : Bool) (t : Ms) (c : LineClass) : ScanMode × List ScanEvent :=
  if offHook || f.ringLatch then
    match f.breakRun with
    | some b => let (f, es) := f.endBreak b t c; (.offHook f, es)
    | none => let (f, es) := f.endDigit t; (.offHook f, es)
  else f.breakSample t c

/-- The next mode of a scanner record at a sample, the events declared, and whether ring current is seen for the first time
in an ON step (R32-R38, R41-R43). -/
def ScanMode.sample (m : ScanMode) (v : LineSenses) (t : Ms) (c : LineClass) : ScanMode × List ScanEvent × Bool :=
  match m with
  | .out => (.out, [], false)
  | .onHook run =>
    let run := OffHookRun.sample run v.offHook t c
    match run.filter (·.reached t) with
    | some r => (.offHook (.fresh r.start r.interdigitMake false), [.offHook t r.start], false)
    | none => (.onHook run, [], false)
  | .offHook f => let (m, es) := f.sample v.offHook t c; (m, es, false)
  | .ringOn run fed =>
    let run := Run.sample run v.ringTrip t c
    let burst := v.ringCurrent && !fed
    match run.filter (·.reached t) with
    | some r => (.offHook (.fresh t c.interdigitMake true), [.answer t .ringTrip .on r.start], burst)
    | none => (.ringOn run (fed || v.ringCurrent), [], burst)
  | .ringOff run =>
    let run := OffHookRun.sample run v.offHook t c
    match run.filter (·.reached t) with
    | some r => (.offHook (.fresh r.start r.interdigitMake true), [.answer t .offHook .off r.start], false)
    | none => (.ringOff run, [], false)

/-- A ringing indication at a scanner record (R40, R44). -/
def ScanMode.indicated (m : ScanMode) (i : RingIndication) : ScanMode :=
  match m, i with
  | .out, _ => .out
  | .onHook _, .stepOn => .ringOn none false
  | .onHook _, .stepOff => .ringOff none
  | .onHook run, .ringEnd => .onHook run
  | .ringOn _ _, .stepOn => .ringOn none false
  | .ringOn _ _, .stepOff => .ringOff none
  | .ringOn _ _, .ringEnd => .onHook none
  | .ringOff _, .stepOn => .ringOn none false
  | .ringOff run, .stepOff => .ringOff run
  | .ringOff run, .ringEnd => .onHook run
  | .offHook f, .ringEnd => .offHook { f with ringLatch := false }
  | .offHook f, _ => .offHook { f with ringLatch := true, breakRun := none, deferred := false }

/-- A record discards the pulse count in progress (R45). -/
def ScanMode.discardPulses : ScanMode → ScanMode
  | .offHook f => .offHook { f with pulses := 0, overlong := false, deferred := false }
  | m => m

/-- The sample taken at `t` of a card's card-present sense (R47): two successive samples that differ from the card state
change it. -/
def CardRecord.sample (c : CardRecord) (present : Bool) (t : Ms) : CardRecord :=
  if present == (c.state != .absent) then { c with differed := false }
  else if !c.differed then { c with differed := true }
  else if present then ⟨.settling, some t, false⟩
  else ⟨.absent, none, false⟩

namespace State

/-- One sample of one line at its scanner record (R29-R46). -/
def sampleLine (s : State) (v : LineSenses) (t : Ms) (l : LineNo) : State :=
  let (m, es, burst) := (s.scan l).mode.sample v t (s.lineClass l)
  let s := s.setScan l ⟨m, v.grounded⟩
  let s := s.setEvents l (s.eventsOf l ++ es)
  if burst then s.setBursts l (s.burstsOf l ++ [t]) else s

/-- One sample of the eight lines of a card (R29). -/
def sampleLines (s : State) (sample : ShelfSample) (t : Ms) (c : CardNo) : State :=
  (cardLines c).foldl (fun s l => s.sampleLine sample.lines[l] t l) s

/-- A card is lost (R47): its scanner records go OUT with ground state INACTIVE, and CARD LOSS is delivered to its lines. -/
def loseCard (s : State) (t : Ms) (c : CardNo) : State :=
  (cardLines c).foldl (fun s l => (s.setScan l ⟨.out, false⟩).declareEvent l (.cardLoss t)) s

/-- An event delivered to each of a card's eight line records in ascending order (R47, R48). -/
def declareCard (s : State) (c : CardNo) (e : ScanEvent) : State :=
  (cardLines c).foldl (fun s l => s.declareEvent l e) s

/-- One card at a scan instant: its card-present sense is qualified (R47), and the lines of a card in service are sampled
(R29). Whether the lines of a card found lost at this instant are still sampled is open; log 6. -/
def scanCard (s : State) (sample : ShelfSample) (t : Ms) (c : CardNo) : State :=
  let old := s.card c
  let new := old.sample sample.cards[c] t
  let s := s.setCard c new
  match old.state, new.state with
  | .inService, .absent =>
    (if Config.lostCardStillSampled c t then s.sampleLines sample t c else s).loseCard t c
  | .settling, .absent => s.loseCard t c
  | .absent, .settling => s.declareCard c (.cardPresent t)
  | .inService, _ => s.sampleLines sample t c
  | _, _ => s

/-- The time of the scan instant that is taken next: the first multiple of 5 ms that is not before the present time and has
not been taken (R28); log 2. -/
def scanTime (s : State) : Ms :=
  max s.clock.nextScan ((s.now + Config.scanPeriod - 1) / Config.scanPeriod * Config.scanPeriod)

/-- A scan instant (R28, R29): the clock stands at the instant, and every card and its lines are sampled. -/
def scanShelf (s : State) (sample : ShelfSample) : State :=
  let t := s.scanTime
  let s := { s with clock := { s.clock with elapsed := t, nextScan := t + Config.scanPeriod } }
  ((List.range 8).map (Fin.ofNat 8)).foldl (fun s c => s.scanCard sample t c) s

/-- The line's card is in service (R47). -/
def cardInService (s : State) (l : LineNo) : Bool := (s.card (cardOf l)).state == .inService

/-- The scanner record takes a line afresh as on-hook (R45): ON-HOOK with no run when its card is in service; the ground state
is kept. -/
def takeAfresh (s : State) (l : LineNo) : State := if s.cardInService l then s.setMode l (.onHook none) else s

end State

end Sys2Proof.Machine
end

