-- ==== Sys2Proof/Machine/Clockwork.lean ====
section
/-! DEFINITION. The commands of the clock, the scanner, the Sequencer and the plant: scan instants, the taking of commands and
indications at the scanner, slot boundaries and step ends, level words, and the taking of a plant state (R28-R48, R102, R119,
R125-R130, R142, R143, R58). A command for a notice or expiry that is not there to be taken changes nothing; log 3. -/

namespace Sys2Proof.Machine

namespace State

/-- The settle time of a card has passed (R48). -/
def settleDue (s : State) (c : CardNo) : Bool :=
  match (s.card c).state, (s.card c).settleStart with
  | .settling, some t => decide (t + Config.cardSettle ≤ s.now)
  | _, _ => false

/-- A card has settled (R48): IN SERVICE, and CARD SETTLED to its eight line records. -/
def settleCard (s : State) (c : CardNo) : State :=
  (s.setCard c { s.card c with state := .inService, settleStart := none }).declareCard c (.cardSettled s.now)

/-- The clock at the next slot boundary: the ring frame slot counter advances, from 29 back to 0 (R102); log 2. -/
def advanceSlot (s : State) : State :=
  { s with clock := { s.clock with elapsed := max s.now s.clock.nextSlot
                                   nextSlot := s.clock.nextSlot + Config.slotLength
                                   slot := s.clock.slot + 1 } }

/-- A BURST FED notice taken at a line's entry (R127): it marks an ON step, and is discarded elsewhere. -/
def fedBurst (s : State) (l : LineNo) : State :=
  match s.entry l with
  | some e => if e.step.map (·.kind) == some .on then s.setEntry l (some { e with fed := true }) else s
  | none => s

/-- The Ring Allocator takes a plant state (R119). -/
def takeAllocPlant (s : State) (p : PlantState) : State := { s with alloc := { s.alloc with plant := p } }.followBudgets

/-- The Tone Pool takes a plant state (R58, R146). -/
def takeTonePlant (s : State) (p : PlantState) : State :=
  (s.setTone { s.tone with plant := p }).setTapLimit (s.tone.limitFor p)

end State

/-- SCAN_INSTANT (R28-R47). -/
def execScanInstant (sample : ShelfSample) (s : State) : Answer := .next (s.scanShelf sample)

/-- CARD_SETTLE_TIMEOUT (R48). -/
def execCardSettleTimeout (c : CardNo) (s : State) : Answer := .next (if s.settleDue c then s.settleCard c else s)

/-- TAKE_AFRESH (R45). -/
def execTakeAfresh (l : LineNo) (s : State) : Answer :=
  match s.commandsOf l with
  | .takeAfresh :: rest => .next ((s.setCommands l rest).takeAfresh l)
  | _ => .next s

/-- DISCARD_PULSE_COUNT (R45). -/
def execDiscardPulseCount (l : LineNo) (s : State) : Answer :=
  match s.commandsOf l with
  | .discardPulseCount :: rest => .next ((s.setCommands l rest).setMode l (s.scan l).mode.discardPulses)
  | _ => .next s

/-- STEP_ON (R40, R44). -/
def execStepOn (l : LineNo) (s : State) : Answer :=
  match s.indicationsOf l with
  | .stepOn :: rest => .next ((s.setIndications l rest).setMode l ((s.scan l).mode.indicated .stepOn))
  | _ => .next s

/-- STEP_OFF (R40, R44). -/
def execStepOff (l : LineNo) (s : State) : Answer :=
  match s.indicationsOf l with
  | .stepOff :: rest => .next ((s.setIndications l rest).setMode l ((s.scan l).mode.indicated .stepOff))
  | _ => .next s

/-- RING_END (R40, R44). -/
def execRingEnd (l : LineNo) (s : State) : Answer :=
  match s.indicationsOf l with
  | .ringEnd :: rest => .next ((s.setIndications l rest).setMode l ((s.scan l).mode.indicated .ringEnd))
  | _ => .next s

/-- BURST_FED (R127). -/
def execBurstFed (l : LineNo) (s : State) : Answer :=
  match s.burstsOf l with
  | _ :: rest => .next ((s.setBursts l rest).fedBurst l)
  | [] => .next s

/-- SLOT_BOUNDARY (R102, R125): the counter advances and slots left falls by one at every entry; log 2, log 20. -/
def execSlotBoundary (s : State) : Answer := .next s.advanceSlot.countSlots

/-- STEP_END (R125): taken at an entry whose slots left is 0. -/
def execStepEnd (l : LineNo) (s : State) : Answer :=
  match s.entry l with
  | some e => .next (if e.slotsLeft = 0 then (s.stepEnded l e).finish else s)
  | none => .next s

/-- LEVEL_WORD (R142): the fault mark 1023 is discarded whole. -/
def execLevelWord (w : LevelWord) (s : State) : Answer := .next (if w = 1023#10 then s else s.goodWord w.toNat)

/-- SENSE_TIMER_EXPIRY (R143). -/
def execSenseTimerExpiry (s : State) : Answer :=
  .next (if deadlinePassed s.plant.senseDeadline s.now then s.senseExpired else s)

/-- RING_ALLOCATOR_PLANT_CHANGE (R119). -/
def execRingAllocatorPlantChange (s : State) : Answer :=
  match s.allocPlant with
  | p :: rest => .next ({ s with allocPlant := rest }.takeAllocPlant p).finish
  | [] => .next s

/-- TAP_LIMIT_CHANGE (R58). -/
def execTapLimitChange (s : State) : Answer :=
  match s.tonePlant with
  | p :: rest => .next ({ s with tonePlant := rest }.takeTonePlant p).finish
  | [] => .next s

end Sys2Proof.Machine
end

