-- ==== Sys2Proof/Machine/LineEvents.lean ====
section
/-! DEFINITION. The events that the Line Table takes at a line record from the Line Scanner and from its own timers: hook
events, digits, answers, card events, and the expiries (chapters 1, 3, 4, 7). A command for an event that is not there to be
taken changes nothing; log 3. -/

namespace Sys2Proof.Machine

namespace State

/-- The first event of a line is taken: it leaves the line's events. -/
def dropEvent (s : State) (l : LineNo) : State := s.setEvents l (s.eventsOf l).tail

/-- Each of the card's eight lines has this card event first among its events; log 5. -/
def cardEventDue (s : State) (c : CardNo) (is : ScanEvent → Bool) : Bool :=
  (cardLines c).all fun l => ((s.eventsOf l).head?.map is).getD false

/-- A card event is taken at the card's eight line records in ascending line order (R24, R25); log 5. -/
def takeCardEvent (s : State) (c : CardNo) (act : State → LineNo → State) : State :=
  ((cardLines c).foldl (fun s l => act (s.dropEvent l) l) s).finish

/-- The tone delay deadline of a line is there to be taken (R61). -/
def toneDelayDue (s : State) (l : LineNo) : Bool :=
  (s.line l).state == .toneWait && (s.line l).toneDelayReported == some false
  && s.tone.queue.any fun w => w.line == l && decide (w.deadline ≤ s.now)

/-- The offer advance of a line is there to be taken (R51). -/
def offerAdvanceDue (s : State) (l : LineNo) : Bool :=
  (s.line l).state.originating && (s.line l).offer.open && deadlinePassed (s.line l).offerDeadline s.now

end State

/-- The card events, as the commands name them. -/
def ScanEvent.isCardLoss : ScanEvent → Bool
  | .cardLoss _ => true
  | _ => false

def ScanEvent.isCardPresent : ScanEvent → Bool
  | .cardPresent _ => true
  | _ => false

def ScanEvent.isCardSettled : ScanEvent → Bool
  | .cardSettled _ => true
  | _ => false

/-! ## Scanner events (R31) -/

/-- OFF_HOOK (R50, R135, R134, R82, R18). -/
def execOffHook (l : LineNo) (s : State) : Answer :=
  match s.eventsOf l with
  | .offHook _ _ :: _ => .next ((s.dropEvent l).lifted l .offHook none).finish
  | _ => .next s

/-- PULSE (R62, R73, R75). -/
def execPulse (l : LineNo) (s : State) : Answer :=
  match s.eventsOf l with
  | .pulse _ _ _ :: _ => .next ((s.dropEvent l).pulsed l).finish
  | _ => .next s

/-- FLASH (R72, R67, R75). -/
def execFlash (l : LineNo) (s : State) : Answer :=
  match s.eventsOf l with
  | .flash _ _ _ discarded :: _ => .next ((s.dropEvent l).flashed l discarded).finish
  | _ => .next s

/-- BAD_BREAK (R73, R68, R75). -/
def execBadBreak (l : LineNo) (s : State) : Answer :=
  match s.eventsOf l with
  | .badBreak _ start length :: _ => .next ((s.dropEvent l).badBroken l start length).finish
  | _ => .next s

/-- DISCONNECT (R66, R73, R79, R80, R82, R18). -/
def execDisconnect (l : LineNo) (s : State) : Answer :=
  match s.eventsOf l with
  | .disconnect _ start discarded :: _ => .next ((s.dropEvent l).hungUp l start discarded).finish
  | _ => .next s

/-- DIGIT_END (R63, R73, R75). -/
def execDigitEnd (l : LineNo) (s : State) : Answer :=
  match s.eventsOf l with
  | .digitEnd _ outcome count :: _ => .next ((s.dropEvent l).digitEnded l outcome count).finish
  | _ => .next s

/-- ANSWER (R134-R136). -/
def execAnswer (l : LineNo) (s : State) : Answer :=
  match s.eventsOf l with
  | .answer _ q kind _ :: _ => .next ((s.dropEvent l).lifted l q (some kind)).finish
  | _ => .next s

/-! ## Card events -/

/-- CARD_LOSS (R24). -/
def execCardLoss (c : CardNo) (s : State) : Answer :=
  .next (if s.cardEventDue c ScanEvent.isCardLoss then s.takeCardEvent c State.lineCardLost else s)

/-- CARD_PRESENT (R25). -/
def execCardPresent (c : CardNo) (s : State) : Answer :=
  .next (if s.cardEventDue c ScanEvent.isCardPresent then s.takeCardEvent c State.lineCardPresent else s)

/-- CARD_SETTLED (R25). -/
def execCardSettled (c : CardNo) (s : State) : Answer :=
  .next (if s.cardEventDue c ScanEvent.isCardSettled then s.takeCardEvent c State.lineCardSettled else s)

/-! ## Expiries -/

/-- OFFER_ADVANCE (R51). -/
def execOfferAdvance (l : LineNo) (s : State) : Answer :=
  .next (if s.offerAdvanceDue l then (s.advanceOffer l).finish else s)

/-- FIRST_DIGIT_EXPIRY (R65, R81): the first-digit timer runs in TONE_WAIT and DIAL_TONE (R6). -/
def execFirstDigitExpiry (l : LineNo) (s : State) : Answer :=
  .next (if s.timerExpired l .firstDigit then (s.firstDigitExpired l).finish else s)

/-- INTERDIGIT_EXPIRY (R64, R81): the interdigit timer runs in DIGITS (R6). -/
def execInterdigitExpiry (l : LineNo) (s : State) : Answer :=
  .next (if s.timerExpired l .interdigit then (s.interdigitExpired l).finish else s)

/-- RECALL_WINDOW_EXPIRY (R76): the recall window runs in RECALL (R6). -/
def execRecallWindowExpiry (l : LineNo) (s : State) : Answer :=
  .next (if s.timerExpired l .recallWindow then (s.recallLapsed l).finish else s)

/-- RELEASE_WAIT_EXPIRY (R83): the release wait runs in CLEARED (R6). -/
def execReleaseWaitExpiry (l : LineNo) (s : State) : Answer :=
  .next (if s.timerExpired l .releaseWait then (s.releaseCleared l).finish else s)

/-- PARK_RELEASE_EXPIRY (R18): the park release timer runs in PARKED (R6). -/
def execParkReleaseExpiry (l : LineNo) (s : State) : Answer :=
  .next (if s.timerExpired l .parkRelease then (s.unparkToIdle l).finish else s)

/-- TONE_DELAY_EXPIRY (R61). -/
def execToneDelayExpiry (l : LineNo) (s : State) : Answer :=
  .next (if s.toneDelayDue l then (s.toneDelayed l).finish else s)

end Sys2Proof.Machine
end

