-- ==== Sys2Proof/Machine/ProgramRequests.lean ====
section
/-! DEFINITION. The requests of the Cadence Store: WRITE STEPS, COMMIT PROGRAM, ERASE PROGRAM and READ PROGRAM
(R91, R92, R94, R99). -/

namespace Sys2Proof.Machine

/-- The start slot of each step with its kind (R172). -/
def startsAndKinds (starts : List Nat) (fs : List StepFields) : List Byte :=
  (starts.zip fs).flatMap fun (t, f) => [byteOf t, byteOf (stepKindCode (some f.kind))]

namespace State

/-- The data of WRITE STEPS and COMMIT PROGRAM: cycle length, step count, start slot and kind of each step (R172). -/
def shapeData (s : State) (p : ProgramNo) : List Byte :=
  let sh := s.shape p
  [byteOf sh.cycle, byteOf sh.count] ++ startsAndKinds sh.starts (s.blockFields p sh.count)

/-- WRITE STEPS (R91). -/
def writeSteps (s : State) (_p : Port) (body : List Byte) : State × Reply :=
  match body with
  | pb :: nb :: bs =>
    match programOf pb, stepsOf bs with
    | some p, some fs =>
      if !(inRange 1 8 nb.toNat && fs.length == nb.toNat) then (s, .refuse .badValue)
      else if s.ready p && 0 < (s.program p).uses then (s, .refuse .inUse)
      else
        let s := s.writeBlock p fs
        let s := s.setProgram p
          { s.program p with state := .draft, shape := some (shapeOf fs), followOn := none, switchAfter := none, faultedAt := none }
        (s, .okWith (s.shapeData p))
    | _, _ => (s, .refuse .badValue)
  | _ => (s, .refuse .badValue)

/-- COMMIT PROGRAM (R92). A refused draft is answered BAD VALUE with the cause of the first failing test; log 12. -/
def commitProgram (s : State) (_p : Port) (body : List Byte) : State × Reply :=
  match body with
  | [pb, fb, n] =>
    match programOf pb, followOnOf fb with
    | some p, some follow =>
      if follow.isSome && !inRange 1 255 n.toNat then (s, .refuse .badValue)
      else if (s.program p).state != .draft then (s, .refuse .notReady)
      else match s.commitCause p follow with
        | some c => (s, .refuseFor .badValue c)
        | none =>
          let s := s.setProgram p
            { s.program p with state := .ready, followOn := follow, switchAfter := follow.map fun _ => n.toNat }
          (s, .okWith (s.shapeData p))
    | _, _ => (s, .refuse .badValue)
  | _ => (s, .refuse .badValue)

/-- A request whose one body byte is a program number. -/
def onProgram (act : State → ProgramNo → State × Reply) (s : State) (_p : Port) (body : List Byte) : State × Reply :=
  match body with
  | [b] =>
    match programOf b with
    | some p => act s p
    | none => (s, .refuse .badValue)
  | _ => (s, .refuse .badValue)

/-- ERASE PROGRAM (R94). -/
def eraseProgram (s : State) (p : ProgramNo) : State × Reply :=
  if 0 < (s.program p).uses then (s, .refuse .inUse)
  else if !(s.namingPrograms p).isEmpty then (s, .refuse .inUse)
  else ((s.writeBlock p []).setProgram p .empty, .ok)

/-- What READ PROGRAM shows of one position: kind, length, marker, and the check result, PASS 1 or FAIL 2 (R99, R172). -/
def positionData (s : State) (p : ProgramNo) (i : Nat) : List Byte :=
  (match (s.step (stepNo p i)).contents with
    | some f => [byteOf (stepKindCode (some f.kind)), byteOf f.length, byteOf (boolCode f.marker)]
    | none => [byteOf (stepKindCode none), byteOf 0, byteOf (optBoolCode none)])
  ++ [byteOf (if (s.readStep p i).isSome then 1 else 2)]

/-- The data of READ PROGRAM (R99, R172); log 11. -/
def programData (s : State) (p : ProgramNo) : List Byte :=
  let e := s.program p
  let sh := s.shape p
  let names := s.namingPrograms p
  [byteOf e.state.code, byteOf (e.faultedAt.getD 255), byteOf sh.count]
  ++ (List.range sh.count).flatMap (s.positionData p)
  ++ [byteOf sh.cycle, byteOf ((e.followOn.map (·.val)).getD 255), byteOf (e.switchAfter.getD 0), byteOf e.uses,
      byteOf names.length]
  ++ names.map fun q => byteOf q.val

/-- READ PROGRAM (R99): on a READY program a position that fails is an integrity fault in the event of the request, and the
response is made after it. The step starts and the ON pattern stand beside the data, whose layout has no place for them; log 16. -/
def readProgram (s : State) (p : ProgramNo) : State × Reply :=
  let s :=
    if s.ready p then
      match s.firstFailing p (s.stepCount p) with
      | some i => s.integrityFault p i
      | none => s
    else s
  (s, .okShowing (s.programData p) (s.program p).shape)

end State

/-- WRITE_STEPS (R91). -/
def execWriteSteps (p : Port) (s : State) : Answer := takeRequest 19 p State.writeSteps s

/-- COMMIT_PROGRAM (R92). -/
def execCommitProgram (p : Port) (s : State) : Answer := takeRequest 20 p State.commitProgram s

/-- ERASE_PROGRAM (R94). -/
def execEraseProgram (p : Port) (s : State) : Answer := takeRequest 21 p (State.onProgram State.eraseProgram) s

/-- READ_PROGRAM (R99). -/
def execReadProgram (p : Port) (s : State) : Answer := takeRequest 22 p (State.onProgram State.readProgram) s

end Sys2Proof.Machine
end

