-- ==== Sys2Proof/Machine/Resets.lean ====
section
/-! DEFINITION. The two resets (R26, R27, R49, R60, R100, R101, R122, R141, R149, R161, R168). -/

namespace Sys2Proof.Machine

/-- A line record after shelf reset (R27): the class, the party entries and the admin flag are kept. -/
def LineRecord.shelfReset (r : LineRecord) : LineRecord :=
  { LineRecord.reset with cls := r.cls, parties := r.parties, admin := r.admin }

/-- What the Allocator holds for a supply after shelf reset (R122): the two budgets are kept, and the current budget is the one
the kept plant state selects. -/
def SupplyRecord.shelfReset (r : SupplyRecord) (p : PlantState) : SupplyRecord :=
  { SupplyRecord.reset with normal := r.normal, economy := r.economy, current := r.budgetFor p }

/-- The Tone Pool after shelf reset (R60): the limits and the threshold are kept. -/
def TonePool.shelfReset (t : TonePool) (p : PlantState) : TonePool :=
  { t with taps := Vector.replicate 12 none, queue := [], currentLimit := t.limitFor p, plant := p }

/-- The Plant Monitor after shelf reset (R149): the plant state and the limits are kept. -/
def PlantMonitor.shelfReset (p : PlantMonitor) : PlantMonitor :=
  { State.reset.plant with state := p.state, limits := p.limits }

/-- A port after shelf reset (R161): the presence window is kept, and what has been sent has been sent; log 14. -/
def PortRecord.shelfReset (t : PortRecord) : PortRecord := { PortRecord.reset t.window with sent := t.sent, notes := t.notes }

namespace State

/-- Shelf reset with its cause: call state is cleared and configuration is kept. The steps and the directory are kept but for
the use counts (R101); notices not yet taken are discarded (R27, R49, R60, R122, R141, R149). -/
def shelfReset (s : State) (cause : ResetCause) : State :=
  let plant := s.plant.state
  { reset with
    lines := Vector.ofFn fun l => (s.line l).shelfReset
    classes := s.classes
    tone := s.tone.shelfReset plant
    steps := s.steps
    programs := Vector.ofFn fun p => { s.program p with uses := 0 }
    alloc := { reset.alloc with one := s.alloc.one.shelfReset plant, two := s.alloc.two.shelfReset plant,
                                waitLimit := s.alloc.waitLimit, turnThreshold := s.alloc.turnThreshold, plant := plant }
    plant := s.plant.shelfReset
    ports := ⟨s.ports.a.shelfReset, s.ports.b.shelfReset, s.ports.m.shelfReset⟩
    lastReset := cause
    routes := s.routes
    pending := s.pending }

/-- Power-on reset: every block at its initial contents. What has been sent has been sent, and the commands that wait are the
sender's; log 14, log 23. -/
def powerOn (s : State) : State :=
  { reset with
    ports := ⟨{ reset.ports.a with sent := s.ports.a.sent, notes := s.ports.a.notes },
              { reset.ports.b with sent := s.ports.b.sent, notes := s.ports.b.notes },
              { reset.ports.m with sent := s.ports.m.sent, notes := s.ports.m.notes }⟩
    pending := s.pending }

end State

/-- POWER_ON_RESET (R26, R49, R60, R100, R122, R141, R149, R161, R168). -/
def execPowerOnReset (s : State) : Answer := .next s.powerOn

/-- RESET_INPUT (R161): a shelf reset with cause RESET INPUT. -/
def execResetInput (s : State) : Answer := .next (s.shelfReset .resetInput)

/-- SHELF_RESET_TAKES_EFFECT (R161, R27): taken once the response to a SHELF RESET has been sent; log 3, log 27. -/
def execShelfResetTakesEffect (s : State) : Answer :=
  .next (if s.shelfResetDue then s.shelfReset .shelfResetRequest else s)

end Sys2Proof.Machine
end

