-- ==== Sys2Proof/Machine/RingRequests.lean ====
section
/-! DEFINITION. The requests for ringing: RING, RING STOP, RING FINISH, SET BUDGET and SET RING LIMITS
(R110, R111, R120, R121, R137, R138). -/

namespace Sys2Proof.Machine

/-- The operands of a RING (R110, R170). -/
structure RingOperands where
  line : LineNo
  party : Nat
  program : ProgramNo
  count : Nat
  priority : Priority
  deriving DecidableEq, Repr

/-- The operands a RING body carries, `none` when a field is out of range (R110, first check). -/
def ringOperandsOf : List Byte → Option RingOperands
  | [lb, pt, pr, n, pri] =>
    match lineOf lb, inRange 1 4 pt.toNat, programOf pr, inRange 1 255 n.toNat, priorityOf pri with
    | some l, true, some program, true, some priority => some ⟨l, pt.toNat, program, n.toNat, priority⟩
    | _, _, _, _, _ => none
  | _ => none

/-- What the state of a line says to a RING from a port (R110, the checks from OUT_OF_SERVICE on): the return state it is
accepted with, or the refusal. -/
def LineRecord.ringCheck (r : LineRecord) (p : Port) : Except Result ReturnState :=
  match r.state with
  | .outOfService | .parked => .error .lineActive
  | st =>
    if r.heldElsewhere p then .error .heldElsewhere
    else match st with
      | .cleared => if r.reorigination == some true then .error .lineActive else .ok .cleared
      | .ringWait | .ringing => .error .ringActive
      | .idle => .ok .idle
      | .toneWait | .dialTone | .digits | .held | .recalling | .outOfService | .parked => .error .lineActive

namespace State

/-- Every supply the party's route allows has a normal budget below the party's load (R110: NO CAPACITY). -/
def noCapacity (s : State) (l : LineNo) (party : Nat) : Bool :=
  (s.partySupplies l party).all fun sup => (s.supply sup).normal < s.partyLoad l party

/-- A request joins the queue and its line enters RING_WAIT (R111, R112). -/
def waitRing (s : State) (w : WaitingRequest) : State := (s.enqueue w).enter w.line .ringWait

/-- An accepted RING (R111): use, line record, request, and the attempt at once when the queue is empty. -/
def acceptRing (s : State) (p : Port) (o : RingOperands) (back : ReturnState) : State :=
  let s := s.takeUse o.program
  let s := s.modLine o.line fun r =>
    { r with holder := some p, returnState := some back, timer := none, reorigination := none }
  let w : WaitingRequest :=
    { line := o.line, party := o.party, program := o.program, cycles := o.count, requester := p, priority := o.priority,
      age := s.now, passOvers := 0, enqueued := s.now, deadline := s.now }
  if s.alloc.queue.isEmpty then
    match s.attempt w with
    | .placed sup off => s.place w sup off
    | .grounded => s.groundFault w
    | .failed => s.waitRing w
  else s.waitRing w

/-- RING (R110, R111). The response carries the line's state at the end of the event, so the pass of the event runs first. -/
def ring (s : State) (p : Port) (body : List Byte) : State × Reply :=
  match ringOperandsOf body with
  | none => (s, .refuse .badValue)
  | some o =>
    if (s.line o.line).parties.length < o.party then (s, .refuse .badValue)
    else if !s.ready o.program then (s, .refuse .notReady)
    else if s.noCapacity o.line o.party then (s, .refuse .noCapacity)
    else match (s.line o.line).ringCheck p with
      | .error e => (s, .refuse e)
      | .ok back =>
        let s := (s.acceptRing p o back).finish
        (s, .okWith [byteOf (s.line o.line).state.code])

/-- RING STOP (R137). -/
def ringStop (s : State) (p : Port) (l : LineNo) : State × Reply :=
  if (s.line l).holder != some p then (s, .refuse .notHolder)
  else match (s.line l).state with
    | .ringWait | .ringing => ((s.stopRing l .stop).toReturnState l, .ok)
    | _ => (s, .refuse .lineActive)

/-- RING FINISH (R138): a ringing entry is marked; a waiting ring ends as by RING STOP, with cause FINISH. -/
def ringFinish (s : State) (p : Port) (l : LineNo) : State × Reply :=
  if (s.line l).holder != some p then (s, .refuse .notHolder)
  else match (s.line l).state with
    | .ringing => (s.setEntry l ((s.entry l).map fun e => { e with finishing := true }), .ok)
    | .ringWait => ((s.stopRing l .finish).toReturnState l, .ok)
    | _ => (s, .refuse .lineActive)

/-- SET BUDGET (R120). -/
def setBudget (s : State) (_p : Port) (body : List Byte) : State × Reply :=
  match body with
  | [n1, e1, n2, e2] =>
    if inRange 0 40 n1.toNat && inRange 0 40 e1.toNat && inRange 0 40 n2.toNat && inRange 0 40 e2.toNat
        && e1.toNat ≤ n1.toNat && e2.toNat ≤ n2.toNat then
      let s := s.setSupply .one { s.alloc.one with normal := n1.toNat, economy := e1.toNat }
      let s := s.setSupply .two { s.alloc.two with normal := n2.toNat, economy := e2.toNat }
      (s.followBudgets, .ok)
    else (s, .refuse .badValue)
  | _ => (s, .refuse .badValue)

/-- SET RING LIMITS (R121): a lowered threshold gives turns, in queue order, to the requests whose counts are at or above
it. -/
def setRingLimits (s : State) (_p : Port) (body : List Byte) : State × Reply :=
  match body with
  | [w, t] =>
    if inRange 1 120 w.toNat && inRange 1 255 t.toNat then
      let old := s.alloc.turnThreshold
      let s := { s with alloc := { s.alloc with waitLimit := w.toNat, turnThreshold := t.toNat } }
      (if t.toNat < old then
        s.alloc.queue.foldl (fun s w => if s.alloc.turnThreshold ≤ w.passOvers then s.takeTurns w else s) s
      else s, .ok)
    else (s, .refuse .badValue)
  | _ => (s, .refuse .badValue)

/-- The wait limit of a line's request passes (R117). -/
def waitLimitPassed (s : State) (l : LineNo) : State := (s.failRing l .waitLimit).toReturnState l

end State

/-- RING (R110). -/
def execRing (p : Port) (s : State) : Answer := takeRequest 9 p State.ring s

/-- RING_STOP (R137). -/
def execRingStop (p : Port) (s : State) : Answer := takeRequest 10 p (State.onLine State.ringStop) s

/-- RING_FINISH (R138). -/
def execRingFinish (p : Port) (s : State) : Answer := takeRequest 11 p (State.onLine State.ringFinish) s

/-- SET_BUDGET (R120). -/
def execSetBudget (p : Port) (s : State) : Answer := takeRequest 23 p State.setBudget s

/-- SET_RING_LIMITS (R121). -/
def execSetRingLimits (p : Port) (s : State) : Answer := takeRequest 24 p State.setRingLimits s

/-- WAIT_LIMIT_EXPIRY (R117): taken while the request waits and its deadline has passed. -/
def execWaitLimitExpiry (l : LineNo) (s : State) : Answer :=
  match s.request l with
  | some w => if w.deadline ≤ s.now then .next (s.waitLimitPassed l).finish else .next s
  | none => .next s

end Sys2Proof.Machine
end

