-- ==== Sys2Proof/Machine/ShelfRequests.lean ====
section
/-! DEFINITION. The requests about the shelf: SET PLANT LIMITS, SET TONE LIMITS, SET ROUTE, FETCH, STATUS, SET PORT, PORT
RESTART and SHELF RESET (R147, R59, R164, R166, R160, R155, R158, R161). -/

namespace Sys2Proof.Machine

namespace State

/-- SET PLANT LIMITS (R147): the limits are replaced and every run is discarded; the plant state stays. -/
def setPlantLimits (s : State) (_p : Port) (body : List Byte) : State × Reply :=
  match plantLimitsOf body with
  | some k => (s.setPlant { s.plant.discardRuns with limits := k }, .ok)
  | none => (s, .refuse .badValue)

/-- SET TONE LIMITS (R59): the current limit follows the plant state the pool has taken; log 9. -/
def setToneLimits (s : State) (_p : Port) (body : List Byte) : State × Reply :=
  match body with
  | [e, d, t] =>
    if inRange 0 12 e.toNat && inRange 0 12 d.toNat && d.toNat ≤ e.toNat && inRange 1 30 t.toNat then
      let s := s.setTone { s.tone with economyLimit := e.toNat, shedLimit := d.toNat, delayThreshold := t.toNat }
      (s.setTapLimit (s.tone.limitFor s.tone.plant), .ok)
    else (s, .refuse .badValue)
  | _ => (s, .refuse .badValue)

/-- SET ROUTE (R164): the kinds 66 to 87 are those whose route may be changed (R162, R171). -/
def setRoute (s : State) (_p : Port) (body : List Byte) : State × Reply :=
  match body with
  | [k, r] =>
    match inRange 66 87 k.toNat, reportRouteOf r with
    | true, some route => ({ s with routes := s.routes.setIfInBounds (k.toNat - 66) route }, .ok)
    | _, _ => (s, .refuse .badValue)
  | _ => (s, .refuse .badValue)

/-- The snapshot of one marked line in a resync issue (R166): while the queue holds fewer than 48 records the mark is cleared
and the snapshot queued. -/
def resyncLine (p : Port) (s : State) (l : LineNo) : State :=
  if (s.queue p).records.length < Config.queueSize && s.marked p (some l) then
    (s.setMark p (some l) false).pushRecord p ⟨some l, s.now, .lineSnapshot (s.lineSnapshot l)⟩
  else s

/-- The snapshot of the shelf in a resync issue (R166). It is made before it joins the queue, so its own record is not counted
in the queue length it shows, while line snapshots queued before it are; log 25. -/
def resyncShelf (p : Port) (s : State) : State :=
  if (s.queue p).records.length < Config.queueSize && s.marked p none then
    (s.setMark p none false).pushRecord p ⟨none, s.now, .shelfSnapshot s.shelfSnapshot⟩
  else s

/-- The resync issue of a port (R166): its marked lines in ascending order, then the shelf. -/
def resyncIssue (s : State) (p : Port) : State := resyncShelf p (allLines.foldl (resyncLine p) s)

/-- The FETCH response: the number of records, then each record whole, oldest first (R171). -/
def fetchData (rs : List Report) : List Byte := byteOf rs.length :: rs.flatMap (·.encode)

/-- FETCH (R166): the oldest records leave the queue, and the resync issue runs when 24 or fewer are left. -/
def fetchRecords (s : State) (p : Port) (n : Nat) : State × Reply :=
  let q := s.queue p
  let rest := q.records.drop n
  let s := s.setQueue p { q with records := rest }
  (if rest.length ≤ Config.resyncLevel then s.resyncIssue p else s, .okWith (fetchData (q.records.take n)))

/-- FETCH (R166): a count outside 1-8 is refused. -/
def fetch (s : State) (p : Port) (body : List Byte) : State × Reply :=
  match body with
  | [n] => if inRange 1 8 n.toNat then s.fetchRecords p n.toNat else (s, .refuse .badValue)
  | _ => (s, .refuse .badValue)

/-- STATUS (R160). -/
def status (s : State) (_p : Port) (_body : List Byte) : State × Reply := (s, .okWith s.statusData)

/-- SET PORT (R155): the window of the sending port. -/
def setPortWindow (s : State) (p : Port) (body : List Byte) : State × Reply :=
  match body with
  | [w] =>
    if inRange 0 60 w.toNat then
      (s.modPort p fun t => { t with window := w.toNat, deadline := s.presenceDeadline w.toNat }, .ok)
    else (s, .refuse .badValue)
  | _ => (s, .refuse .badValue)

/-- PORT RESTART (R158): an absence with its grants and pass, then the return. -/
def portRestart (s : State) (p : Port) (_body : List Byte) : State × Reply :=
  let s := s.absence p .restart
  let s := s.modPort p fun t => { t with state := .present, deadline := s.presenceDeadline t.window }
  (s.reportPortState p .present .restart, .ok)

/-- SHELF RESET (R161): answered OK; the reset takes effect by SHELF_RESET_TAKES_EFFECT once the response has been sent. -/
def shelfResetRequest (s : State) (_p : Port) (_body : List Byte) : State × Reply := ({ s with shelfResetDue := true }, .ok)

end State

/-- SET_PLANT_LIMITS (R147). -/
def execSetPlantLimits (p : Port) (s : State) : Answer := takeRequest 25 p State.setPlantLimits s

/-- SET_TONE_LIMITS (R59). -/
def execSetToneLimits (p : Port) (s : State) : Answer := takeRequest 26 p State.setToneLimits s

/-- SET_ROUTE (R164). -/
def execSetRoute (p : Port) (s : State) : Answer := takeRequest 27 p State.setRoute s

/-- FETCH (R166). -/
def execFetch (p : Port) (s : State) : Answer := takeRequest 28 p State.fetch s

/-- STATUS (R160). -/
def execStatus (p : Port) (s : State) : Answer := takeRequest 29 p State.status s

/-- SET_PORT (R155). -/
def execSetPort (p : Port) (s : State) : Answer := takeRequest 30 p State.setPortWindow s

/-- PORT_RESTART (R158). -/
def execPortRestart (p : Port) (s : State) : Answer := takeRequest 31 p State.portRestart s

/-- SHELF_RESET (R161). -/
def execShelfReset (p : Port) (s : State) : Answer := takeRequest 32 p State.shelfResetRequest s

end Sys2Proof.Machine
end

