-- ==== Sys2Proof/Machine/Dispatch.lean ====
section
/-! DEFINITION. The meaning of every command: one arm for each row of spec/opcode_table.json, in the table's order. -/

namespace Sys2Proof.Machine

def exec (i : Instr) (s : State) : Host.Outcome State Fault Refusal :=
  match i with
  | .powerOnReset => Sys2Proof.Machine.execPowerOnReset s
  | .resetInput => Sys2Proof.Machine.execResetInput s
  | .shelfResetTakesEffect => Sys2Proof.Machine.execShelfResetTakesEffect s
  | .receiveByte p b => Sys2Proof.Machine.execReceiveByte p b s
  | .frameByteTimeout p => Sys2Proof.Machine.execFrameByteTimeout p s
  | .answerMark p => Sys2Proof.Machine.execAnswerMark p s
  | .unknownKind p => Sys2Proof.Machine.execUnknownKind p s
  | .lineQuery p => Sys2Proof.Machine.execLineQuery p s
  | .adopt p => Sys2Proof.Machine.execAdopt p s
  | .claim p => Sys2Proof.Machine.execClaim p s
  | .endTone p => Sys2Proof.Machine.execEndTone p s
  | .connect p => Sys2Proof.Machine.execConnect p s
  | .giveTone p => Sys2Proof.Machine.execGiveTone p s
  | .keepCall p => Sys2Proof.Machine.execKeepCall p s
  | .release p => Sys2Proof.Machine.execRelease p s
  | .ring p => Sys2Proof.Machine.execRing p s
  | .ringStop p => Sys2Proof.Machine.execRingStop p s
  | .ringFinish p => Sys2Proof.Machine.execRingFinish p s
  | .setLine p => Sys2Proof.Machine.execSetLine p s
  | .setClass p => Sys2Proof.Machine.execSetClass p s
  | .park p => Sys2Proof.Machine.execPark p s
  | .unpark p => Sys2Proof.Machine.execUnpark p s
  | .removeLine p => Sys2Proof.Machine.execRemoveLine p s
  | .restoreLine p => Sys2Proof.Machine.execRestoreLine p s
  | .forceRelease p => Sys2Proof.Machine.execForceRelease p s
  | .writeSteps p => Sys2Proof.Machine.execWriteSteps p s
  | .commitProgram p => Sys2Proof.Machine.execCommitProgram p s
  | .eraseProgram p => Sys2Proof.Machine.execEraseProgram p s
  | .readProgram p => Sys2Proof.Machine.execReadProgram p s
  | .setBudget p => Sys2Proof.Machine.execSetBudget p s
  | .setRingLimits p => Sys2Proof.Machine.execSetRingLimits p s
  | .setPlantLimits p => Sys2Proof.Machine.execSetPlantLimits p s
  | .setToneLimits p => Sys2Proof.Machine.execSetToneLimits p s
  | .setRoute p => Sys2Proof.Machine.execSetRoute p s
  | .fetch p => Sys2Proof.Machine.execFetch p s
  | .status p => Sys2Proof.Machine.execStatus p s
  | .setPort p => Sys2Proof.Machine.execSetPort p s
  | .portRestart p => Sys2Proof.Machine.execPortRestart p s
  | .shelfReset p => Sys2Proof.Machine.execShelfReset p s
  | .presenceDeadlineExpiry p => Sys2Proof.Machine.execPresenceDeadlineExpiry p s
  | .scanInstant sample => Sys2Proof.Machine.execScanInstant sample s
  | .cardSettleTimeout c => Sys2Proof.Machine.execCardSettleTimeout c s
  | .offHook l => Sys2Proof.Machine.execOffHook l s
  | .pulse l => Sys2Proof.Machine.execPulse l s
  | .flash l => Sys2Proof.Machine.execFlash l s
  | .badBreak l => Sys2Proof.Machine.execBadBreak l s
  | .disconnect l => Sys2Proof.Machine.execDisconnect l s
  | .digitEnd l => Sys2Proof.Machine.execDigitEnd l s
  | .answer l => Sys2Proof.Machine.execAnswer l s
  | .cardLoss c => Sys2Proof.Machine.execCardLoss c s
  | .cardPresent c => Sys2Proof.Machine.execCardPresent c s
  | .cardSettled c => Sys2Proof.Machine.execCardSettled c s
  | .takeAfresh l => Sys2Proof.Machine.execTakeAfresh l s
  | .discardPulseCount l => Sys2Proof.Machine.execDiscardPulseCount l s
  | .stepOn l => Sys2Proof.Machine.execStepOn l s
  | .stepOff l => Sys2Proof.Machine.execStepOff l s
  | .ringEnd l => Sys2Proof.Machine.execRingEnd l s
  | .burstFed l => Sys2Proof.Machine.execBurstFed l s
  | .slotBoundary => Sys2Proof.Machine.execSlotBoundary s
  | .stepEnd l => Sys2Proof.Machine.execStepEnd l s
  | .waitLimitExpiry l => Sys2Proof.Machine.execWaitLimitExpiry l s
  | .offerAdvance l => Sys2Proof.Machine.execOfferAdvance l s
  | .firstDigitExpiry l => Sys2Proof.Machine.execFirstDigitExpiry l s
  | .interdigitExpiry l => Sys2Proof.Machine.execInterdigitExpiry l s
  | .recallWindowExpiry l => Sys2Proof.Machine.execRecallWindowExpiry l s
  | .releaseWaitExpiry l => Sys2Proof.Machine.execReleaseWaitExpiry l s
  | .parkReleaseExpiry l => Sys2Proof.Machine.execParkReleaseExpiry l s
  | .toneDelayExpiry l => Sys2Proof.Machine.execToneDelayExpiry l s
  | .levelWord w => Sys2Proof.Machine.execLevelWord w s
  | .senseTimerExpiry => Sys2Proof.Machine.execSenseTimerExpiry s
  | .ringAllocatorPlantChange => Sys2Proof.Machine.execRingAllocatorPlantChange s
  | .tapLimitChange => Sys2Proof.Machine.execTapLimitChange s

end Sys2Proof.Machine
end

