-- ==== Sys2Proof/Machine/Step.lean ====
section
/-! DEFINITION. One step of the block: the command at the front of the queue is taken; on an empty queue 1 ms of shelf time
passes (R28; log 1, log 23). -/

namespace Sys2Proof.Machine

/-- A millisecond passes with nothing to take (R28: shelf time "advances by 1 every millisecond"); log 1. -/
def State.tick (s : State) : State := { s with clock := { s.clock with elapsed := s.clock.elapsed + 1 } }

/-- The state with a command put at the front of its queue. -/
def State.pushFront (s : State) (c : Instr) : State := { s with pending := c :: s.pending }

/-- One step: the command at the front is run on the state with the queue's rest. -/
def step (s : State) : Host.Outcome State Fault Refusal :=
  match s.pending with
  | c :: rest => exec c { s with pending := rest }
  | [] => .next s.tick

/-- The state with the command that a word spells at the front of its queue; unchanged where the word spells none; log 22. -/
def State.withFetchWord (s : State) (nbits w : Nat) : State :=
  match decodeTableWord nbits w with
  | some c => s.pushFront c
  | none => s

end Sys2Proof.Machine
end

