-- ==== Sys2Proof/Safety.lean ====
section
/-! DEFINITION. The words the statements use: settled states and the invariants of the part, a request waiting at a port, the
frames and bodies a controller sends, and what a family of events may change. Nothing here is used by the model. -/

namespace Sys2Proof.Safety

open Sys2Proof.Machine

/-! ## Outcomes and invariants -/

/-- The outcome is a next state: no fault and no refusal. -/
def Completes (o : Host.Outcome State Fault Refusal) : Prop := ∃ t, o = .next t

/-- No event is under way: no grant and no placement pass is owed (R57, R114); log 13. -/
def Settled (s : State) : Prop := s.passDue = false ∧ s.tapReturned = false

/-- Every report queue holds at most 48 records, and a port's attention output is asserted exactly while its queue holds one
(R165). -/
def ReportQueuesRight (s : State) : Prop :=
  ∀ p, (s.queue p).records.length ≤ Config.queueSize ∧ (s.port p).attention = !(s.queue p).records.isEmpty

/-- Every input hold has at most four frames, and every answer mark counts 1 to 255 (R151). -/
def InputHoldsRight (s : State) : Prop :=
  ∀ p, heldCount (s.port p).reply ≤ Config.holdSize
    ∧ ∀ r n, ReplyItem.mark r n ∈ (s.port p).reply → 1 ≤ n ∧ n ≤ Config.markMax

/-- "A line is connected to a tone tap exactly when its state is DIAL_TONE, and it is in the tone wait queue exactly when its
state is TONE_WAIT", with no line twice in the queue (R55). -/
def ToneAgrees (s : State) : Prop :=
  (s.tone.queue.map (·.line)).Nodup
  ∧ ∀ l, ((∃ w ∈ s.tone.queue, w.line = l) ↔ (s.line l).state = .toneWait)
      ∧ ((∃ k : Fin 12, s.tone.taps[k] = some l) ↔ (s.line l).state = .dialTone)

/-- "A line is in the ring wait queue exactly when its state is RING_WAIT, has a ring entry exactly when its state is RINGING"
(R112), and "a line with no ring entry has its relay RELEASED" (R123). -/
def RingAgrees (s : State) : Prop :=
  ∀ l, ((s.request l).isSome ↔ (s.line l).state = .ringWait)
    ∧ ((s.entry l).isSome ↔ (s.line l).state = .ringing)
    ∧ (s.entry l = none → s.relay l = .released)

/-- The rules of one line record: its holder, offer and orphan mark (R4, R5, R1), its feed (1.2) and its timer (R6). -/
def LineRecordRight (r : LineRecord) : Prop :=
  (r.state.unheld = true → r.holder = none)
  ∧ (r.state = .ringWait ∨ r.state = .ringing ∨ r.state = .cleared → r.holder.isSome)
  ∧ (r.state = .held ∨ r.state = .recalling → (r.holder = none ↔ r.orphan = true))
  ∧ (r.orphan = true → r.state = .held ∨ r.state = .recalling)
  ∧ (r.state.originating = true →
      (r.holder = none ∧ r.offer.open = true) ∨ (r.holder.isSome ∧ r.offer = .claimed))
  ∧ (r.recallMark = true → r.state.originating = true ∧ r.holder.isSome)
  ∧ (r.offeredPort.isSome → r.state.originating = true ∧ r.offer.open = true)
  ∧ r.feed = r.state.feed
  ∧ (∀ t, r.timer = some t → t.purpose.runsIn r.state = true)

/-- The structure of the part between two events: settled, tone and ringing agree with the line states, and every line record
keeps its rules. -/
def Consistent (s : State) : Prop :=
  Settled s ∧ ToneAgrees s ∧ RingAgrees s ∧ ∀ l, LineRecordRight (s.line l)

/-! ## The books of ringing -/

/-- The load that a line's ring entry puts on a slot of a supply (R103). -/
def loadOn (s : State) (sup : Supply) (x : Fin 30) (l : LineNo) : Nat :=
  match s.entry l with
  | some e => if e.sup = sup ∧ (s.shape e.program).onAt e.offset x = true then s.partyLoad l e.party else 0
  | none => 0

/-- "The number for slot s is the sum of the loads of the ring entries placed on that supply that are ON in slot s" (R103). -/
def LoadMapsAddUp (s : State) : Prop :=
  ∀ sup, ∀ x : Fin 30, (s.supply sup).map[x] = (allLines.map (loadOn s sup x)).sum

/-- The current budget is the one selected by the plant state that the Allocator has last taken (R104; log 9), and no number of a load
map exceeds it (R103). -/
def BudgetsRight (s : State) : Prop :=
  ∀ sup, (s.supply sup).current = (s.supply sup).budgetFor s.alloc.plant
    ∧ ∀ x : Fin 30, (s.supply sup).map[x] ≤ (s.supply sup).current

/-- "Every ring entry and every waiting ring request refers to a current program that is READY, and that program's use count equals
the number of entries and waiting requests whose current program it is" (R95). -/
def UsesRight (s : State) : Prop :=
  ∀ g, (s.program g).uses = (s.ringsOn g).length ∧ (s.ringsOn g ≠ [] → (s.program g).state = .ready)

/-- The ring wait queue holds no line twice and is in the order of R112. -/
def WaitQueueRight (s : State) : Prop :=
  (s.alloc.queue.map (·.line)).Nodup ∧ s.alloc.queue.Pairwise fun a b => a.before b = true

/-- "A turn holder is a request in the ring wait queue that can use that supply" (R116). -/
def TurnsRight (s : State) : Prop :=
  ∀ sup l, (s.supply sup).turn = some l → ∃ w, s.request l = some w ∧ sup ∈ s.partySupplies l w.party

/-- The books of ringing: load maps, budgets, use counts, the ring wait queue and turns. -/
def RingAccountsRight (s : State) : Prop :=
  LoadMapsAddUp s ∧ BudgetsRight s ∧ UsesRight s ∧ WaitQueueRight s ∧ TurnsRight s

/-- The record of a line whose ring has ended unanswered: CLEARED with a new release wait, or IDLE (R132, R80). -/
def returnRecord (s : State) (l : LineNo) : LineRecord :=
  let r := s.line l
  if r.returnState = some .cleared then
    { r.enter .cleared with reorigination := some (r.hook == .off),
                            timer := some ⟨.releaseWait, s.now + (s.lineClass l).releaseWait⟩ }
  else r.enter .idle

/-! ## What a family of events may change -/

/-- Only tone, lines, report queues and ports differ, and among the lines only `l` and lines of the tone wait queue. -/
def OnlyToneChanges (s t : State) (l : LineNo) : Prop :=
  t = { s with lines := t.lines, tone := t.tone, scanCommands := t.scanCommands, queues := t.queues, ports := t.ports }
  ∧ ∀ k, k ≠ l → (∀ w ∈ s.tone.queue, w.line ≠ k) → t.line k = s.line k ∧ t.commandsOf k = s.commandsOf k

/-- Only ringing, lines, use counts, report queues and ports differ, and among the lines only `l` and lines with a waiting
request. -/
def OnlyRingChanges (s t : State) (l : LineNo) : Prop :=
  t = { s with lines := t.lines, programs := t.programs, alloc := t.alloc, entries := t.entries, relays := t.relays,
               indications := t.indications, queues := t.queues, ports := t.ports }
  ∧ ∀ k, k ≠ l → s.request k = none →
      t.line k = s.line k ∧ t.entry k = s.entry k ∧ t.relay k = s.relay k ∧ t.indicationsOf k = s.indicationsOf k

/-- Only tone, ringing, lines, use counts, commands to the scanner, report queues and ports differ, and among the lines only
`l` and lines that wait for tone or for a ring. -/
def OnlyCallChanges (s t : State) (l : LineNo) : Prop :=
  t = { s with lines := t.lines, tone := t.tone, programs := t.programs, alloc := t.alloc, entries := t.entries,
               relays := t.relays, indications := t.indications, scanCommands := t.scanCommands, queues := t.queues,
               ports := t.ports }
  ∧ ∀ k, k ≠ l → (∀ w ∈ s.tone.queue, w.line ≠ k) → s.request k = none →
      t.line k = s.line k ∧ t.entry k = s.entry k ∧ t.relay k = s.relay k

/-- A line holds nothing of the tone and ringing resources. -/
def HoldsNothing (t : State) (l : LineNo) : Prop :=
  t.entry l = none ∧ t.request l = none ∧ t.relay l = .released
  ∧ (∀ k : Fin 12, t.tone.taps[k] ≠ some l) ∧ ∀ w ∈ t.tone.queue, w.line ≠ l

/-! ## The reports of an event -/

/-- What stands in the report queues of `u`, and every mark, stands in those of `t`: reports made after `u` come behind. -/
def QueuesExtend (u t : State) : Prop :=
  ∀ p, (u.queue p).records <+: (t.queue p).records ∧ ∀ x, u.marked p x = true → t.marked p x = true

/-- RING STOPPED of the ring that a line has, if it has one (R140). -/
def ringStopReport (s : State) (l : LineNo) (c : StopCause) : State :=
  match s.ringOf l with
  | some (party, program, cycles) => s.report l (.ringStopped c party program cycles)
  | none => s

/-- The reports of a teardown or a FORCE RELEASE in their order: RING STOPPED for a ring, ABANDON to an offered port, then the
report of the line itself (R16, R22). -/
def teardownReports (s : State) (l : LineNo) (b : ReportBody) : State :=
  ((ringStopReport s l .maintenance).abandonOffer l .teardown).report l b

/-- RING FAILED with cause CADENCE FAULT for every ring on a program, in ascending line order (R97). -/
def cadenceReports (s : State) (g : ProgramNo) : State :=
  (s.ringsOn g).foldl (fun v x => v.report x.line (.ringFailed .cadenceFault x.party g x.cycles)) s

/-- The reports of a card loss, line by line in ascending order: nothing for a line out of service (R24); else RING FAILED for its
ring, ABANDON to an offered port, and LINE LOST (R16). -/
def cardLossReports (s : State) (c : CardNo) : State :=
  (cardLines c).foldl (fun v l =>
    if (s.line l).state = .outOfService then v
    else
      let v := match s.ringOf l with
        | some (party, program, cycles) => v.report l (.ringFailed .lineLost party program cycles)
        | none => v
      (v.abandonOffer l .teardown).report l .lineLost) s

/-- The reports of a settled card: LINE RESTORED for each of its lines whose admin flag is no, in ascending order (R25). -/
def restoredReports (s : State) (c : CardNo) : State :=
  ((cardLines c).filter fun l => !(s.line l).admin).foldl (fun v l => v.report l .lineRestored) s

/-! ## The absence of a port -/

/-- Port `p` has become ABSENT with its queue emptied, and PORT STATE is reported to the others (R156, steps 1 to 3). -/
def portGone (s : State) (p : Port) (cause : PortStateCause) : State :=
  ((s.modPort p fun r => { r with state := .absent, deadline := none }).setQueue p .reset).reportPortState p .absent cause

/-- The alternate port of a line's class, when it is PRESENT and is not `p` (R50, R51, R157). -/
def alternateWithout (s : State) (p : Port) (l : LineNo) : Option (OfferStage × Port) :=
  match (s.lineClass l).alternate with
  | some q => if q ≠ p ∧ (s.port q).state = .present then some (.alternate, q) else none
  | none => none

/-- The port that takes the new offer of a line in the absence of `p` (R157): the home port, else the alternate. -/
def offerWithout (s : State) (p : Port) (l : LineNo) : Option (OfferStage × Port) :=
  let home := (s.lineClass l).home
  if home ≠ p ∧ (s.port home).state = .present then some (.home, home) else alternateWithout s p l

/-- The port to which an open offer of a line to `p` advances in the absence of `p` (R51). -/
def advanceWithout (s : State) (p : Port) (l : LineNo) : Option (OfferStage × Port) :=
  if (s.line l).offer = .home then alternateWithout s p l else none

/-- The record `r` of a line with a new offer and a full claim window, or, with no port to offer it to, parked with NO CONTROLLER
(R50, R51, R52, R157, R18). -/
def offeredOrParked (s : State) (l : LineNo) (r : LineRecord) : Option (OfferStage × Port) → LineRecord
  | some (stage, q) =>
    { r with offer := stage, offeredPort := some q, offerDeadline := some (s.now + (s.lineClass l).claimWindow) }
  | none =>
    { (s.line l).enter .parked with
      parkReason := some .noController
      timer := if (s.line l).hook = .on then some ⟨.parkRelease, s.now + (s.lineClass l).parkRelease⟩ else none }

/-- The record of a line in the absence of `p`, before the grants at the end of the event (R157): an orphan, a line offered again, a
released line, IDLE after a cancelled ring, or a line whose offer advances. A CLEARED line that originates is written as one that waits
for tone. -/
def absentRecord (s : State) (p : Port) (l : LineNo) : LineRecord :=
  let r := s.line l
  let c := s.lineClass l
  if r.holder = some p then
    match r.state with
    | .held | .recalling => { r with holder := none, orphan := true }
    | .toneWait | .dialTone | .digits =>
      offeredOrParked s l
        { r with holder := none, recallMark := false, expected := 0, delivered := 0,
                 timer := if r.state = .digits then none else r.timer } (offerWithout s p l)
    | .cleared =>
      if r.reorigination = some true then
        offeredOrParked s l
          { r.enter .toneWait with
            holder := none, digits := [], expected := 0, recallMark := false, dialling := some c.dialling
            toneWaitStart := some s.now, toneDelayReported := some false
            timer := some ⟨.firstDigit, s.now + c.firstDigitTimeout⟩ } (offerWithout s p l)
      else r.enter .idle
    | .ringWait | .ringing => r.enter .idle
    | _ => r
  else if r.offeredPort = some p then offeredOrParked s l r (advanceWithout s p l)
  else r

/-- The record of a line that waited for tone and has been granted a tap (R56): its timer is carried over. -/
def grantedRecord (r : LineRecord) : LineRecord := { r.enter .dialTone with timer := r.timer }

/-- The reports of the lines in the absence of `p`, in ascending line order (R157, R139, R5, R52); `states` gives the state in which a
CLEARED line originates. A report of a line that has lost its holder is routed after that; log 19. -/
def absenceReports (u : State) (p : Port) (states : LineNo → LineState) : State :=
  allLines.foldl (fun v l =>
    let r := u.line l
    let c := u.lineClass l
    let free := v.modLine l fun r => { r with holder := none }
    let offers (st : LineState) (dialling : Option Dialling) : Option (OfferStage × Port) → State
      | some (stage, q) => v.reportTo q l (.originate stage st dialling r.cls (u.now + c.claimWindow))
      | none => free.report l (.lineParked .noController)
    if r.holder = some p then
      match r.state with
      | .held | .recalling => free.report l .orphaned
      | .toneWait | .dialTone | .digits => offers r.state r.dialling (offerWithout u p l)
      | .cleared => if r.reorigination = some true then offers (states l) (some c.dialling) (offerWithout u p l) else v
      | .ringWait | .ringing =>
        match u.ringOf l with
        | some (party, program, cycles) => free.report l (.ringCancelled party program p cycles)
        | none => v
      | _ => v
    else if r.offeredPort = some p then offers r.state r.dialling (advanceWithout u p l)
    else v) u

/-- `t` is the part after an absence of `p` taken in `s`; `u` is the part with the port gone and PORT STATE reported (R156, R157). Lines
that wait for a ring of another port's are left to the placement pass at the end, and a line that waits for tone may be granted it. -/
def AbsenceTaken (s t : State) (p : Port) (u : State) : Prop :=
  t.queue p = .reset
  ∧ (∀ l, (t.line l).holder ≠ some p ∧ (t.line l).offeredPort ≠ some p)
  ∧ (∀ l, s.request l = none ∨ (s.line l).holder = some p →
      t.line l = absentRecord s p l
      ∨ ((absentRecord s p l).state = .toneWait ∧ t.line l = grantedRecord (absentRecord s p l)))
  ∧ (∀ l, (s.line l).holder = some p →
      t.entry l = none ∧ t.request l = none ∧ t.relay l = .released
      ∧ t.indicationsOf l = s.indicationsOf l ++ (if (s.entry l).isSome then [.ringEnd] else []))
  ∧ (∀ l, (s.line l).holder ≠ some p → s.request l = none →
      t.entry l = s.entry l ∧ t.relay l = s.relay l ∧ t.indicationsOf l = s.indicationsOf l)
  ∧ (∀ (k : Fin 12) (l : LineNo), s.tone.taps[k] = some l → (t.line l).state = .dialTone → t.tone.taps[k] = some l)
  ∧ (∃ states : LineNo → LineState,
      (∀ l, states l = .dialTone ∨ states l = .toneWait) ∧ QueuesExtend (absenceReports u p states) t)
  ∧ (∀ q, q ≠ p → t.port q = { s.port q with attention := (t.port q).attention })
  ∧ t = { s with lines := t.lines, tone := t.tone, programs := t.programs, alloc := t.alloc, entries := t.entries,
                 relays := t.relays, indications := t.indications, queues := t.queues, ports := t.ports }

/-! ## The integrity fault -/

/-- Program `g` has faulted at position `i` and every ring on it has ended, with its reports; `u` is the state in which the step was
read and `t` the one after the event (R97). -/
def FaultedWithItsRings (u t : State) (g : ProgramNo) (i : Nat) : Prop :=
  (t.program g).state = .faulted ∧ (t.program g).faultedAt = some i ∧ (t.program g).shape = (u.program g).shape
  ∧ (t.program g).followOn = (u.program g).followOn ∧ (t.program g).switchAfter = (u.program g).switchAfter
  ∧ (UsesRight u → (t.program g).uses = 0)
  ∧ (∀ l, (∀ e, t.entry l = some e → e.program ≠ g) ∧ (∀ w, t.request l = some w → w.program ≠ g))
  ∧ (∀ l, (∃ x ∈ u.ringsOn g, x.line = l) →
      t.line l = returnRecord u l ∧ t.relay l = .released
      ∧ t.indicationsOf l = u.indicationsOf l ++ (if (u.entry l).isSome then [.ringEnd] else []))
  ∧ (∀ l, u.request l = none → (∀ e, u.entry l = some e → e.program ≠ g) → t.line l = u.line l ∧ t.entry l = u.entry l)
  ∧ QueuesExtend (cadenceReports u g) t
  ∧ t = { u with lines := t.lines, programs := t.programs, alloc := t.alloc, entries := t.entries, relays := t.relays,
                 indications := t.indications, queues := t.queues, ports := t.ports }

/-! ## Requests -/

/-- A good frame of this kind with this body is at the head of the port's reply order, with `rest` behind it (R151). -/
def Asks (s : State) (p : Port) (kind : Nat) (body : List Byte) (rest : List ReplyItem) : Prop :=
  (s.port p).reply = .held (byteOf kind) body :: rest

/-- The part after the frame at the head is taken and presence is refreshed, before the owner acts (R151, R152 step 2). -/
def taken (s : State) (p : Port) (rest : List ReplyItem) : State :=
  (s.modPort p fun t => { t with reply := rest }).refreshPresence p

/-- The request a kind names (R170). -/
def requestCommand (p : Port) : Nat → Option Instr
  | 1 => some (.lineQuery p) | 2 => some (.adopt p) | 3 => some (.claim p) | 4 => some (.endTone p)
  | 5 => some (.connect p) | 6 => some (.giveTone p) | 7 => some (.keepCall p) | 8 => some (.release p)
  | 9 => some (.ring p) | 10 => some (.ringStop p) | 11 => some (.ringFinish p) | 12 => some (.setLine p)
  | 13 => some (.setClass p) | 14 => some (.park p) | 15 => some (.unpark p) | 16 => some (.removeLine p)
  | 17 => some (.restoreLine p) | 18 => some (.forceRelease p) | 19 => some (.writeSteps p) | 20 => some (.commitProgram p)
  | 21 => some (.eraseProgram p) | 22 => some (.readProgram p) | 23 => some (.setBudget p) | 24 => some (.setRingLimits p)
  | 25 => some (.setPlantLimits p) | 26 => some (.setToneLimits p) | 27 => some (.setRoute p) | 28 => some (.fetch p)
  | 29 => some (.status p) | 30 => some (.setPort p) | 31 => some (.portRestart p) | 32 => some (.shelfReset p)
  | _ => none

/-- The body length the table of R170 gives, for the kinds whose length is fixed. -/
def fixedBody : Nat → Option Nat
  | 3 | 6 | 24 | 27 => some 2
  | 9 => some 5
  | 12 | 19 => none
  | 13 => some 26
  | 20 | 26 => some 3
  | 23 => some 4
  | 25 => some 11
  | 29 | 31 | 32 => some 0
  | _ => some 1

/-- A request frame as a controller sends it (R169): start byte, length, kind, body, check byte. -/
def requestFrame (kind : Byte) (body : List Byte) : List Byte :=
  let bs := [165#8, byteOf (body.length + 1), kind] ++ body
  bs ++ [checkByte bs]

/-- Commands run one after another. -/
def runAll : List Instr → State → Host.Outcome State Fault Refusal
  | [], s => .next s
  | c :: cs, s =>
    match exec c s with
    | .next t => runAll cs t
    | .fault f => .fault f
    | .refused r => .refused r

/-! ## Bodies that a controller sends (R170) -/

/-- The party entries of SET LINE. -/
def partyBytes (ps : List Party) : List Byte := ps.flatMap fun q => [byteOf q.route.code, byteOf q.load]

/-- The steps of WRITE STEPS. -/
def stepBytes (fs : List StepFields) : List Byte :=
  fs.flatMap fun f => [byteOf (if f.kind = .on then 1 else 0), byteOf f.length, byteOf (if f.marker then 1 else 0)]

/-- The body of SET CLASS. -/
def classBytes (n : ClassNo) (c : LineClass) : List Byte :=
  [byteOf n.val] ++ bytes2 c.hitLimit ++ bytes2 c.originationQualify ++ bytes2 c.pulseBreakMin ++ bytes2 c.pulseBreakMax
  ++ bytes2 c.interdigitMake ++ bytes2 c.flashMin ++ bytes2 c.flashMax ++ bytes2 c.ringTripQualify
  ++ [byteOf (c.firstDigitTimeout / 1000), byteOf (c.interdigitTimeout / 1000), byteOf (c.claimWindow / 100),
      byteOf (c.recallWindow / 1000), byteOf (c.releaseWait / 1000), byteOf (c.parkRelease / 100),
      byteOf (diallingCode (some c.dialling)), byteOf (portCode (some c.home)), byteOf (portCode c.alternate)]

/-- A value lies in a range and on its step. -/
def InSteps (lo hi step v : Nat) : Prop := lo ≤ v ∧ v ≤ hi ∧ v % step = 0

/-- The ranges and steps of R10 and the checks of R11. -/
def ClassValid (c : LineClass) : Prop :=
  InSteps 5 50 5 c.hitLimit ∧ InSteps 20 500 5 c.originationQualify ∧ InSteps 10 100 5 c.pulseBreakMin
  ∧ InSteps 20 150 5 c.pulseBreakMax ∧ InSteps 100 800 5 c.interdigitMake ∧ InSteps 100 1000 5 c.flashMin
  ∧ InSteps 200 2000 5 c.flashMax ∧ InSteps 10 200 5 c.ringTripQualify
  ∧ InSteps 2000 60000 1000 c.firstDigitTimeout ∧ InSteps 2000 60000 1000 c.interdigitTimeout
  ∧ InSteps 500 10000 100 c.claimWindow ∧ InSteps 1000 30000 1000 c.recallWindow
  ∧ InSteps 1000 120000 1000 c.releaseWait ∧ InSteps 500 10000 100 c.parkRelease
  ∧ c.alternate ≠ some c.home
  ∧ c.hitLimit < c.pulseBreakMin ∧ c.pulseBreakMin ≤ c.pulseBreakMax ∧ c.pulseBreakMax < c.flashMin
  ∧ c.flashMin < c.flashMax ∧ c.pulseBreakMax < c.interdigitMake ∧ c.hitLimit < c.originationQualify

/-- The class can be written in the fields of a SET CLASS body at all (R170). -/
def ClassFits (c : LineClass) : Prop :=
  c.hitLimit < 65536 ∧ c.originationQualify < 65536 ∧ c.pulseBreakMin < 65536 ∧ c.pulseBreakMax < 65536
  ∧ c.interdigitMake < 65536 ∧ c.flashMin < 65536 ∧ c.flashMax < 65536 ∧ c.ringTripQualify < 65536
  ∧ InSteps 0 255000 1000 c.firstDigitTimeout ∧ InSteps 0 255000 1000 c.interdigitTimeout
  ∧ InSteps 0 25500 100 c.claimWindow ∧ InSteps 0 255000 1000 c.recallWindow
  ∧ InSteps 0 255000 1000 c.releaseWait ∧ InSteps 0 25500 100 c.parkRelease

/-- The body of SET PLANT LIMITS. -/
def plantBytes (k : PlantLimits) : List Byte :=
  bytes2 k.economyLevel ++ bytes2 k.shedLevel ++ [byteOf k.hysteresis] ++ bytes2 k.economyQualify ++ bytes2 k.shedQualify
  ++ bytes2 k.recoveryTime

/-- The ranges of R147. -/
def PlantLimitsValid (k : PlantLimits) : Prop :=
  400 ≤ k.economyLevel ∧ k.economyLevel ≤ 560 ∧ 350 ≤ k.shedLevel ∧ k.shedLevel ≤ 559 ∧ k.shedLevel < k.economyLevel
  ∧ 2 ≤ k.hysteresis ∧ k.hysteresis ≤ 50 ∧ 1 ≤ k.economyQualify ∧ k.economyQualify ≤ 300
  ∧ 1 ≤ k.shedQualify ∧ k.shedQualify ≤ 300 ∧ 5 ≤ k.recoveryTime ∧ k.recoveryTime ≤ 600

/-- The code of a report route (R170). -/
def reportRouteCode : ReportRoute → Nat
  | .none => 0
  | .holder => 1
  | .holderAndM => 2
  | .m => 3

/-- The waiting request that an accepted RING forms (R111 step 3), as it is attempted at once. -/
def ringRequest (s : State) (p : Port) (l : LineNo) (party : Nat) (g : ProgramNo) (n : Nat) (pri : Priority) : WaitingRequest :=
  { line := l, party := party, program := g, cycles := n, requester := p, priority := pri, age := s.now, passOvers := 0,
    enqueued := s.now, deadline := s.now }

end Sys2Proof.Safety
end

