-- ==== Sys2Proof/Certificates/Slice0/Obligations.lean ====
section
/-! DEFINITION. The statements for the provers, family by family. The words they use stand in Sys2Proof/Safety.lean. Where a
statement rests on a choice of the model, its docstring names the log entry. -/

section

open Sys2Proof Sys2Proof.Machine Sys2Proof.Safety

/-! ## Steps and invariants -/

/-- A step takes the command at the front of the queue and runs it on the state with the queue's rest. The queue is the model's
own (log 23).
With no command waiting a step lets one millisecond pass and changes nothing else (R28; the model's choice, log 1). -/
def Obligations.StepRunsTheFrontCommand : Prop :=
  (∀ (c : Instr) (rest : List Instr) (s : State), s.pending = c :: rest → step s = exec c { s with pending := rest }) ∧
  (∀ s : State, s.pending = [] →
     step s = .next { s with clock := { s.clock with elapsed := s.clock.elapsed + 1 } })

/-- No command stops the part: every step answers a next state. -/
def Obligations.EveryStepAnswersANextState : Prop :=
  ∀ s : State, Completes (step s)

/-- Every event is taken whole: after a step no grant and no placement pass is owed (R7, R57, R114; the marks are the model's
own, log 13). -/
def Obligations.StepKeepsSettled : Prop :=
  ∀ s t : State, Settled s → step s = .next t → Settled t

/-- A report queue never holds more than 48 records, and the attention output follows the queue (R165).
There are never more than four held frames, and an answer mark counts 1 to 255 (R151). -/
def Obligations.StepKeepsQueuesAndHoldsRight : Prop :=
  (∀ s t : State, ReportQueuesRight s → step s = .next t → ReportQueuesRight t) ∧
  (∀ s t : State, InputHoldsRight s → step s = .next t → InputHoldsRight t)

/-- Taps, the tone wait queue, the ring table and the ring wait queue agree with the line states, and every line record keeps the
rules of its holder, offer, orphan mark, feed and timer, through every step (R1, R4, R5, R6, R55, R112, R123). -/
def Obligations.StepKeepsTheStructureConsistent : Prop :=
  ∀ s t : State, Consistent s → step s = .next t → Consistent t

/-- The books of ringing agree through every step: each load map is the sum of its entries' loads in their ON slots and stays
within the current budget (R103), each use count is the number of rings on the program, which is READY (R95), the ring wait queue is in order with
no line twice (R112), and a turn holder waits for a supply it can use (R116). The current budgets are those selected (R104) by the plant
state that the Allocator has last taken, also after a SET BUDGET between a declaration and its taking: the model's reading, log 9. -/
def Obligations.StepKeepsRingAccountsRight : Prop :=
  ∀ s t : State, Consistent s → RingAccountsRight s → step s = .next t → RingAccountsRight t

/-- All the invariants hold right after power-on reset. -/
def Obligations.InvariantsHoldAtReset : Prop :=
  Consistent State.reset ∧ ReportQueuesRight State.reset ∧ InputHoldsRight State.reset ∧ RingAccountsRight State.reset

/-! ## Frames, the reply order and presence (chapter 9, R169) -/

/-- A request frame sent byte by byte to a port that is assembling nothing and holds fewer than four frames ends as one held
frame with the kind and body sent, and changes nothing else (R150, R151, R169). -/
def Obligations.FrameSentByteByByteIsHeld : Prop :=
  ∀ (s : State) (p : Port) (kind : Byte) (body : List Byte),
    (s.port p).assembling = none → body.length ≤ 31 → heldCount (s.port p).reply < 4 →
    runAll ((requestFrame kind body).map (Instr.receiveByte p)) s
      = .next (s.modPort p fun t => { t with reply := t.reply ++ [.held kind body] })

/-- What a byte does that does not complete a good frame (R150): a byte outside a frame is discarded unless it is the start byte;
a length outside 1-32 and a wrong check byte make a bad frame, which joins or forms a FRAME ERROR mark (R151).
More than 50 ms after the last byte of an unfinished frame its bytes form a bad frame (R150).
A good frame that completes while four are held is an overrun, and a mark joins the mark at the tail when that has the same
result and a count below 255, else forms a new one with count 1 (R151). -/
def Obligations.BadFramesAndOverrunsLeaveMarks : Prop :=
  (∀ (s : State) (p : Port) (b : Byte),
     ((s.port p).assembling = none → b ≠ 165#8 → exec (.receiveByte p b) s = .next s)
     ∧ ((s.port p).assembling = none → b = 165#8 →
         exec (.receiveByte p b) s = .next (s.modPort p fun t => { t with assembling := some ⟨[165#8], s.now⟩ }))
     ∧ (∀ at_ : Ms, (s.port p).assembling = some ⟨[165#8], at_⟩ → s.now ≤ at_ + 50 → (b.toNat < 1 ∨ 32 < b.toNat) →
         exec (.receiveByte p b) s
           = .next (s.modPort p fun t => { t with assembling := none, reply := joinMark .frameError t.reply }))
     ∧ (∀ (at_ : Ms) (len : Byte) (bs : List Byte), (s.port p).assembling = some ⟨165#8 :: len :: bs, at_⟩ → s.now ≤ at_ + 50 →
         bs.length = len.toNat → ((165#8 :: len :: bs) ++ [b]).foldl (· + ·) 0#8 ≠ 0#8 →
         exec (.receiveByte p b) s
           = .next (s.modPort p fun t => { t with assembling := none, reply := joinMark .frameError t.reply }))) ∧
  (∀ (s : State) (p : Port) (f : PartFrame), (s.port p).assembling = some f → f.lastByte + 50 < s.now →
     exec (.frameByteTimeout p) s
       = .next (s.modPort p fun t => { t with assembling := none, reply := joinMark .frameError t.reply })) ∧
  ((∀ (t : PortRecord) (kind : Byte) (body : List Byte), 4 ≤ heldCount t.reply →
     t.completeFrame kind body = { t with assembling := none, reply := joinMark .overrun t.reply })
   ∧ (∀ (r : MarkResult) (n : Nat) (q : List ReplyItem), n < 255 → joinMark r (q ++ [.mark r n]) = q ++ [.mark r (n + 1)])
   ∧ (∀ (r : MarkResult) (q : List ReplyItem),
       (∀ n, n < 255 → q.getLast? ≠ some (.mark r n)) → joinMark r q = q ++ [.mark r 1]))

/-- An answer mark at the head is answered with as many responses of its result as its count, of kind 0, and removed; a held frame
whose kind names no request is answered UNKNOWN KIND and does not refresh presence (R151, R152, R169, R170). -/
def Obligations.MarksAndUnknownKindsAreAnswered : Prop :=
  ∀ (s : State) (p : Port) (rest : List ReplyItem),
    (∀ (r : MarkResult) (n : Nat), (s.port p).reply = .mark r n :: rest →
      exec (.answerMark p) s
        = .next (s.modPort p fun t =>
            { t with reply := rest, sent := t.sent ++ List.replicate n (responseFrame 0#8 (.refuse r.result)) }))
    ∧ (∀ (k : Byte) (body : List Byte), (s.port p).reply = .held k body :: rest → (k.toNat = 0 ∨ 32 < k.toNat) →
        exec (.unknownKind p) s
          = .next (s.modPort p fun t =>
              { t with reply := rest, sent := t.sent ++ [responseFrame k (.refuse .unknownKind)] }))

/-- A response frame: start byte 166, a two-byte length that counts kind, result and data, the kind, the result code, the data,
and a check byte that makes all the bytes sum to 0 modulo 256 (R169). A report record: the kind, the line or 255, the shelf time,
the length of the detail, and the detail (R171). -/
def Obligations.FramesAndRecordsAreLaidOut : Prop :=
  (∀ (k : Byte) (r : Reply), r.data.length < 65534 →
    ∃ check : Byte,
      responseFrame k r
        = [166#8, byteOf ((r.data.length + 2) / 256), byteOf (r.data.length + 2), k, byteOf r.result.code] ++ r.data ++ [check]
      ∧ (responseFrame k r).foldl (· + ·) 0#8 = 0#8)
  ∧ ∀ (l : LineNo) (at_ : Ms) (b : ReportBody),
      (Report.mk (some l) at_ b).encode
        = [byteOf b.kind, byteOf l.val] ++ bytes4 at_ ++ [byteOf b.detail.length] ++ b.detail
      ∧ (Report.mk none at_ b).encode = [byteOf b.kind, 255#8] ++ bytes4 at_ ++ [byteOf b.detail.length] ++ b.detail

/-- Taking a request frees its place and refreshes presence (R151, R152, R154): the port becomes PRESENT with its deadline
restarted, and only the return of an ABSENT port is reported, to the other PRESENT ports. -/
def Obligations.TakingARequestRefreshesPresence : Prop :=
  ∀ (s : State) (p : Port) (rest : List ReplyItem),
    let u := s.modPort p fun t =>
      { t with reply := rest, state := .present,
               deadline := if t.window = 0 then none else some (s.now + 1000 * t.window) }
    ((s.port p).state ≠ .absent → taken s p rest = u)
    ∧ ((s.port p).state = .absent → taken s p rest = u.reportPortState p .present .request)

/-- A known request whose body has not the length of the table is answered BAD VALUE, and one the port may not make NOT
PERMITTED; both change nothing but presence (R152, R153, R170).
A line number outside 0-63 is refused BAD VALUE before every other check of its owner, by every request that carries one (R8). -/
def Obligations.BadBodiesAndForeignPortsAreRefused : Prop :=
  (∀ (s : State) (p : Port) (kind : Nat) (c : Instr) (body : List Byte) (rest : List ReplyItem),
     Settled s → requestCommand p kind = some c → Asks s p kind body rest →
     ((∃ n, fixedBody kind = some n ∧ body.length ≠ n) →
       exec c s = .next ((taken s p rest).respond p (byteOf kind) (.refuse .badValue)))
     ∧ ((∃ n, fixedBody kind = some n ∧ body.length = n) → p ≠ .M →
         (kind ∈ [14, 15, 16, 17, 18, 32] ∨ (kind = 9 ∧ body[4]? = some 3#8)) →
         exec c s = .next ((taken s p rest).respond p (byteOf kind) (.refuse .notPermitted)))
     ∧ ((kind = 12 ∧ (body.length < 4 ∨ ∃ e, body[3]? = some e ∧ body.length ≠ 4 + 2 * e.toNat)) →
         exec c s = .next ((taken s p rest).respond p (byteOf kind) (.refuse .badValue)))
     ∧ ((kind = 19 ∧ (body.length < 2 ∨ ∃ n, body[1]? = some n ∧ body.length ≠ 2 + 3 * n.toNat)) →
         exec c s = .next ((taken s p rest).respond p (byteOf kind) (.refuse .badValue)))) ∧
  (∀ (s : State) (p : Port) (kind : Nat) (c : Instr) (b : Byte) (rest : List ReplyItem),
     Settled s → kind ∈ [1, 2, 4, 5, 7, 8, 10, 11, 14, 15, 16, 17, 18] → (p = .M ∨ kind < 14) →
     requestCommand p kind = some c → Asks s p kind [b] rest → 64 ≤ b.toNat →
     exec c s = .next ((taken s p rest).respond p (byteOf kind) (.refuse .badValue))) ∧
  (∀ (s : State) (p : Port) (kind : Nat) (c : Instr) (b : Byte) (body : List Byte) (rest : List ReplyItem),
     Settled s → kind ∈ [3, 6, 9, 12] → (kind = 9 → p = .M ∨ body[3]? ≠ some 3#8) →
     requestCommand p kind = some c → Asks s p kind (b :: body) rest → 64 ≤ b.toNat →
     exec c s = .next ((taken s p rest).respond p (byteOf kind) (.refuse .badValue)))

/-- SET PORT writes the window of the sending port (R155): 0 to 60 s is accepted, the deadline follows the new window, any other
value is refused; the windows are 10, 10 and 0 s after power-on reset and are kept through shelf reset. -/
def Obligations.SetPortWritesTheWindow : Prop :=
  (∀ (s : State) (p : Port) (w : Byte) (rest : List ReplyItem), Settled s → Asks s p 30 [w] rest →
    ((taken s p rest).port p).state = .present
    ∧ (w.toNat ≤ 60 →
        exec (.setPort p) s
          = .next (((taken s p rest).modPort p fun t =>
              { t with window := w.toNat,
                       deadline := if w.toNat = 0 then none else some (s.now + 1000 * w.toNat) }).respond p 30#8 .ok))
    ∧ (60 < w.toNat → exec (.setPort p) s = .next ((taken s p rest).respond p 30#8 (.refuse .badValue))))
  ∧ (State.reset.port .A).window = 10 ∧ (State.reset.port .B).window = 10 ∧ (State.reset.port .M).window = 0
  ∧ ∀ (s : State) (p : Port), ∃ t, exec .resetInput s = .next t ∧ (t.port p).window = (s.port p).window

/-- The absence of a port (R156, R157): when its deadline passes, the port is ABSENT with an empty queue and no deadline, and it
holds no line and is offered none. PORT STATE goes to the other PRESENT ports first. Then the lines follow in ascending order: held
calls become orphans with ORPHANED (R5), claimed originating lines are offered again, CLEARED lines are released (R83), rings are
cancelled to IDLE with RING CANCELLED (R139), and an open offer advances (R51). Other lines keep their records but for grants to
waiting lines and the placement pass. RING CANCELLED and ORPHANED are routed after the holder is cleared (log 19).
PORT RESTART is an absence followed at once by a return (R158): the same of its lines, PORT STATE with ABSENT before and PRESENT
behind the reports of the absence, both with cause RESTART; the port is PRESENT with an empty queue, and the answer is OK. -/
def Obligations.AbsentAndRestartedPortsAreLeftWithNothing : Prop :=
  (∀ (s : State) (p : Port) (d : Ms), Consistent s → (s.port p).state = .present → (s.port p).deadline = some d → d ≤ s.now →
     ∃ t, exec (.presenceDeadlineExpiry p) s = .next t
       ∧ t.port p = { s.port p with state := .absent, deadline := none, attention := false }
       ∧ AbsenceTaken s t p (portGone s p .window)) ∧
  (∀ (s : State) (p : Port) (rest : List ReplyItem), Consistent s → Asks s p 31 [] rest →
     ∃ t, exec (.portRestart p) s = .next t
       ∧ t.port p = { s.port p with
           state := .present,
           deadline := if (s.port p).window = 0 then none else some (s.now + 1000 * (s.port p).window),
           reply := rest, attention := false, sent := (s.port p).sent ++ [responseFrame 31#8 .ok] }
       ∧ AbsenceTaken s t p (portGone (taken s p rest) p .restart)
       ∧ ∀ q, q ≠ p → (s.port q).state = .present →
           t.marked q none = true ∨ (t.queue q).records.getLast? = some ⟨none, s.now, .portState p .present .restart⟩)

/-! ## Reports (chapter 10) -/

/-- A copy of a report for a port (R165): discarded when the port is not PRESENT or the mark is set, queued while there is room,
else discarded with the mark set; nothing else of the part changes.
The destinations of a report about a line by its kind's route and the holder as it stands (R163). -/
def Obligations.ReportsAreRoutedAndQueued : Prop :=
  (∀ (s : State) (p : Port) (r : Report),
     let t := s.deliver p r
     ((s.port p).state ≠ .present → t = s)
     ∧ (s.marked p r.line = true → t = s)
     ∧ ((s.port p).state = .present → s.marked p r.line = false → (s.queue p).records.length < 48 →
         t.queue p = { s.queue p with records := (s.queue p).records ++ [r] }
         ∧ t.port p = { s.port p with attention := true })
     ∧ ((s.port p).state = .present → s.marked p r.line = false → 48 ≤ (s.queue p).records.length →
         t.marked p r.line = true ∧ (t.queue p).records = (s.queue p).records
         ∧ t.port p = { s.port p with attention := true }
         ∧ (∀ l, r.line ≠ some l → t.marked p (some l) = s.marked p (some l))
         ∧ (r.line ≠ none → t.marked p none = s.marked p none))
     ∧ t = { s with queues := t.queues, ports := t.ports }
     ∧ ∀ q, q ≠ p → t.queue q = s.queue q ∧ t.port q = s.port q) ∧
  (∀ (s : State) (l : LineNo) (b : ReportBody) (i : Fin 22), b.kind = 66 + i.val →
     let r : Report := ⟨some l, s.now, b⟩
     (s.routes[i] = .none → s.report l b = s)
     ∧ (s.routes[i] = .m → s.report l b = s.deliver .M r)
     ∧ (∀ q, s.routes[i] = .holder → (s.line l).holder = some q → s.report l b = s.deliver q r)
     ∧ (s.routes[i] = .holder → (s.line l).holder = none → s.report l b = s.deliver .M r)
     ∧ (∀ q, s.routes[i] = .holderAndM → (s.line l).holder = some q → q ≠ .M →
         s.report l b = (s.deliver q r).deliver .M r)
     ∧ (s.routes[i] = .holderAndM → (s.line l).holder = none ∨ (s.line l).holder = some .M →
         s.report l b = s.deliver .M r))

/-- SET ROUTE writes the route of one report kind (R164): the kinds 66 to 87 may be changed; every other kind byte and a route
byte above 3 are refused. The new route applies to later reports, records already queued stay, and no report is made. -/
def Obligations.SetRouteWritesOneRoute : Prop :=
  ∀ (s : State) (p : Port) (rest : List ReplyItem), Settled s →
    (∀ (i : Fin 22) (route : ReportRoute), Asks s p 27 [byteOf (66 + i.val), byteOf (reportRouteCode route)] rest →
      exec (.setRoute p) s
        = .next ({ taken s p rest with routes := (taken s p rest).routes.set i route }.respond p 27#8 .ok))
    ∧ (∀ k r : Byte, Asks s p 27 [k, r] rest → (k.toNat < 66 ∨ 87 < k.toNat ∨ 3 < r.toNat) →
        exec (.setRoute p) s = .next ((taken s p rest).respond p 27#8 (.refuse .badValue)))

/-- FETCH takes the oldest records out of the sending port's queue, and while more than 24 are left or no mark is set it does
nothing more (R166); a count outside 1-8 is refused.
The resync issue of a FETCH that leaves 24 records or fewer (R166): behind the records that were left stand a LINE SNAPSHOT (kind
92), holding the line snapshot of its line, for each marked line in ascending order as long as the queue holds fewer than 48
records, and then, if there is still room and the shelf mark is set, a SHELF SNAPSHOT (kind 93). The marks of the records issued are
cleared and the others stay set. The shelf snapshot does not count itself in the queue length it shows (the model's choice,
log 25). -/
def Obligations.FetchTakesRecordsAndIssuesSnapshots : Prop :=
  (∀ (s : State) (p : Port) (n : Byte) (rest : List ReplyItem), Settled s → Asks s p 28 [n] rest →
     let u := taken s p rest
     let q := u.queue p
     (1 ≤ n.toNat → n.toNat ≤ 8 →
         (24 < (q.records.drop n.toNat).length ∨ ((∀ l, u.marked p (some l) = false) ∧ u.marked p none = false)) →
         exec (.fetch p) s
           = .next ((u.setQueue p { q with records := q.records.drop n.toNat }).respond p 28#8
               (.okWith (byteOf (q.records.take n.toNat).length :: (q.records.take n.toNat).flatMap (·.encode)))))
     ∧ ((n.toNat < 1 ∨ 8 < n.toNat) → exec (.fetch p) s = .next (u.respond p 28#8 (.refuse .badValue)))) ∧
  (∀ (s : State) (p : Port) (n : Byte) (rest : List ReplyItem), Settled s → Asks s p 28 [n] rest →
     1 ≤ n.toNat → n.toNat ≤ 8 →
     let u := taken s p rest
     let left := (u.queue p).records.drop n.toNat
     let owed := allLines.filter fun l => u.marked p (some l)
     let issued := owed.take (48 - left.length)
     let lines : List Report := issued.map fun l => ⟨some l, s.now, .lineSnapshot (s.lineSnapshot l)⟩
     let shelf : List Report :=
       if u.marked p none = true ∧ left.length + owed.length < 48 then
         [⟨none, s.now, .shelfSnapshot (u.setQueue p { u.queue p with records := left ++ lines }).shelfSnapshot⟩]
       else []
     left.length ≤ 24 →
     ∃ t, exec (.fetch p) s = .next t
       ∧ (t.queue p).records = left ++ lines ++ shelf
       ∧ (∀ l, t.marked p (some l) = (u.marked p (some l) && !issued.contains l))
       ∧ t.marked p none = (u.marked p none && shelf.isEmpty)
       ∧ (t.port p).attention = !(t.queue p).records.isEmpty
       ∧ (t.port p).sent = (s.port p).sent
           ++ [responseFrame 28#8 (.okWith (byteOf ((u.queue p).records.take n.toNat).length
                 :: ((u.queue p).records.take n.toNat).flatMap (·.encode)))]
       ∧ (∀ q, q ≠ p → t.queue q = u.queue q ∧ t.port q = u.port q)
       ∧ t = { s with queues := t.queues, ports := t.ports }) ∧
  (∀ d : List Byte, (ReportBody.lineSnapshot d).kind = 92 ∧ (ReportBody.lineSnapshot d).detail = d
     ∧ (ReportBody.shelfSnapshot d).kind = 93 ∧ (ReportBody.shelfSnapshot d).detail = d)

/-! ## Line records and configuration (chapter 1) -/

/-- LINE QUERY and STATUS answer with the state at the moment of the request and change nothing (R14, R160).
The lengths of the line snapshot, the STATUS data and the shelf snapshot, and the places of fields in them (R172). -/
def Obligations.QueriesAnswerAndChangeNothing : Prop :=
  (∀ (s : State) (p : Port) (rest : List ReplyItem), Settled s →
     (∀ l : LineNo, Asks s p 1 [byteOf l.val] rest →
       exec (.lineQuery p) s = .next ((taken s p rest).respond p 1#8 (.okWith ((taken s p rest).lineSnapshot l))))
     ∧ (Asks s p 29 [] rest →
         exec (.status p) s = .next ((taken s p rest).respond p 29#8 (.okWith (taken s p rest).statusData)))) ∧
  (∀ (s : State) (l : LineNo),
     (s.lineSnapshot l).length = 79 ∧ s.statusData.length = 30 ∧ s.shelfSnapshot.length = 36
     ∧ (s.lineSnapshot l)[0]? = some (byteOf l.val)
     ∧ (s.lineSnapshot l)[1]? = some (byteOf (s.line l).state.code)
     ∧ (s.lineSnapshot l)[2]? = some (byteOf (if (s.line l).hook = .off then 1 else 0))
     ∧ (s.lineSnapshot l)[3]? = some (byteOf (portCode (s.line l).holder))
     ∧ (s.lineSnapshot l)[13]? = some (byteOf (s.line l).digits.length)
     ∧ (s.lineSnapshot l)[30]? = some (byteOf (s.line l).expected)
     ∧ (s.lineSnapshot l)[44]? = some (byteOf (if (s.line l).admin then 1 else 0))
     ∧ (s.lineSnapshot l)[48]? = some (byteOf (s.line l).cls.val)
     ∧ (s.lineSnapshot l)[49]? = some (byteOf (s.line l).parties.length)
     ∧ (s.lineSnapshot l)[78]? = some (byteOf (s.line l).delivered)
     ∧ s.statusData[2]? = some (byteOf s.alloc.one.current) ∧ s.statusData[3]? = some (byteOf s.alloc.two.current)
     ∧ s.statusData[22]? = some (byteOf s.clock.slot.val)
     ∧ s.statusData.extract 23 27 = bytes4 s.now)

/-- ADOPT makes the asking port the holder of an orphan and changes neither its state nor its timer (R15); a held line is HELD
ELSEWHERE, any other LINE ACTIVE. -/
def Obligations.AdoptTakesAnOrphan : Prop :=
  ∀ (s : State) (p : Port) (l : LineNo) (rest : List ReplyItem), Settled s → Asks s p 2 [byteOf l.val] rest →
    let u := taken s p rest
    ((s.line l).orphan = true →
        let v := u.modLine l fun r => { r with holder := some p, orphan := false }
        exec (.adopt p) s = .next (v.respond p 2#8 (.okWith (v.lineSnapshot l))))
    ∧ ((s.line l).orphan = false → (s.line l).holder.isSome →
        exec (.adopt p) s = .next (u.respond p 2#8 (.refuse .heldElsewhere)))
    ∧ ((s.line l).orphan = false → (s.line l).holder = none →
        exec (.adopt p) s = .next (u.respond p 2#8 (.refuse .lineActive)))

/-- SET LINE replaces the configuration of a line in IDLE, PARKED or OUT_OF_SERVICE and leaves everything else of the record as it
was; in any other state it is refused LINE ACTIVE (R13, R3).
Before that it is refused BAD VALUE (R13): a line above 63, a class above 7, parties outside 1-4, a number of entries different from the
party count, a route that is not one of the seven, a load outside 1-8, or LOOP-ANY on a line with more than one party. -/
def Obligations.SetLineReplacesTheConfiguration : Prop :=
  (∀ (s : State) (p : Port) (l : LineNo) (c : ClassNo) (ps : List Party) (rest : List ReplyItem),
    Settled s →
    Asks s p 12 ([byteOf l.val, byteOf c.val, byteOf ps.length, byteOf ps.length] ++ partyBytes ps) rest →
    1 ≤ ps.length → ps.length ≤ 4 → (∀ q ∈ ps, 1 ≤ q.load ∧ q.load ≤ 8) →
    (1 < ps.length → ∀ q ∈ ps, q.route ≠ .loopAny) →
    ((s.line l).state = .idle ∨ (s.line l).state = .parked ∨ (s.line l).state = .outOfService →
        exec (.setLine p) s
          = .next (((taken s p rest).modLine l fun r => { r with cls := c, parties := ps }).respond p 12#8 .ok))
    ∧ (¬((s.line l).state = .idle ∨ (s.line l).state = .parked ∨ (s.line l).state = .outOfService) →
        exec (.setLine p) s = .next ((taken s p rest).respond p 12#8 (.refuse .lineActive)))) ∧
  (∀ (s : State) (p : Port) (line cls parties : Byte) (es : List (Byte × Byte)) (rest : List ReplyItem), Settled s →
     es.length < 256 →
     Asks s p 12 ([line, cls, parties, byteOf es.length] ++ es.flatMap fun e => [e.1, e.2]) rest →
     (63 < line.toNat ∨ 7 < cls.toNat ∨ parties.toNat < 1 ∨ 4 < parties.toNat ∨ parties.toNat ≠ es.length
       ∨ (∃ e ∈ es, 6 < e.1.toNat ∨ e.2.toNat < 1 ∨ 8 < e.2.toNat) ∨ (1 < es.length ∧ ∃ e ∈ es, e.1 = 0#8)) →
     exec (.setLine p) s = .next ((taken s p rest).respond p 12#8 (.refuse .badValue)))

/-- SET CLASS replaces a class whole when its values pass the ranges of R10 and the checks of R11, and is refused BAD VALUE with
the class as it was when they do not; so is a class number above 7, and a code that names no dialling method or port. -/
def Obligations.SetClassReplacesTheClassOrRefuses : Prop :=
  (∀ (s : State) (p : Port) (n : ClassNo) (c : LineClass) (rest : List ReplyItem),
    Settled s → ClassFits c → Asks s p 13 (classBytes n c) rest →
    (ClassValid c → exec (.setClass p) s = .next (((taken s p rest).setClass n c).respond p 13#8 .ok))
    ∧ (¬ClassValid c → exec (.setClass p) s = .next ((taken s p rest).respond p 13#8 (.refuse .badValue)))) ∧
  (∀ (s : State) (p : Port) (n dialling home alternate : Byte) (values : List Byte) (rest : List ReplyItem), Settled s →
     values.length = 22 → Asks s p 13 ([n] ++ values ++ [dialling, home, alternate]) rest →
     (7 < n.toNat ∨ dialling.toNat < 1 ∨ 2 < dialling.toNat ∨ home.toNat < 1 ∨ 3 < home.toNat ∨ 3 < alternate.toNat) →
     exec (.setClass p) s = .next ((taken s p rest).respond p 13#8 (.refuse .badValue)))

/-- PARK tears any line that is in service and not PARKED down into PARKED with reason MAINTENANCE (R16, R17): what it held of tone
and ringing is freed, its pulse count is to be discarded, and the park release runs if it is on-hook. An OUT_OF_SERVICE line is
refused; a PARKED line takes the reason and keeps its timer. RING STOPPED and ABANDON come before LINE PARKED.
REMOVE LINE sets the admin flag; a line in service is torn down into OUT_OF_SERVICE with reason ADMIN and hook ON (R16, R20,
R23; the hook field is the model's reading, log 8) and LINE LOST, and a line out of service keeps its state and reason.
The torn-down record has reorigination pending absent, where R16 step 6 writes "no": the model's choice, log 26. -/
def Obligations.ParkAndRemoveTearTheLineDown : Prop :=
  (∀ (s : State) (l : LineNo) (rest : List ReplyItem), Consistent s → Asks s .M 14 [byteOf l.val] rest →
     let u := taken s .M rest
     ((s.line l).state ≠ .outOfService → (s.line l).state ≠ .parked →
         ∃ t, exec (.park .M) s = .next t
           ∧ t.line l = { (s.line l).enter .parked with
               parkReason := some .maintenance,
               timer := if (s.line l).hook = .on then some ⟨.parkRelease, s.now + (s.lineClass l).parkRelease⟩ else none }
           ∧ HoldsNothing t l ∧ t.commandsOf l = s.commandsOf l ++ [.discardPulseCount]
           ∧ QueuesExtend (teardownReports u l (.lineParked .maintenance)) t
           ∧ OnlyCallChanges s t l ∧ (t.port .M).sent = (s.port .M).sent ++ [responseFrame 14#8 .ok])
     ∧ ((s.line l).state = .parked →
         exec (.park .M) s
           = .next (((u.modLine l fun r => { r with parkReason := some .maintenance }).report l (.lineParked .maintenance)).respond
               .M 14#8 .ok))
     ∧ ((s.line l).state = .outOfService → exec (.park .M) s = .next (u.respond .M 14#8 (.refuse .lineActive)))) ∧
  (∀ (s : State) (l : LineNo) (rest : List ReplyItem), Consistent s → Asks s .M 16 [byteOf l.val] rest →
     ((s.line l).state ≠ .outOfService →
         ∃ t, exec (.removeLine .M) s = .next t
           ∧ t.line l = { (s.line l).enter .outOfService with oosReason := some .admin, hook := .on, admin := true }
           ∧ HoldsNothing t l ∧ t.commandsOf l = s.commandsOf l ++ [.discardPulseCount]
           ∧ QueuesExtend (teardownReports (taken s .M rest) l .lineLost) t
           ∧ OnlyCallChanges s t l ∧ (t.port .M).sent = (s.port .M).sent ++ [responseFrame 16#8 .ok])
     ∧ ((s.line l).state = .outOfService →
         exec (.removeLine .M) s
           = .next (((taken s .M rest).modLine l fun r => { r with admin := true }).respond .M 16#8 .ok)))

/-- RESTORE LINE clears the admin flag (R21): with reason ADMIN the line goes to IDLE on-hook, the scanner is told to take it
afresh and LINE RESTORED is reported; with another reason it stays out; with the flag no, nothing changes.
UNPARK returns a PARKED line to IDLE with LINE UNPARKED, and an off-hook one originates in the same event; in any other state
it is refused LINE ACTIVE (R19). -/
def Obligations.RestoreAndUnparkReturnTheLine : Prop :=
  (∀ (s : State) (l : LineNo) (rest : List ReplyItem), Consistent s → Asks s .M 17 [byteOf l.val] rest →
     let u := taken s .M rest
     ((s.line l).admin = true → (s.line l).state = .outOfService → (s.line l).oosReason = some .admin →
         exec (.restoreLine .M) s
           = .next ((((u.setLine l { (s.line l).enter .idle with admin := false, hook := .on }).sendCommand l .takeAfresh).report
               l .lineRestored).respond .M 17#8 .ok))
     ∧ ((s.line l).admin = true → (s.line l).oosReason ≠ some .admin →
         exec (.restoreLine .M) s = .next ((u.modLine l fun r => { r with admin := false }).respond .M 17#8 .ok))
     ∧ ((s.line l).admin = false → exec (.restoreLine .M) s = .next (u.respond .M 17#8 .ok))) ∧
  (∀ (s : State) (l : LineNo) (rest : List ReplyItem), Consistent s → Asks s .M 15 [byteOf l.val] rest →
     let u := taken s .M rest
     let v := (u.setLine l ((s.line l).enter .idle)).report l .lineUnparked
     ((s.line l).state = .parked → (s.line l).hook = .on → exec (.unpark .M) s = .next (v.respond .M 15#8 .ok))
     ∧ ((s.line l).state = .parked → (s.line l).hook = .off →
         exec (.unpark .M) s = .next ((v.originate l).respond .M 15#8 .ok))
     ∧ ((s.line l).state ≠ .parked → exec (.unpark .M) s = .next (u.respond .M 15#8 (.refuse .lineActive))))

/-- FORCE RELEASE takes a line from its holder (R22): what it held is freed, and it goes to IDLE on-hook or to PARKED off-hook with
reason MAINTENANCE, with RELEASE FORCED; a line with no holder that is no orphan is refused NOT HOLDER.
The freed record has reorigination pending absent, where R16 step 6 writes "no": the model's choice, log 26. -/
def Obligations.ForceReleaseFreesTheLine : Prop :=
  ∀ (s : State) (l : LineNo) (rest : List ReplyItem), Consistent s → Asks s .M 18 [byteOf l.val] rest →
    ((s.line l).holder.isSome ∨ (s.line l).orphan = true →
        ∃ t, exec (.forceRelease .M) s = .next t
          ∧ t.line l = (if (s.line l).hook = .on then (s.line l).enter .idle
                        else { (s.line l).enter .parked with parkReason := some .maintenance })
          ∧ HoldsNothing t l ∧ t.commandsOf l = s.commandsOf l ++ [.discardPulseCount]
          ∧ QueuesExtend (teardownReports (taken s .M rest) l .releaseForced) t
          ∧ OnlyCallChanges s t l ∧ (t.port .M).sent = (s.port .M).sent ++ [responseFrame 18#8 .ok])
    ∧ ((s.line l).holder = none → (s.line l).orphan = false →
        exec (.forceRelease .M) s = .next ((taken s .M rest).respond .M 18#8 (.refuse .notHolder)))

/-- The card events at a card's eight line records (R24, R25): a line out of service takes reason CARD at a loss with its other
fields kept, a line in service is torn down with hook ON; CARD PRESENT turns CARD to SETTLE; CARD SETTLED takes a line with its
admin flag no to IDLE on-hook, and gives the others reason ADMIN. One command takes the event at all eight records (log 5).
A loss reports each line in service in ascending order: RING FAILED for its ring, ABANDON to an offered port, LINE LOST (R16, R24).
The record of a line that a loss tears down has reorigination pending absent, where R16 step 6 writes "no": the model's choice, log 26.
CARD PRESENT and CARD SETTLED at a card's eight line records (R25; log 5): LINE RESTORED is reported for each line that returns, in
ascending order, and CARD PRESENT makes no report. -/
def Obligations.CardEventsMoveTheCardsLines : Prop :=
  (∀ (s : State) (c : CardNo), Consistent s →
     (∀ l : LineNo, cardOf l = c → ∃ at_ es, s.eventsOf l = .cardLoss at_ :: es) →
       (∃ t, exec (.cardLoss c) s = .next t
         ∧ (∀ l : LineNo, cardOf l = c →
             t.line l = (if (s.line l).state = .outOfService then { s.line l with oosReason := some .card }
                         else { (s.line l).enter .outOfService with oosReason := some .card, hook := .on })
             ∧ t.eventsOf l = (s.eventsOf l).tail ∧ HoldsNothing t l)
         ∧ QueuesExtend (cardLossReports s c) t
         ∧ t = { s with lines := t.lines, tone := t.tone, programs := t.programs, alloc := t.alloc, entries := t.entries,
                        relays := t.relays, indications := t.indications, scanEvents := t.scanEvents,
                        scanCommands := t.scanCommands, queues := t.queues, ports := t.ports }
         ∧ ∀ l : LineNo, cardOf l ≠ c → (∀ w ∈ s.tone.queue, w.line ≠ l) → s.request l = none →
             t.line l = s.line l ∧ t.eventsOf l = s.eventsOf l)) ∧
  (∀ (s : State) (c : CardNo), Consistent s →
     ((∀ l : LineNo, cardOf l = c → ∃ at_ es, s.eventsOf l = .cardPresent at_ :: es) →
       ∃ t, exec (.cardPresent c) s = .next t
         ∧ (∀ l : LineNo,
             t.line l = (if cardOf l = c ∧ (s.line l).oosReason = some .card then { s.line l with oosReason := some .settle }
                         else s.line l)
             ∧ t.eventsOf l = (if cardOf l = c then (s.eventsOf l).tail else s.eventsOf l))
         ∧ t = { s with lines := t.lines, scanEvents := t.scanEvents })
     ∧ ((∀ l : LineNo, cardOf l = c → (s.line l).state = .outOfService ∧ ∃ at_ es, s.eventsOf l = .cardSettled at_ :: es) →
       ∃ t, exec (.cardSettled c) s = .next t
         ∧ (∀ l : LineNo,
             t.line l = (if cardOf l = c then
                           (if (s.line l).admin then { s.line l with oosReason := some .admin }
                            else { (s.line l).enter .idle with hook := .on })
                         else s.line l)
             ∧ t.commandsOf l
                 = s.commandsOf l ++ (if cardOf l = c ∧ (s.line l).admin = false then [.takeAfresh] else [])
             ∧ t.eventsOf l = (if cardOf l = c then (s.eventsOf l).tail else s.eventsOf l))
         ∧ t.queues = (restoredReports s c).queues ∧ t.ports = (restoredReports s c).ports
         ∧ t = { s with lines := t.lines, scanEvents := t.scanEvents, scanCommands := t.scanCommands, queues := t.queues,
                        ports := t.ports }))

/-! ## Scanner (chapter 2) -/

/-- A scan instant (R28, R29, R42, R46): every line of a card that is and stays in service is sampled once, its ground state takes the
sample, its events join those not yet taken and a first burst current is told to the Sequencer; the lines of a card that stays
absent or settling are not sampled; only the clock, the scanner and its notices change. The instant taken is the next one due
(log 2).
A card that is lost (R46, R47) takes its eight records to OUT with ground INACTIVE and delivers CARD LOSS to each of the lines
(whether its lines are sampled first is open, log 6); a card that returns delivers CARD PRESENT to each. -/
def Obligations.ScanInstantSamplesTheShelf : Prop :=
  ∀ (s : State) (v : ShelfSample),
    let at_ := s.scanTime
    let events (l : LineNo) := ((s.scan l).mode.sample v.lines[l] at_ (s.lineClass l)).2.1
    let bursts (l : LineNo) : List Ms := if ((s.scan l).mode.sample v.lines[l] at_ (s.lineClass l)).2.2 then [at_] else []
    ∃ t, exec (.scanInstant v) s = .next t
      ∧ t = { s with clock := t.clock, cards := t.cards, scans := t.scans, scanEvents := t.scanEvents,
                     burstNotices := t.burstNotices }
      ∧ t.now = at_ ∧ t.clock.nextScan = at_ + 5 ∧ t.clock.slot = s.clock.slot
      ∧ (∀ c : CardNo, t.card c = (s.card c).sample v.cards[c] at_)
      ∧ (∀ l : LineNo, (s.card (cardOf l)).state = .inService → (t.card (cardOf l)).state = .inService →
          t.scan l = ⟨((s.scan l).mode.sample v.lines[l] at_ (s.lineClass l)).1, v.lines[l].grounded⟩
          ∧ t.eventsOf l = s.eventsOf l ++ events l ∧ t.burstsOf l = s.burstsOf l ++ bursts l)
      ∧ (∀ l : LineNo, (s.card (cardOf l)).state ≠ .inService → (t.card (cardOf l)).state ≠ .absent → t.scan l = s.scan l)
      ∧ (∀ l : LineNo, (s.card (cardOf l)).state ≠ .inService → (t.card (cardOf l)).state = (s.card (cardOf l)).state →
          t.scan l = s.scan l ∧ t.eventsOf l = s.eventsOf l ∧ t.burstsOf l = s.burstsOf l)
      ∧ (∀ l : LineNo, (s.card (cardOf l)).state = .absent → (t.card (cardOf l)).state = .settling →
          t.scan l = s.scan l ∧ t.eventsOf l = s.eventsOf l ++ [.cardPresent at_] ∧ t.burstsOf l = s.burstsOf l)
      ∧ (∀ l : LineNo, (s.card (cardOf l)).state ≠ .absent → (t.card (cardOf l)).state = .absent →
          t.scan l = ⟨.out, false⟩
          ∧ ((t.eventsOf l = s.eventsOf l ++ [.cardLoss at_] ∧ t.burstsOf l = s.burstsOf l)
             ∨ ((s.card (cardOf l)).state = .inService
                ∧ t.eventsOf l = s.eventsOf l ++ events l ++ [.cardLoss at_] ∧ t.burstsOf l = s.burstsOf l ++ bursts l)))

/-- The card-present sense is qualified over two successive samples (R47): one differing sample changes no state, a second one
loses a card or begins its settle, and a sample that agrees starts the count again.
CARD_SETTLE_TIMEOUT (R48): a card SETTLING for 2000 ms goes IN SERVICE, CARD SETTLED joins the events of each of its lines, and
nothing else changes. -/
def Obligations.CardsAreQualifiedAndSettle : Prop :=
  (∀ (c : CardRecord) (present : Bool) (at_ : Ms),
     ((present = true ↔ c.state ≠ .absent) → c.sample present at_ = { c with differed := false })
     ∧ (¬(present = true ↔ c.state ≠ .absent) → c.differed = false → c.sample present at_ = { c with differed := true })
     ∧ (c.state ≠ .absent → c.differed = true → c.sample false at_ = ⟨.absent, none, false⟩)
     ∧ (c.state = .absent → c.differed = true → c.sample true at_ = ⟨.settling, some at_, false⟩)) ∧
  (∀ (s : State) (c : CardNo) (at_ : Ms), (s.card c).state = .settling → (s.card c).settleStart = some at_ → at_ + 2000 ≤ s.now →
     ∃ t, exec (.cardSettleTimeout c) s = .next t
       ∧ t = { s with cards := t.cards, scanEvents := t.scanEvents }
       ∧ (t.card c).state = .inService ∧ (∀ d, d ≠ c → t.card d = s.card d)
       ∧ ∀ l : LineNo, t.eventsOf l = s.eventsOf l ++ (if cardOf l = c then [.cardSettled s.now] else []))

/-- Lines taken as on-hook and lines being rung (R32, R41, R42, R43): a run begins at its first sample with its qualify time latched,
extends only over samples that show the condition and is discarded by the first that does not, and at its latched qualify time it is
delivered as OFF-HOOK, as ANSWER by ring-trip, or as ANSWER by off-hook. The make that begins has the interdigit make latched at its
first off-hook sample (R39). Ring current in an ON step is told once (R42). -/
def Obligations.RunsQualifyAtTheirLatchedTime : Prop :=
  ∀ (v : LineSenses) (at_ : Ms) (c : LineClass) (r : OffHookRun) (q : Run) (fed : Bool),
    let begun : OffHookRun := ⟨⟨at_, c.originationQualify⟩, c.interdigitMake⟩
    let burst : Bool := v.ringCurrent && !fed
    (∀ old, v.offHook = false →
        (ScanMode.onHook old).sample v at_ c = (.onHook none, [], false)
        ∧ (ScanMode.ringOff old).sample v at_ c = (.ringOff none, [], false))
    ∧ (v.offHook = true → 5 < c.originationQualify →
        (ScanMode.onHook none).sample v at_ c = (.onHook (some begun), [], false)
        ∧ (ScanMode.ringOff none).sample v at_ c = (.ringOff (some begun), [], false))
    ∧ (v.offHook = true → at_ + 5 - r.start < r.qualify →
        (ScanMode.onHook (some r)).sample v at_ c = (.onHook (some r), [], false)
        ∧ (ScanMode.ringOff (some r)).sample v at_ c = (.ringOff (some r), [], false))
    ∧ (v.offHook = true → r.qualify ≤ at_ + 5 - r.start →
        (ScanMode.onHook (some r)).sample v at_ c
          = (.offHook (.fresh r.start r.interdigitMake false), [.offHook at_ r.start], false)
        ∧ (ScanMode.ringOff (some r)).sample v at_ c
          = (.offHook (.fresh r.start r.interdigitMake true), [.answer at_ .offHook .off r.start], false))
    ∧ (∀ old, v.ringTrip = false →
        (ScanMode.ringOn old fed).sample v at_ c = (.ringOn none (fed || v.ringCurrent), [], burst))
    ∧ (v.ringTrip = true → 5 < c.ringTripQualify →
        (ScanMode.ringOn none fed).sample v at_ c
          = (.ringOn (some ⟨at_, c.ringTripQualify⟩) (fed || v.ringCurrent), [], burst))
    ∧ (v.ringTrip = true → at_ + 5 - q.start < q.qualify →
        (ScanMode.ringOn (some q) fed).sample v at_ c = (.ringOn (some q) (fed || v.ringCurrent), [], burst))
    ∧ (v.ringTrip = true → q.qualify ≤ at_ + 5 - q.start →
        (ScanMode.ringOn (some q) fed).sample v at_ c
          = (.offHook (.fresh at_ c.interdigitMake true), [.answer at_ .ringTrip .on q.start], burst))

/-- A break under measurement (R33, R35, R36): its first on-hook sample latches the class's timings, the sample that brings it to
flash max is a DISCONNECT and takes the record to ON-HOOK, and a break that begins with a hit limit of 5 ms is a true break at once.
While the break is below its hit limit, a make that reaches its interdigit make defers DIGIT END; a hit then ends the digit, and a
true break takes the deferral back (R36). That the deferral holds also at a break's first sample, where it alone brings the make to
its interdigit make after the ring latch discarded a break, is the model's reading of R36 beside R44 (log 28). A make that had already
reached it before the break's first sample ends the digit at that sample (R44).
With the ring latch yes every sample is taken as off-hook (R44).
The make after the last pulse ends the digit at its latched interdigit make (R36, R37): the digit equal to the count, 0 for
ten, TOO MANY PULSES with count 11 when overlong; until then nothing is declared.
A break that ends at an off-hook sample is classified by its length under the timings latched at its start (R33, R34, R37,
R38): a hit leaves make and pulse count, a pulse is counted, a flash (below flash max, R34) and a bad break discard the count. -/
def Obligations.LongBreaksDisconnectAndMakesEndDigits : Prop :=
  (∀ (f : OffHookScan) (b : BreakRun) (v : LineSenses) (at_ : Ms) (c : LineClass), v.offHook = false → f.ringLatch = false →
     let reached : Bool := decide (0 < f.pulses) && decide (f.interdigitMake ≤ at_ + 5 - f.makeStart)
     let begun : BreakRun := ⟨at_, c.hitLimit, c.pulseBreakMin, c.pulseBreakMax, c.flashMin, c.flashMax⟩
     let out := (ScanMode.offHook f).sample v at_ c
     (f.breakRun = some b → b.flashMax ≤ at_ + 5 - b.start → out = (.onHook none, [.disconnect at_ b.start f.discarded], false))
     ∧ (f.breakRun = some b → at_ + 5 - b.start < b.flashMax → b.hitLimit ≤ at_ + 5 - b.start →
         out = (.offHook { f with deferred := false }, [], false))
     ∧ (f.breakRun = some b → at_ + 5 - b.start < b.flashMax → at_ + 5 - b.start < b.hitLimit →
         out = (.offHook { f with deferred := f.deferred || reached }, [], false))
     ∧ (f.breakRun = none → (f.pulses = 0 ∨ at_ - f.makeStart < f.interdigitMake) → 5 < c.hitLimit → 5 < c.flashMax →
         out = (.offHook { f with breakRun := some begun, deferred := f.deferred || reached }, [], false))
     ∧ (f.breakRun = none → (f.pulses = 0 ∨ at_ - f.makeStart < f.interdigitMake) → c.hitLimit ≤ 5 → 5 < c.flashMax →
         out = (.offHook { f with breakRun := some begun, deferred := false }, [], false))
     ∧ (f.breakRun = none → 0 < f.pulses → f.pulses ≤ 10 → (f.overlong = true → f.pulses = 10) →
         f.interdigitMake ≤ at_ - f.makeStart → 5 < c.flashMax →
         out = (.offHook { f with breakRun := some begun, pulses := 0, overlong := false, deferred := false },
                [.digitEnd at_ (if f.overlong then .tooManyPulses else .digit (Fin.ofNat 10 f.pulses))
                  (if f.overlong then 11 else f.pulses)], false))) ∧
  (∀ (f : OffHookScan) (v : LineSenses) (at_ : Ms) (c : LineClass), (v.offHook = true ∨ f.ringLatch = true) →
     f.pulses ≤ 10 → (f.overlong = true → f.pulses = 10) →
     let ended : ScanMode × List ScanEvent × Bool :=
       (.offHook { f with breakRun := none, pulses := 0, overlong := false, deferred := false },
        [.digitEnd at_ (if f.overlong then .tooManyPulses else .digit (Fin.ofNat 10 f.pulses))
          (if f.overlong then 11 else f.pulses)], false)
     (f.breakRun = none → (f.pulses = 0 ∨ at_ + 5 - f.makeStart < f.interdigitMake) →
         (ScanMode.offHook f).sample v at_ c = (.offHook f, [], false))
     ∧ (f.breakRun = none → 0 < f.pulses → f.interdigitMake ≤ at_ + 5 - f.makeStart →
         (ScanMode.offHook f).sample v at_ c = ended)
     ∧ (∀ b : BreakRun, f.breakRun = some b → at_ - b.start < b.hitLimit → 0 < f.pulses →
         f.interdigitMake ≤ at_ + 5 - f.makeStart → (ScanMode.offHook f).sample v at_ c = ended)) ∧
  (∀ (f : OffHookScan) (b : BreakRun) (v : LineSenses) (at_ : Ms) (c : LineClass),
     f.breakRun = some b → (v.offHook = true ∨ f.ringLatch = true) → b.start ≤ at_ →
     b.hitLimit < b.pulseBreakMin → b.pulseBreakMin ≤ b.pulseBreakMax → b.pulseBreakMax < b.flashMin → b.flashMin < b.flashMax →
     let d := at_ - b.start
     let out := (ScanMode.offHook f).sample v at_ c
     let make : OffHookScan := { f with makeStart := at_, interdigitMake := c.interdigitMake, breakRun := none, deferred := false }
     (d < b.hitLimit → (f.pulses = 0 ∨ at_ + 5 - f.makeStart < f.interdigitMake) →
         out = (.offHook { f with breakRun := none, deferred := false }, [], false))
     ∧ (b.hitLimit ≤ d → d < b.pulseBreakMin →
         out = (.offHook { make with pulses := 0, overlong := false },
                (if 0 < f.discarded then [.digitEnd at_ .badBreak f.discarded] else []) ++ [.badBreak at_ b.start d], false))
     ∧ (b.pulseBreakMin ≤ d → d ≤ b.pulseBreakMax → f.overlong = false → f.pulses < 10 →
         out = (.offHook { make with pulses := f.pulses + 1 }, [.pulse at_ d (f.pulses + 1)], false))
     ∧ (b.pulseBreakMin ≤ d → d ≤ b.pulseBreakMax → f.overlong = true ∨ 10 ≤ f.pulses →
         out = (.offHook { make with overlong := true }, [], false))
     ∧ (b.pulseBreakMax < d → d < b.flashMin →
         out = (.offHook { make with pulses := 0, overlong := false },
                (if 0 < f.discarded then [.digitEnd at_ .badBreak f.discarded] else []) ++ [.badBreak at_ b.start d], false))
     ∧ (b.flashMin ≤ d → d < b.flashMax →
         out = (.offHook { make with pulses := 0, overlong := false }, [.flash at_ b.start d f.discarded], false)))

/-- STEP ON, STEP OFF and RING END at a scanner record: the table of R40, each command taking the first indication of the line and
changing nothing but the record's mode. -/
def Obligations.IndicationsMoveTheScannerRecord : Prop :=
  (∀ (s : State) (l : LineNo) (js : List RingIndication),
    (s.indicationsOf l = .stepOn :: js →
        exec (.stepOn l) s
          = .next ((s.setIndications l js).setScan l ⟨(s.scan l).mode.indicated .stepOn, (s.scan l).ground⟩))
    ∧ (s.indicationsOf l = .stepOff :: js →
        exec (.stepOff l) s
          = .next ((s.setIndications l js).setScan l ⟨(s.scan l).mode.indicated .stepOff, (s.scan l).ground⟩))
    ∧ (s.indicationsOf l = .ringEnd :: js →
        exec (.ringEnd l) s
          = .next ((s.setIndications l js).setScan l ⟨(s.scan l).mode.indicated .ringEnd, (s.scan l).ground⟩)))
  ∧ (∀ i, ScanMode.indicated .out i = .out)
  ∧ (∀ run, ScanMode.indicated (.onHook run) .stepOn = .ringOn none false
      ∧ ScanMode.indicated (.onHook run) .stepOff = .ringOff none
      ∧ ScanMode.indicated (.onHook run) .ringEnd = .onHook run)
  ∧ (∀ run fed, ScanMode.indicated (.ringOn run fed) .stepOn = .ringOn none false
      ∧ ScanMode.indicated (.ringOn run fed) .stepOff = .ringOff none
      ∧ ScanMode.indicated (.ringOn run fed) .ringEnd = .onHook none)
  ∧ (∀ run, ScanMode.indicated (.ringOff run) .stepOn = .ringOn none false
      ∧ ScanMode.indicated (.ringOff run) .stepOff = .ringOff run
      ∧ ScanMode.indicated (.ringOff run) .ringEnd = .onHook run)
  ∧ ∀ f : OffHookScan,
      ScanMode.indicated (.offHook f) .stepOn = .offHook { f with ringLatch := true, breakRun := none, deferred := false }
      ∧ ScanMode.indicated (.offHook f) .stepOff = .offHook { f with ringLatch := true, breakRun := none, deferred := false }
      ∧ ScanMode.indicated (.offHook f) .ringEnd = .offHook { f with ringLatch := false }

/-- The Line Table's commands at a scanner record (R45): take afresh puts a line whose card is in service into ON-HOOK with no run
and is discarded elsewhere; discard pulse count clears the count of an OFF-HOOK record and keeps its make and break. -/
def Obligations.TableCommandsMoveTheScannerRecord : Prop :=
  ∀ (s : State) (l : LineNo) (cs : List ScanCommand),
    (s.commandsOf l = .takeAfresh :: cs → (s.card (cardOf l)).state = .inService →
        exec (.takeAfresh l) s = .next ((s.setCommands l cs).setScan l ⟨.onHook none, (s.scan l).ground⟩))
    ∧ (s.commandsOf l = .takeAfresh :: cs → (s.card (cardOf l)).state ≠ .inService →
        exec (.takeAfresh l) s = .next (s.setCommands l cs))
    ∧ (∀ f : OffHookScan, s.commandsOf l = .discardPulseCount :: cs → (s.scan l).mode = .offHook f →
        exec (.discardPulseCount l) s
          = .next ((s.setCommands l cs).setScan l
              ⟨.offHook { f with pulses := 0, overlong := false, deferred := false }, (s.scan l).ground⟩))
    ∧ (s.commandsOf l = .discardPulseCount :: cs → (∀ f, (s.scan l).mode ≠ .offHook f) →
        exec (.discardPulseCount l) s = .next (s.setCommands l cs))

/-! ## Origination, tone and digits (chapter 3) -/

/-- An OFF-HOOK taken in IDLE originates (R50): with no PRESENT port the line parks with NO CONTROLLER; else it is offered to the
home port, or to the alternate when only that is PRESENT, asks for a tap, starts its first-digit timer, and ORIGINATE is sent. An
ANSWER event taken in IDLE originates in the same way (R136). -/
def Obligations.OffHookOriginatesAnIdleLine : Prop :=
  ∀ (s : State) (l : LineNo) (es : List ScanEvent) (c : Instr), Consistent s →
    ((c = .offHook l ∧ ∃ at_ run, s.eventsOf l = .offHook at_ run :: es)
      ∨ (c = .answer l ∧ ∃ at_ q k run, s.eventsOf l = .answer at_ q k run :: es)) →
    (s.line l).state = .idle →
    let k := s.lineClass l
    let offered (stage : OfferStage) (p : Port) : State :=
      (((s.setEvents l es).setLine l { s.line l with
          hook := .off, digits := [], expected := 0, recallMark := false, dialling := some k.dialling, offer := stage,
          offeredPort := some p, offerDeadline := some (s.now + k.claimWindow) }).askTone l).startTimer l .firstDigit
        k.firstDigitTimeout
    (s.present k.home = true → exec c s = .next ((offered .home k.home).sendOriginate l))
    ∧ (∀ p, s.present k.home = false → k.alternate = some p → s.present p = true →
        exec c s = .next ((offered .alternate p).sendOriginate l))
    ∧ (s.present k.home = false → (∀ p, k.alternate = some p → s.present p = false) →
        exec c s
          = .next (((s.setEvents l es).setLine l
              { (s.line l).enter .parked with hook := .off, parkReason := some .noController }).report l
                (.lineParked .noController)))

/-- A lift in the other states (R2, R68, R73, R75, R82, R18, R23): out of service it is discarded; in the originating states, HELD
and RECALL only the hook field follows; in CLEARED reorigination becomes pending; in PARKED the timer stops. An ANSWER event is
taken in the same way. -/
def Obligations.LiftsOutsideIdleAndRinging : Prop :=
  ∀ (s : State) (l : LineNo) (es : List ScanEvent) (c : Instr), Settled s →
    ((c = .offHook l ∧ ∃ at_ run, s.eventsOf l = .offHook at_ run :: es)
      ∨ (c = .answer l ∧ ∃ at_ q k run, s.eventsOf l = .answer at_ q k run :: es)) →
    let u := s.setEvents l es
    ((s.line l).state = .outOfService → exec c s = .next u)
    ∧ ((s.line l).state.originating = true ∨ (s.line l).state = .held ∨ (s.line l).state = .recalling →
        exec c s = .next (u.setLine l { s.line l with hook := .off }))
    ∧ ((s.line l).state = .cleared →
        exec c s = .next (u.setLine l { s.line l with hook := .off, reorigination := some true }))
    ∧ ((s.line l).state = .parked → exec c s = .next (u.setLine l { s.line l with hook := .off, timer := none }))

/-- Asking for a tap (R56, R61): with taps in use below the limit and nobody waiting, the lowest free tap is assigned and the line
enters DIAL_TONE; otherwise, and whenever all twelve taps are in use, it joins the tail of the tone wait queue with its tone delay
deadline and enters TONE_WAIT.
A grant (R56): the head leaves the queue with the lowest free tap and enters DIAL_TONE, its first-digit timer carried over.
At the end of an event in which a tap was returned the head is granted, and again while taps in use are below the limit and a line
waits (R57): so the line at the head of the queue gets tone when END TONE, CONNECT, a first pulse or a disconnect takes a line out
of DIAL_TONE. The order of grants before passes is the model's own (log 13). -/
def Obligations.AskingForATap : Prop :=
  (∀ (s : State) (l : LineNo),
    let waits : State :=
      ({ s with tone :=
          { s.tone with
            queue := s.tone.queue ++ [({ line := l, deadline := s.now + 1000 * s.tone.delayThreshold } : ToneWaiter)] } }).setLine l
        { (s.line l).enter .toneWait with toneWaitStart := some s.now, toneDelayReported := some false }
    (∀ k : Fin 12, s.tone.taps[k] = none → (∀ j : Fin 12, j < k → s.tone.taps[j] ≠ none) →
      (s.tone.inUse < s.tone.currentLimit → s.tone.queue = [] →
          s.askTone l
            = ({ s with tone := { s.tone with taps := s.tone.taps.set k (some l) } }).setLine l ((s.line l).enter .dialTone))
      ∧ (s.tone.currentLimit ≤ s.tone.inUse ∨ s.tone.queue ≠ [] → s.askTone l = waits))
    ∧ ((∀ k : Fin 12, s.tone.taps[k] ≠ none) → s.askTone l = waits)) ∧
  (∀ (s : State) (w : ToneWaiter) (ws : List ToneWaiter) (k : Fin 12), s.tone.queue = w :: ws →
     s.tone.taps[k] = none → (∀ j : Fin 12, j < k → s.tone.taps[j] ≠ none) →
     s.grantHead
       = ({ s with tone := { s.tone with queue := ws, taps := s.tone.taps.set k (some w.line) } }).setLine w.line
           { (s.line w.line).enter .dialTone with timer := (s.line w.line).timer }) ∧
  (∀ s : State,
     (s.tapReturned = false → s.settleTone = s)
     ∧ (s.tapReturned = true → s.tone.queue = [] ∨ s.tone.currentLimit ≤ s.tone.inUse →
         s.settleTone = { s with tapReturned := false })
     ∧ (s.tapReturned = true → s.tone.queue ≠ [] → s.tone.inUse < s.tone.currentLimit → s.settleTone = s.grantHead.settleTone)
     ∧ (s.passDue = false → s.finish = s.settleTone)) ∧
  (∀ (s : State) (p : Port) (l : LineNo) (c : Instr) (rest : List ReplyItem) (w : ToneWaiter) (ws : List ToneWaiter) (k : Fin 12),
     Consistent s → (s.line l).state = .dialTone →
     ((c = .endTone p ∧ Asks s p 4 [byteOf l.val] rest ∧ (s.line l).holder = some p)
       ∨ (c = .connect p ∧ Asks s p 5 [byteOf l.val] rest ∧ (s.line l).holder = some p)
       ∨ (c = .pulse l ∧ ∃ at_ len n es, s.eventsOf l = .pulse at_ len n :: es)
       ∨ (c = .disconnect l ∧ ∃ at_ start n es, s.eventsOf l = .disconnect at_ start n :: es)) →
     s.tone.queue = w :: ws → s.tone.inUse ≤ s.tone.currentLimit →
     (s.tone.taps[k] = none ∨ s.tone.taps[k] = some l) →
     (∀ j : Fin 12, j < k → s.tone.taps[j] ≠ none ∧ s.tone.taps[j] ≠ some l) →
     ∃ t, exec c s = .next t
       ∧ t.line w.line = { (s.line w.line).enter .dialTone with timer := (s.line w.line).timer }
       ∧ t.tone.taps[k] = some w.line ∧ t.tone.queue <:+ ws)

/-- CLAIM of an unclaimed originating line whose count is not complete (R53, R54): the asking port becomes the holder, another
offered port gets ABANDON, the response carries the state, the tap and the whole buffer, and the interdigit timer runs in
DIGITS.
CLAIM in the other cases (R53, R54): a claim whose count is complete takes the line to HELD with DIALING COMPLETE; a re-claim
changes only the expected digits; a line held by another port is HELD ELSEWHERE; any other line is LINE ACTIVE; an expected count
above 16 is BAD VALUE. -/
def Obligations.ClaimTakesTheLineOrIsRefused : Prop :=
  (∀ (s : State) (p : Port) (l : LineNo) (n : Byte) (rest : List ReplyItem), Consistent s →
     Asks s p 3 [byteOf l.val, n] rest → n.toNat ≤ 16 →
     let r := s.line l
     let k := r.digits.length
     r.state.originating = true → r.holder = none → (n.toNat = 0 ∨ k < n.toNat) →
     let u := taken s p rest
     let v := if r.offeredPort = some p then u else u.abandonOffer l .claimedElsewhere
     exec (.claim p) s
       = .next ((v.setLine l { r with
           holder := some p, offer := .claimed, offeredPort := none, offerDeadline := none, digits := [], delivered := k,
           expected := if n.toNat = 0 then 0 else n.toNat - k,
           timer := if r.state = .digits then some ⟨.interdigit, s.now + (s.lineClass l).interdigitTimeout⟩ else r.timer }).respond
         p 3#8 (.okWith ([byteOf r.state.code, byteOf ((s.tone.tapOf l).getD 255), byteOf k]
           ++ r.digits.map fun d => byteOf d.val)))) ∧
  (∀ (s : State) (p : Port) (l : LineNo) (n : Byte) (rest : List ReplyItem), Consistent s →
     Asks s p 3 [byteOf l.val, n] rest →
     let r := s.line l
     let k := r.digits.length
     let u := taken s p rest
     let v := if r.offeredPort = some p then u else u.abandonOffer l .claimedElsewhere
     (n.toNat ≤ 16 → r.state = .digits → r.holder = none → 0 < n.toNat → n.toNat ≤ k →
         exec (.claim p) s
           = .next ((((v.setLine l { r with
               holder := some p, offer := .claimed, offeredPort := none, offerDeadline := none, digits := [], delivered := k,
               expected := 0 }).report l (.dialingComplete k)).modLine l (·.enter .held)).respond
             p 3#8 (.okWith ([5#8, byteOf ((s.tone.tapOf l).getD 255), byteOf k] ++ r.digits.map fun d => byteOf d.val))))
     ∧ (n.toNat ≤ 16 → r.state.originating = true → r.holder = some p →
         exec (.claim p) s
           = .next ((u.setLine l { r with expected := n.toNat }).respond p 3#8
               (.okWith [byteOf r.state.code, byteOf ((s.tone.tapOf l).getD 255), 0#8])))
     ∧ (∀ q, n.toNat ≤ 16 → r.holder = some q → q ≠ p →
         exec (.claim p) s = .next (u.respond p 3#8 (.refuse .heldElsewhere)))
     ∧ (n.toNat ≤ 16 → r.state.originating = false → (r.holder = none ∨ r.holder = some p) →
         exec (.claim p) s = .next (u.respond p 3#8 (.refuse .lineActive)))
     ∧ (16 < n.toNat → exec (.claim p) s = .next (u.respond p 3#8 (.refuse .badValue))))

/-- END TONE and CONNECT by the holder (R57, R64, R69, R70): the line leaves tone, its tap or queue place is given back, and it
enters DIGITS (with the interdigit timer when its dialling is PULSE) or HELD; only tone and lines that wait for it change besides,
and no report is made.
END TONE in DIGITS changes nothing; a port that is not the holder is refused NOT HOLDER, and outside the originating states the
holder is refused LINE ACTIVE. -/
def Obligations.HolderTakesTheLineOffTone : Prop :=
  ∀ (s : State) (p : Port) (l : LineNo) (rest : List ReplyItem), Consistent s →
    let r := s.line l
    let u := taken s p rest
    (Asks s p 4 [byteOf l.val] rest → r.holder = some p → r.state = .dialTone ∨ r.state = .toneWait →
        ∃ t, exec (.endTone p) s = .next t
          ∧ t.line l = { r.enter .digits with
              timer := if r.dialling = some .tone then none
                       else some ⟨.interdigit, s.now + (s.lineClass l).interdigitTimeout⟩ }
          ∧ (∀ k : Fin 12, t.tone.taps[k] ≠ some l) ∧ (∀ w ∈ t.tone.queue, w.line ≠ l)
          ∧ t.queues = u.queues ∧ t.scanCommands = s.scanCommands
          ∧ OnlyToneChanges s t l ∧ (t.port p).sent = (s.port p).sent ++ [responseFrame 4#8 .ok])
    ∧ (Asks s p 4 [byteOf l.val] rest → r.holder = some p → r.state = .digits →
        exec (.endTone p) s = .next (u.respond p 4#8 .ok))
    ∧ (Asks s p 4 [byteOf l.val] rest → r.holder ≠ some p →
        exec (.endTone p) s = .next (u.respond p 4#8 (.refuse .notHolder)))
    ∧ (Asks s p 4 [byteOf l.val] rest → r.holder = some p → r.state.originating = false →
        exec (.endTone p) s = .next (u.respond p 4#8 (.refuse .lineActive)))
    ∧ (Asks s p 5 [byteOf l.val] rest → r.holder = some p → r.state.originating = true →
        ∃ t, exec (.connect p) s = .next t
          ∧ t.line l = r.enter .held
          ∧ (∀ k : Fin 12, t.tone.taps[k] ≠ some l) ∧ (∀ w ∈ t.tone.queue, w.line ≠ l)
          ∧ t.queues = u.queues ∧ t.scanCommands = s.scanCommands
          ∧ OnlyToneChanges s t l ∧ (t.port p).sent = (s.port p).sent ++ [responseFrame 5#8 .ok])
    ∧ (Asks s p 5 [byteOf l.val] rest → r.holder ≠ some p →
        exec (.connect p) s = .next (u.respond p 5#8 (.refuse .notHolder)))
    ∧ (Asks s p 5 [byteOf l.val] rest → r.holder = some p → r.state.originating = false →
        exec (.connect p) s = .next (u.respond p 5#8 (.refuse .lineActive)))

/-- A PULSE (R62, R74, R73, R82, R18): the first pulse takes a line off tone into DIGITS with the interdigit timer of a claimed
line; a later one restarts that timer; in RECALL a digit is in progress; elsewhere nothing changes at the record. No report is
made. -/
def Obligations.PulsesMoveTheLineToDigits : Prop :=
  ∀ (s : State) (l : LineNo) (at_ : Ms) (len n : Nat) (es : List ScanEvent), Consistent s →
    s.eventsOf l = .pulse at_ len n :: es →
    let r := s.line l
    let timer : Option Timer :=
      if r.holder.isSome then some ⟨.interdigit, s.now + (s.lineClass l).interdigitTimeout⟩ else none
    (r.state = .dialTone ∨ r.state = .toneWait →
        ∃ t, exec (.pulse l) s = .next t ∧ t.line l = { r.enter .digits with timer := timer }
          ∧ (∀ k : Fin 12, t.tone.taps[k] ≠ some l) ∧ (∀ w ∈ t.tone.queue, w.line ≠ l)
          ∧ t.queues = s.queues ∧ t.ports = s.ports ∧ t.scanCommands = s.scanCommands
          ∧ OnlyToneChanges (s.setEvents l es) t l)
    ∧ (r.state = .digits → r.holder.isSome →
        exec (.pulse l) s = .next ((s.setEvents l es).setLine l { r with timer := timer }))
    ∧ (r.state = .digits → r.holder = none → exec (.pulse l) s = .next (s.setEvents l es))
    ∧ (r.state = .recalling →
        exec (.pulse l) s = .next ((s.setEvents l es).setLine l { r with digitInProgress := some true }))
    ∧ (r.state.originating = false → r.state ≠ .recalling → exec (.pulse l) s = .next (s.setEvents l es))

/-- A DIGIT END with a digit (R63, R73, R75): buffered on an unclaimed line in DIGITS and in RECALL while there is room, and
reported BUFFER FULL when there is none; on a claimed line in DIGITS reported and counted, with DIALING COMPLETE and HELD at the
last one; in HELD reported in-call; elsewhere discarded.
A BAD BREAK is reported UNCLASSIFIED BREAK in HELD and RECALL and discarded elsewhere (R68, R73, R75); a DIGIT END that is no
digit gives DIGIT ERROR with its cause and count in DIGITS, HELD and RECALL, and restarts the interdigit timer of a claimed line
in DIGITS (R63, R73, R75); elsewhere it is discarded. -/
def Obligations.DigitsAndBadBreaksAtALine : Prop :=
  (∀ (s : State) (l : LineNo) (at_ : Ms) (d : Digit) (n : Nat) (es : List ScanEvent), Settled s →
     s.eventsOf l = .digitEnd at_ (.digit d) n :: es →
     let r := s.line l
     let u := s.setEvents l es
     let running : Option Timer := some ⟨.interdigit, s.now + (s.lineClass l).interdigitTimeout⟩
     (r.state = .digits → r.holder = none → r.digits.length < 16 →
         exec (.digitEnd l) s = .next (u.setLine l { r with digits := r.digits ++ [d] }))
     ∧ (r.state = .digits → r.holder = none → 16 ≤ r.digits.length →
         exec (.digitEnd l) s = .next (u.report l (.digitError .bufferFull n)))
     ∧ (r.state = .digits → r.holder.isSome → r.expected ≠ 1 →
         exec (.digitEnd l) s
           = .next ((u.report l (.digit d false)).setLine l
               { r with delivered := min (r.delivered + 1) 255, expected := r.expected - 1, timer := running }))
     ∧ (r.state = .digits → r.holder.isSome → r.expected = 1 →
         exec (.digitEnd l) s
           = .next ((((u.report l (.digit d false)).setLine l
               { r with delivered := min (r.delivered + 1) 255, expected := 0 }).report l
                 (.dialingComplete (min (r.delivered + 1) 255))).modLine l (·.enter .held)))
     ∧ (r.state = .held → exec (.digitEnd l) s = .next (u.report l (.digit d true)))
     ∧ (r.state = .recalling → r.digits.length < 16 →
         exec (.digitEnd l) s = .next (u.setLine l { r with digitInProgress := some false, digits := r.digits ++ [d] }))
     ∧ (r.state = .recalling → 16 ≤ r.digits.length →
         exec (.digitEnd l) s
           = .next ((u.setLine l { r with digitInProgress := some false }).report l (.digitError .bufferFull n)))
     ∧ (r.state ≠ .digits → r.state ≠ .held → r.state ≠ .recalling → exec (.digitEnd l) s = .next u)) ∧
  (∀ (s : State) (l : LineNo) (es : List ScanEvent), Settled s →
     let r := s.line l
     let u := s.setEvents l es
     (∀ (at_ start : Ms) (len : Nat), s.eventsOf l = .badBreak at_ start len :: es →
       (r.state = .held ∨ r.state = .recalling → exec (.badBreak l) s = .next (u.report l (.unclassifiedBreak start len)))
       ∧ (r.state ≠ .held → r.state ≠ .recalling → exec (.badBreak l) s = .next u))
     ∧ (∀ (at_ : Ms) (n : Nat) (o : DigitOutcome) (cause : DigitErrorCause),
         (o = .tooManyPulses ∧ cause = .tooManyPulses) ∨ (o = .badBreak ∧ cause = .badBreak) →
         s.eventsOf l = .digitEnd at_ o n :: es →
         (r.state = .held → exec (.digitEnd l) s = .next (u.report l (.digitError cause n)))
         ∧ (r.state = .recalling →
             exec (.digitEnd l) s
               = .next ((u.setLine l { r with digitInProgress := some false }).report l (.digitError cause n)))
         ∧ (r.state = .digits → r.holder = none → exec (.digitEnd l) s = .next (u.report l (.digitError cause n)))
         ∧ (r.state = .digits → r.holder.isSome →
             exec (.digitEnd l) s
               = .next ((u.report l (.digitError cause n)).setLine l
                   { r with timer := some ⟨.interdigit, s.now + (s.lineClass l).interdigitTimeout⟩ }))
         ∧ (r.state ≠ .digits → r.state ≠ .held → r.state ≠ .recalling → exec (.digitEnd l) s = .next u)))

/-- A FLASH (R67, R72, R75): in HELD and RECALL the recall starts with a full window and FLASH is reported with the state it was
taken in and the digits emptied; on tone the first-digit timer restarts with DIAL RESTART; in IDLE, CLEARED, PARKED, the ringing
states and out of service it is discarded. -/
def Obligations.FlashStartsARecallOrRestartsDialling : Prop :=
  ∀ (s : State) (l : LineNo) (at_ start : Ms) (len n : Nat) (es : List ScanEvent), Settled s →
    s.eventsOf l = .flash at_ start len n :: es →
    let r := s.line l
    let u := s.setEvents l es
    let window := s.now + (s.lineClass l).recallWindow
    (r.state = .held ∨ r.state = .recalling →
        exec (.flash l) s
          = .next ((u.setLine l { r.enter .recalling with
              digits := [], digitInProgress := some false, timer := some ⟨.recallWindow, window⟩ }).report l
                (.flash r.state r.digits.length n window)))
    ∧ (r.state = .dialTone ∨ r.state = .toneWait →
        exec (.flash l) s
          = .next ((u.setLine l { r with timer := some ⟨.firstDigit, s.now + (s.lineClass l).firstDigitTimeout⟩ }).report l
              (.dialRestart 0 n)))
    ∧ (r.state = .digits →
        exec (.flash l) s
          = .next ((((u.setLine l { r with
              digits := [], expected := if r.holder.isSome then 0 else r.expected, timer := none }).askTone l).startTimer l
                .firstDigit (s.lineClass l).firstDigitTimeout).report l (.dialRestart r.digits.length n)))
    ∧ (r.state.originating = false → r.state ≠ .held → r.state ≠ .recalling → exec (.flash l) s = .next u)

/-- A DISCONNECT (R66, R73, R79, R80, R5, R82, R18, R86): an unclaimed origination is abandoned to IDLE, a held call or a claimed
origination goes to CLEARED with its holder and a release wait, an orphan to IDLE; in CLEARED the reorigination mark goes; in
PARKED the park release time counts from the start of the break; in IDLE, RING_WAIT and RINGING only the hook field follows (R2). -/
def Obligations.DisconnectEndsTheCall : Prop :=
  ∀ (s : State) (l : LineNo) (at_ start : Ms) (n : Nat) (es : List ScanEvent), Consistent s →
    s.eventsOf l = .disconnect at_ start n :: es →
    let r := s.line l
    let u := s.setEvents l es
    (r.state.originating = true ∨ r.state = .held ∨ r.state = .recalling →
        ∃ t, exec (.disconnect l) s = .next t
          ∧ t.line l = (if r.holder.isSome then
                          { r.enter .cleared with
                            hook := .on, reorigination := some false,
                            timer := some ⟨.releaseWait, s.now + (s.lineClass l).releaseWait⟩ }
                        else { r.enter .idle with hook := .on })
          ∧ (∀ k : Fin 12, t.tone.taps[k] ≠ some l) ∧ (∀ w ∈ t.tone.queue, w.line ≠ l)
          ∧ QueuesExtend (if r.holder.isSome ∨ r.orphan = true then u.report l (.clear r.state n r.orphan)
                          else u.abandonOffer l .onHook) t
          ∧ OnlyToneChanges u t l)
    ∧ (r.state = .cleared →
        exec (.disconnect l) s = .next (u.setLine l { r with hook := .on, reorigination := some false }))
    ∧ (r.state = .parked → s.now < start + (s.lineClass l).parkRelease →
        exec (.disconnect l) s
          = .next (u.setLine l { r with
              hook := .on, timer := some ⟨.parkRelease, start + (s.lineClass l).parkRelease⟩ }))
    ∧ (r.state = .parked → start + (s.lineClass l).parkRelease ≤ s.now →
        exec (.disconnect l) s
          = .next ((u.setLine l { r.enter .idle with hook := .on }).report l .lineUnparked))
    ∧ (r.state = .idle ∨ r.state = .ringWait ∨ r.state = .ringing →
        exec (.disconnect l) s = .next (u.setLine l { r with hook := .on }))
    ∧ (r.state = .outOfService → exec (.disconnect l) s = .next u)

/-! ## Recall and release (chapter 4) -/

/-- GIVE TONE by the holder of a line in RECALL (R77): with the wanted digits already dialled the line goes to HELD with DIALING
COMPLETE; with some dialled or one in progress to DIGITS with the interdigit timer; else it asks for a tap and starts the
first-digit timer.
Its checks are BAD VALUE for a line above 63 or a count above 16, NOT HOLDER, and LINE ACTIVE in another state, in that order. -/
def Obligations.GiveToneTakesTheCallBackToDialling : Prop :=
  (∀ (s : State) (p : Port) (l : LineNo) (n : Byte) (rest : List ReplyItem), Consistent s →
    Asks s p 6 [byteOf l.val, n] rest → n.toNat ≤ 16 → (s.line l).holder = some p → (s.line l).state = .recalling →
    let r := s.line l
    let k := r.digits.length
    let c := s.lineClass l
    let u := taken s p rest
    let given : LineRecord :=
      { r with recallMark := true, offer := .claimed, dialling := some c.dialling, digits := [], delivered := k,
               expected := if n.toNat = 0 then 0 else n.toNat - k, timer := none }
    let carried := byteOf k :: r.digits.map fun d => byteOf d.val
    (0 < n.toNat → n.toNat ≤ k →
        exec (.giveTone p) s
          = .next ((((u.setLine l given).report l (.dialingComplete k)).modLine l (·.enter .held)).respond p 6#8
              (.okWith ([5#8, byteOf ((s.tone.tapOf l).getD 255)] ++ carried))))
    ∧ ((n.toNat = 0 ∨ k < n.toNat) → (0 < k ∨ r.digitInProgress = some true) →
        exec (.giveTone p) s
          = .next ((u.setLine l { given.enter .digits with timer := some ⟨.interdigit, s.now + c.interdigitTimeout⟩ }).respond
              p 6#8 (.okWith ([4#8, byteOf ((s.tone.tapOf l).getD 255)] ++ carried))))
    ∧ (k = 0 → r.digitInProgress ≠ some true →
        let t := ((u.setLine l given).askTone l).startTimer l .firstDigit c.firstDigitTimeout
        exec (.giveTone p) s
          = .next (t.respond p 6#8
              (.okWith [byteOf (t.line l).state.code, byteOf ((t.tone.tapOf l).getD 255), 0#8])))) ∧
  (∀ (s : State) (p : Port) (b n : Byte) (rest : List ReplyItem), Settled s → Asks s p 6 [b, n] rest →
     let refusedWith (x : Result) : Prop := exec (.giveTone p) s = .next ((taken s p rest).respond p 6#8 (.refuse x))
     ((64 ≤ b.toNat ∨ 16 < n.toNat) → refusedWith .badValue)
     ∧ ∀ l : LineNo, b = byteOf l.val → n.toNat ≤ 16 →
         ((s.line l).holder ≠ some p → refusedWith .notHolder)
         ∧ ((s.line l).holder = some p → (s.line l).state ≠ .recalling → refusedWith .lineActive))

/-- KEEP CALL (R78): from the holder of a line in RECALL it is answered with the number of digits in the buffer, the buffer is
emptied, the window stopped, the line HELD, and no report made; the checks are BAD VALUE, NOT HOLDER, LINE ACTIVE in that order; a
digit that ends afterwards is reported in-call. -/
def Obligations.KeepCallKeepsTheCall : Prop :=
  (∀ (s : State) (p : Port) (b : Byte) (rest : List ReplyItem), Settled s → Asks s p 7 [b] rest →
    (64 ≤ b.toNat → exec (.keepCall p) s = .next ((taken s p rest).respond p 7#8 (.refuse .badValue)))
    ∧ ∀ l : LineNo, b = byteOf l.val →
        ((s.line l).holder ≠ some p → exec (.keepCall p) s = .next ((taken s p rest).respond p 7#8 (.refuse .notHolder)))
        ∧ ((s.line l).holder = some p → (s.line l).state ≠ .recalling →
            exec (.keepCall p) s = .next ((taken s p rest).respond p 7#8 (.refuse .lineActive)))
        ∧ ((s.line l).holder = some p → (s.line l).state = .recalling →
            exec (.keepCall p) s
              = .next (((taken s p rest).setLine l ((s.line l).enter .held)).respond p 7#8
                  (.okWith [byteOf (s.line l).digits.length]))
            ∧ ((s.line l).enter .held).holder = some p ∧ ((s.line l).enter .held).digits = []
            ∧ ((s.line l).enter .held).timer = none))
  ∧ ∀ (s : State) (l : LineNo) (at_ : Ms) (d : Digit) (n : Nat) (es : List ScanEvent), Settled s →
      (s.line l).state = .held → s.eventsOf l = .digitEnd at_ (.digit d) n :: es →
      exec (.digitEnd l) s = .next ((s.setEvents l es).report l (.digit d true))

/-- RELEASE by the holder (R83, R84, R85): a CLEARED line goes to IDLE, or originates when reorigination is pending; an off-hook line
is parked with RELEASED OFF-HOOK and its pulse count is to be discarded; ringing ends and the line is IDLE whatever its return
state. A port that is not the holder is refused NOT HOLDER. -/
def Obligations.ReleaseGivesTheLineBack : Prop :=
  ∀ (s : State) (p : Port) (l : LineNo) (rest : List ReplyItem), Consistent s → Asks s p 8 [byteOf l.val] rest →
    let r := s.line l
    let u := taken s p rest
    (r.holder = some p → r.state = .cleared → r.reorigination ≠ some true →
        exec (.release p) s = .next ((u.setLine l (r.enter .idle)).respond p 8#8 .ok))
    ∧ (r.holder = some p → r.state = .cleared → r.reorigination = some true →
        exec (.release p) s
          = .next (((u.setLine l { r with holder := none, timer := none, reorigination := none }).originate l).respond p 8#8 .ok))
    ∧ (r.holder = some p → r.state.originating = true ∨ r.state = .held ∨ r.state = .recalling → r.hook = .off →
        ∃ t, exec (.release p) s = .next t
          ∧ t.line l = { r.enter .parked with parkReason := some .releasedOffHook }
          ∧ t.commandsOf l = s.commandsOf l ++ [.discardPulseCount]
          ∧ (∀ k : Fin 12, t.tone.taps[k] ≠ some l) ∧ (∀ w ∈ t.tone.queue, w.line ≠ l)
          ∧ QueuesExtend (u.report l (.lineParked .releasedOffHook)) t
          ∧ OnlyToneChanges s t l ∧ (t.port p).sent = (s.port p).sent ++ [responseFrame 8#8 .ok])
    ∧ (r.holder = some p → r.state = .ringWait ∨ r.state = .ringing →
        ∃ t, exec (.release p) s = .next t ∧ t.line l = r.enter .idle
          ∧ t.entry l = none ∧ t.request l = none ∧ t.relay l = .released
          ∧ QueuesExtend (ringStopReport u l .release) t
          ∧ OnlyRingChanges s t l ∧ (t.port p).sent = (s.port p).sent ++ [responseFrame 8#8 .ok])
    ∧ (r.holder ≠ some p → exec (.release p) s = .next (u.respond p 8#8 (.refuse .notHolder)))

/-- The expiries of the supervision timer (R64, R65, R76, R81, R83, R18): each is taken once its deadline has passed in the state
its purpose runs in.
The end of a claim window and of a tone delay (R51, R52, R61): an offer in its HOME stage passes to a PRESENT alternate with a
full window, and otherwise the line parks with NO CONTROLLER; a line still waiting for tone is reported once and keeps its place
and its timer. -/
def Obligations.TimersAndDeadlinesMoveTheLine : Prop :=
  (∀ (s : State) (l : LineNo) (d : Ms), Consistent s → d ≤ s.now →
     let r := s.line l
     (r.timer = some ⟨.interdigit, d⟩ → r.recallMark = false →
         exec (.interdigitExpiry l) s
           = .next ((s.report l (.interdigitTimeout r.delivered r.expected)).setLine l { r with timer := none }))
     ∧ (r.timer = some ⟨.interdigit, d⟩ → r.recallMark = true →
         exec (.interdigitExpiry l) s
           = .next ((s.report l (.recallLapsed (.interdigit r.delivered r.expected))).setLine l (r.enter .held)))
     ∧ (r.timer = some ⟨.recallWindow, d⟩ →
         exec (.recallWindowExpiry l) s
           = .next ((s.report l (.recallLapsed (.window r.digits.length))).setLine l (r.enter .held)))
     ∧ (r.timer = some ⟨.releaseWait, d⟩ → r.reorigination ≠ some true →
         exec (.releaseWaitExpiry l) s = .next (s.setLine l (r.enter .idle)))
     ∧ (r.timer = some ⟨.releaseWait, d⟩ → r.reorigination = some true →
         exec (.releaseWaitExpiry l) s
           = .next ((s.setLine l { r with holder := none, timer := none, reorigination := none }).originate l))
     ∧ (r.timer = some ⟨.parkRelease, d⟩ →
         exec (.parkReleaseExpiry l) s = .next ((s.setLine l (r.enter .idle)).report l .lineUnparked))
     ∧ (r.timer = some ⟨.firstDigit, d⟩ → r.hook = .off →
         ∃ t, exec (.firstDigitExpiry l) s = .next t
           ∧ t.line l = (if r.recallMark then r.enter .held
                         else { r.enter .parked with parkReason := some .permanentSignal })
           ∧ (∀ k : Fin 12, t.tone.taps[k] ≠ some l) ∧ (∀ w ∈ t.tone.queue, w.line ≠ l)
           ∧ QueuesExtend (if r.recallMark then s.report l (.recallLapsed .firstDigit)
                           else (s.abandonOffer l .permanentSignal).report l (.lineParked .permanentSignal)) t
           ∧ OnlyToneChanges s t l)) ∧
  (∀ (s : State) (l : LineNo) (d : Ms), Consistent s → d ≤ s.now →
     let r := s.line l
     let c := s.lineClass l
     (∀ q, r.offerDeadline = some d → r.state.originating = true → r.offer = .home → c.alternate = some q → s.present q = true →
         exec (.offerAdvance l) s
           = .next ((s.setLine l { r with
               offer := .alternate, offeredPort := some q, offerDeadline := some (s.now + c.claimWindow) }).sendOriginate l))
     ∧ (r.offerDeadline = some d → r.state.originating = true → r.hook = .off →
         (r.offer = .alternate ∨ (r.offer = .home ∧ ∀ q, c.alternate = some q → s.present q = false)) →
         ∃ t, exec (.offerAdvance l) s = .next t
           ∧ t.line l = { r.enter .parked with parkReason := some .noController }
           ∧ (∀ k : Fin 12, t.tone.taps[k] ≠ some l) ∧ (∀ w ∈ t.tone.queue, w.line ≠ l)
           ∧ QueuesExtend ((s.abandonOffer l .noController).report l (.lineParked .noController)) t
           ∧ OnlyToneChanges s t l)
     ∧ (∀ w, r.state = .toneWait → r.toneDelayReported = some false → r.toneWaitStart = some w → (⟨l, d⟩ : ToneWaiter) ∈ s.tone.queue →
         exec (.toneDelayExpiry l) s
           = .next ((s.setLine l { r with toneDelayReported := some true }).report l
               (.toneDelay (s.now - w) (s.tone.position l) s.tone.inUse s.tone.currentLimit))))

/-! ## Cadence programs (chapter 5) -/

/-- The shape of a step list (R90): the cycle length is the sum of the lengths, position i starts at the sum of the lengths before
it, and a cycle slot is ON exactly when it lies within an ON step.
WRITE STEPS loads the step list of a program that is not in use (R88, R91): positions from the list with fresh codes, the others
clear, the shape worked out, the program DRAFT. The answer is OK with the cycle length, the step count, and the start and kind of each
step (R172), and no report is made. A READY program in use is refused IN USE; before that BAD VALUE is answered for a program above 15, a
list that is empty or longer than 8, a kind other than ON or OFF, a length outside 1-30, or a marker that is neither yes nor no. A check
code is written as the pair of step number and contents, which is the model's representation (log 7). -/
def Obligations.WriteStepsLoadsADraft : Prop :=
  (∀ fs : List StepFields,
     (shapeOf fs).count = fs.length
     ∧ (shapeOf fs).cycle = (fs.map (·.length)).sum
     ∧ (∀ i, i < fs.length → (shapeOf fs).starts[i]? = some ((fs.take i).map (·.length)).sum)
     ∧ ∀ n, n ∈ (shapeOf fs).onSlots ↔
         ∃ i, ∃ f, fs[i]? = some f ∧ f.kind = .on ∧ ((fs.take i).map (·.length)).sum ≤ n
           ∧ n < ((fs.take i).map (·.length)).sum + f.length) ∧
  (∀ (s : State) (p : Port) (g : ProgramNo) (fs : List StepFields) (rest : List ReplyItem), Settled s →
     Asks s p 19 ([byteOf g.val, byteOf fs.length] ++ stepBytes fs) rest →
     1 ≤ fs.length → fs.length ≤ 8 → (∀ f ∈ fs, 1 ≤ f.length ∧ f.length ≤ 30) →
     (¬((s.program g).state = .ready ∧ 0 < (s.program g).uses) →
         ∃ t, exec (.writeSteps p) s = .next t
           ∧ (∀ i : Fin 8, t.step (stepNo g i.val) = ⟨fs[i.val]?, ⟨stepNo g i.val, fs[i.val]?⟩⟩)
           ∧ (∀ n : StepNo, n.val / 8 ≠ g.val → t.step n = s.step n)
           ∧ t.program g = ⟨.draft, some (shapeOf fs), none, none, (s.program g).uses, none⟩
           ∧ (∀ h, h ≠ g → t.program h = s.program h)
           ∧ t = { (taken s p rest).respond p 19#8 (.okWith
                     ([byteOf (fs.map (·.length)).sum, byteOf fs.length]
                      ++ ((shapeOf fs).starts.zip fs).flatMap fun x => [byteOf x.1, byteOf (if x.2.kind = .on then 1 else 0)]))
                   with steps := t.steps, programs := t.programs })
     ∧ ((s.program g).state = .ready → 0 < (s.program g).uses →
         exec (.writeSteps p) s = .next ((taken s p rest).respond p 19#8 (.refuse .inUse)))) ∧
  (∀ (s : State) (p : Port) (g : Byte) (es : List (Byte × Byte × Byte)) (rest : List ReplyItem), Settled s → es.length < 256 →
     Asks s p 19 ([g, byteOf es.length] ++ es.flatMap fun e => [e.1, e.2.1, e.2.2]) rest →
     (15 < g.toNat ∨ es = [] ∨ 8 < es.length
       ∨ ∃ e ∈ es, 1 < e.1.toNat ∨ e.2.1.toNat < 1 ∨ 30 < e.2.1.toNat ∨ 1 < e.2.2.toNat) →
     exec (.writeSteps p) s = .next ((taken s p rest).respond p 19#8 (.refuse .badValue)))

/-- COMMIT PROGRAM makes a DRAFT READY when every test of R92 passes, and refuses it BAD VALUE with the cause of the first test that
fails; a program that is no DRAFT is NOT READY. The tests in their order: every step passes its check, one is ON, the marker is on
the last step alone, the cycle length divides 30, and the follow-on is none, the program itself or a READY program. The cause stands
beside the frame, which carries no data (log 12). Before all of them a program above 15, a follow-on that is neither none nor 0-15, and
a switch-after of 0 with a follow-on are BAD VALUE. -/
def Obligations.CommitValidatesADraft : Prop :=
  (∀ (s : State) (p : Port) (g : ProgramNo) (follow : Option ProgramNo) (n : Byte) (rest : List ReplyItem), Settled s →
    Asks s p 20 [byteOf g.val, byteOf ((follow.map (·.val)).getD 255), n] rest → (follow = none ∨ 1 ≤ n.toNat) →
    let u := taken s p rest
    let fs := s.blockFields g (s.stepCount g)
    let checked : Prop := ∀ i, i < s.stepCount g → (s.readStep g i).isSome
    let rings : Prop := ∃ f ∈ fs, f.kind = .on
    let marked : Prop := (fs.filter (·.marker)).length = 1 ∧ ∃ f, fs.getLast? = some f ∧ f.marker = true
    let divides : Prop := 30 % (s.shape g).cycle = 0
    let followed : Prop := ∀ f, follow = some f → f = g ∨ (s.program f).state = .ready
    let passes : Prop := checked ∧ rings ∧ marked ∧ divides ∧ followed
    let refusedFor (c : CommitCause) : Prop := exec (.commitProgram p) s = .next (u.respond p 20#8 (.refuseFor .badValue c))
    ((s.program g).state = .draft → passes →
        exec (.commitProgram p) s
          = .next ((u.setProgram g { s.program g with
              state := .ready, followOn := follow, switchAfter := follow.map fun _ => n.toNat }).respond p 20#8
            (.okWith (u.shapeData g))))
    ∧ ((s.program g).state = .draft → ¬passes → ∃ c, refusedFor c)
    ∧ (∀ i, (s.program g).state = .draft → i < s.stepCount g → s.readStep g i = none →
        (∀ j, j < i → (s.readStep g j).isSome) → refusedFor (.check i))
    ∧ ((s.program g).state = .draft → checked → ¬rings → refusedFor .noOnStep)
    ∧ ((s.program g).state = .draft → checked → rings → ¬marked → refusedFor .marker)
    ∧ ((s.program g).state = .draft → checked → rings → marked → ¬divides → refusedFor .cycleLength)
    ∧ ((s.program g).state = .draft → checked → rings → marked → divides → ¬followed → refusedFor .followOn)
    ∧ ((s.program g).state ≠ .draft → exec (.commitProgram p) s = .next (u.respond p 20#8 (.refuse .notReady)))
    ∧ (∀ (v : State) (c : CommitCause),
        let t := v.respond p 20#8 (.refuseFor .badValue c)
        (t.port p).sent = (v.port p).sent ++ [responseFrame 20#8 (.refuse .badValue)]
        ∧ (t.port p).notes = (v.port p).notes ++ [((v.port p).sent.length, .cause c)])) ∧
  (∀ (s : State) (p : Port) (g follow n : Byte) (rest : List ReplyItem), Settled s → Asks s p 20 [g, follow, n] rest →
     (15 < g.toNat ∨ (15 < follow.toNat ∧ follow.toNat ≠ 255) ∨ (follow.toNat ≠ 255 ∧ n.toNat = 0)) →
     exec (.commitProgram p) s = .next ((taken s p rest).respond p 20#8 (.refuse .badValue)))

/-- ERASE PROGRAM clears an unused program that no other names (R94), is answered OK and makes no report, and READ PROGRAM of a program that is not READY, or whose steps
all pass, shows the program and changes nothing (R99); the step starts and the ON pattern stand beside the data (log 16). A program
number above 15 is refused BAD VALUE by both.
The check code of a cleared step is the pair of its number and its absent contents, the model's representation (log 7). -/
def Obligations.EraseClearsAndReadChangesNothing : Prop :=
  (∀ (s : State) (p : Port) (g : ProgramNo) (rest : List ReplyItem), Settled s →
    (Asks s p 21 [byteOf g.val] rest → (s.program g).uses = 0 →
        (∀ h, h ≠ g → ¬((s.program h).state = .ready ∧ (s.program h).followOn = some g)) →
        ∃ t, exec (.eraseProgram p) s = .next t
          ∧ (∀ i : Fin 8, t.step (stepNo g i.val) = ⟨none, ⟨stepNo g i.val, none⟩⟩)
          ∧ (∀ n : StepNo, n.val / 8 ≠ g.val → t.step n = s.step n)
          ∧ t.program g = ⟨.empty, none, none, none, 0, none⟩
          ∧ (∀ h, h ≠ g → t.program h = s.program h)
          ∧ t = { (taken s p rest).respond p 21#8 .ok with steps := t.steps, programs := t.programs })
    ∧ (Asks s p 21 [byteOf g.val] rest →
        (0 < (s.program g).uses ∨ ∃ h, h ≠ g ∧ (s.program h).state = .ready ∧ (s.program h).followOn = some g) →
        exec (.eraseProgram p) s = .next ((taken s p rest).respond p 21#8 (.refuse .inUse)))
    ∧ (Asks s p 22 [byteOf g.val] rest →
        ((s.program g).state ≠ .ready ∨ ∀ i, i < s.stepCount g → (s.readStep g i).isSome) →
        exec (.readProgram p) s
          = .next ((taken s p rest).respond p 22#8 (.okShowing ((taken s p rest).programData g) (s.program g).shape))
        ∧ ∀ sh, (s.program g).shape = some sh →
            (((taken s p rest).respond p 22#8 (.okShowing ((taken s p rest).programData g) (s.program g).shape)).port p).notes
              = (s.port p).notes ++ [((s.port p).sent.length, .pattern sh.starts sh.onSlots)])) ∧
  (∀ (s : State) (p : Port) (g : Byte) (rest : List ReplyItem), Settled s → 15 < g.toNat →
     (Asks s p 21 [g] rest → exec (.eraseProgram p) s = .next ((taken s p rest).respond p 21#8 (.refuse .badValue)))
     ∧ (Asks s p 22 [g] rest → exec (.readProgram p) s = .next ((taken s p rest).respond p 22#8 (.refuse .badValue))))

/-- A step of a READY program that fails its check faults the program and ends every ring on it (R96, R97, R99): the program is
FAULTED at the failing position with its shape and follow-on kept and its use count 0, no entry or request refers to it, each line
whose ring ended is in its return state with RING END told to the scanner for an entry, and RING FAILED with cause CADENCE FAULT is
reported for each in ascending line order.
So it is after a READ PROGRAM that meets such a step, whose response is made after the fault, and after a STEP_END at which an entry
enters one: its first step, its next step, or the first step of its next cycle, with the counts of the step that ended (R126).
The comparison is that of a pair, the model's check code (log 7), and a clear step fails its read (log 29). -/
def Obligations.IntegrityFaultEndsEveryRingOnTheProgram : Prop :=
  (∀ (s : State) (p : Port) (g : ProgramNo) (i : Nat) (rest : List ReplyItem), Consistent s →
     Asks s p 22 [byteOf g.val] rest → (s.program g).state = .ready → i < s.stepCount g → s.readStep g i = none →
     (∀ j, j < i → (s.readStep g j).isSome) →
     ∃ t, exec (.readProgram p) s = .next t ∧ FaultedWithItsRings (taken s p rest) t g i
       ∧ (t.port p).sent = (s.port p).sent ++ [responseFrame 22#8 (.okWith (t.programData g))]) ∧
  (∀ (s : State) (l : LineNo) (e : RingEntry) (i : Nat) (counted : RingEntry), Consistent s →
     s.entry l = some e → e.slotsLeft = 0 → (s.program e.program).state = .ready → s.readStep e.program i = none →
     let inFeed (st : CurrentStep) : RingEntry :=
       { e with missed := if st.kind = .off then e.missed else if e.fed then 0 else 1 }
     let switches (f : ProgramNo) : Prop :=
       (s.program e.program).followOn = some f ∧ (s.program e.program).switchAfter = some (e.cyclesInProgram + 1)
     ((e.step = none ∧ i = 0 ∧ counted = e)
       ∨ (∃ st, e.step = some st ∧ (st.kind = .off ∨ e.fed = true ∨ e.missed = 0)
           ∧ ((st.marker = false ∧ i = st.index + 1 ∧ counted = inFeed st)
              ∨ (st.marker = true ∧ 2 ≤ e.cycles ∧ e.finishing = false ∧ (∀ f, ¬switches f) ∧ i = 0
                 ∧ counted = { inFeed st with cycles := e.cycles - 1, cyclesInProgram := e.cyclesInProgram + 1 })))) →
     ∃ t, exec (.stepEnd l) s = .next t ∧ FaultedWithItsRings (s.setEntry l (some counted)) t e.program i)

/-! ## Ring allocation (chapter 6) -/

/-- A placement attempt takes the first offset, in the order from the pointer, at which the load fits the current budget in every slot
where the entry would be ON (R106); none is taken when no offset fits. Its candidates are the supplies that the party's route allows
and whose turn no other request holds (R105, R116). Of the candidates with an offset that fits it takes the one whose map has the
smaller sum, Supply 1 on equal sums (R106); the attempt is then placed, or grounded when the line's ground state is ACTIVE (R108); it
fails when no candidate has one.
A pass-over adds one to a request's count, which stops at 255; at the turn threshold the request takes the turn on each supply its
route allows that has no turn holder (R115, R116). A request that leaves the queue releases its turns; a released turn goes to the
first request in queue order that can use the supply and whose count has reached the threshold, and a pass is due (R116).
The pass at the end of an event changes nothing when every request fails its attempt, and places or fails the one request that
waits alone as its attempt says (R114). -/
def Obligations.AttemptTakesTheFirstFittingOffset : Prop :=
  (∀ (r : SupplyRecord) (sh : Shape) (load : Nat),
    (∀ o, r.findOffset sh load = some o →
      ∃ k, k < sh.cycle ∧ o = (r.pointer.val + k) % sh.cycle
        ∧ (∀ x : Fin 30, sh.onAt o x = true → r.map[x] + load ≤ r.current)
        ∧ ∀ j, j < k → ∃ x : Fin 30, sh.onAt ((r.pointer.val + j) % sh.cycle) x = true ∧ r.current < r.map[x] + load)
    ∧ (r.findOffset sh load = none →
        ∀ j, j < sh.cycle → ∃ x : Fin 30, sh.onAt ((r.pointer.val + j) % sh.cycle) x = true ∧ r.current < r.map[x] + load)) ∧
  (∀ (s : State) (l : LineNo) (n : Nat),
     (∀ sup, sup ∈ s.candidates l n ↔
       sup ∈ s.partySupplies l n ∧ ((s.supply sup).turn = none ∨ (s.supply sup).turn = some l))
     ∧ ∀ q, s.party l n = some q → s.partySupplies l n
         = (match q.route with
            | .loopAny => [.one, .two]
            | .loop1 | .tip1 | .ring1 => [.one]
            | .loop2 | .tip2 | .ring2 => [.two])) ∧
  (∀ (s : State) (w : WaitingRequest),
     let cs := s.candidates w.line w.party
     let found (sup : Supply) : Option Nat := (s.supply sup).findOffset (s.shape w.program) (s.partyLoad w.line w.party)
     let sum (sup : Supply) : Nat := (s.supply sup).map.toList.sum
     ((∀ sup ∈ cs, found sup = none) → s.attempt w = .failed)
     ∧ ∀ sup o, sup ∈ cs → found sup = some o →
         (∀ u ∈ cs, u ≠ sup → found u = none ∨ sum sup < sum u ∨ (sum sup = sum u ∧ sup = .one)) →
         s.attempt w = if (s.scan w.line).ground = true then .grounded else .placed sup o) ∧
  (∀ (s : State) (w : WaitingRequest) (sup : Supply) (o : Nat), s.attempt w = .placed sup o →
     sup ∈ s.partySupplies w.line w.party ∧ ((s.supply sup).turn = none ∨ (s.supply sup).turn = some w.line)
     ∧ (s.supply sup).findOffset (s.shape w.program) (s.partyLoad w.line w.party) = some o ∧ (s.scan w.line).ground = false) ∧
  (∀ (s : State) (l : LineNo) (w : WaitingRequest), s.request l = some w →
     let t := s.passOver l
     (w.passOvers < 255 →
         t.request l = some { w with passOvers := w.passOvers + 1 } ∧ (∀ k, k ≠ l → t.request k = s.request k)
         ∧ ∀ u, (t.supply u).turn
             = if w.passOvers + 1 = s.alloc.turnThreshold ∧ u ∈ s.partySupplies l w.party ∧ (s.supply u).turn = none then some l
               else (s.supply u).turn)
     ∧ (255 ≤ w.passOvers → t = s)) ∧
  (∀ (s : State) (l : LineNo),
     let t := s.unqueue l
     t.alloc.queue = s.alloc.queue.filter (·.line != l)
     ∧ (∀ u, (t.supply u).turn
         = if (s.supply u).turn = some l then
             (t.alloc.queue.find? fun w =>
               decide (u ∈ s.partySupplies w.line w.party) && decide (s.alloc.turnThreshold ≤ w.passOvers)).map (·.line)
           else (s.supply u).turn)
     ∧ t.passDue = (s.passDue || s.alloc.one.turn == some l || s.alloc.two.turn == some l)) ∧
  (∀ s : State, s.passDue = true → s.tapReturned = false →
     ((∀ w ∈ s.alloc.queue, s.attempt w = .failed) → s.finish = { s with passDue := false })
     ∧ (∀ w sup o, s.alloc.queue = [w] → s.attempt w = .placed sup o → s.finish = { s.place w sup o with passDue := false })
     ∧ (∀ w, s.alloc.queue = [w] → s.attempt w = .grounded → s.finish = { s.groundFault w with passDue := false }))

/-- RING that is refused (R110): the first check that applies gives the result, and nothing else changes. The first of all is BAD
VALUE for a line above 63, a party outside 1-4, a program above 15, a ring count of 0, or a priority that is not one of the three. -/
def Obligations.RingChecksInOrder : Prop :=
  (∀ (s : State) (p : Port) (line party g n pri : Byte) (rest : List ReplyItem), Settled s → Asks s p 9 [line, party, g, n, pri] rest →
    (pri = 3#8 → p = .M) →
    (63 < line.toNat ∨ party.toNat < 1 ∨ 4 < party.toNat ∨ 15 < g.toNat ∨ n.toNat < 1 ∨ pri.toNat < 1 ∨ 3 < pri.toNat) →
    exec (.ring p) s = .next ((taken s p rest).respond p 9#8 (.refuse .badValue))) ∧
  (∀ (s : State) (p : Port) (l : LineNo) (party : Fin 4) (g : ProgramNo) (n : Byte) (pri : Priority) (rest : List ReplyItem),
    Settled s → Asks s p 9 [byteOf l.val, byteOf (party.val + 1), byteOf g.val, n, byteOf pri.code] rest →
    (pri = .test → p = .M) → 1 ≤ n.toNat →
    let r := s.line l
    let load := s.partyLoad l (party.val + 1)
    let heavy : Prop := ∀ sup ∈ s.partySupplies l (party.val + 1), (s.supply sup).normal < load
    let refusedWith (x : Result) : Prop := exec (.ring p) s = .next ((taken s p rest).respond p 9#8 (.refuse x))
    (r.parties.length < party.val + 1 → refusedWith .badValue)
    ∧ (party.val + 1 ≤ r.parties.length → (s.program g).state ≠ .ready → refusedWith .notReady)
    ∧ (party.val + 1 ≤ r.parties.length → (s.program g).state = .ready → heavy → refusedWith .noCapacity)
    ∧ (party.val + 1 ≤ r.parties.length → (s.program g).state = .ready → ¬heavy →
        (r.state = .outOfService ∨ r.state = .parked → refusedWith .lineActive)
        ∧ (∀ q, r.state ≠ .outOfService → r.state ≠ .parked → r.holder = some q → q ≠ p → refusedWith .heldElsewhere)
        ∧ ((r.holder = none ∨ r.holder = some p) →
            (r.state.originating = true ∨ r.state = .held ∨ r.state = .recalling
              ∨ (r.state = .cleared ∧ r.reorigination = some true)) → refusedWith .lineActive)
        ∧ (r.holder = some p → r.state = .ringWait ∨ r.state = .ringing → refusedWith .ringActive)))

/-- An accepted RING with nobody waiting (R106, R107, R108, R111): placed at once it makes the ring entry, raises the map, moves the
pointer and gives a new stamp; with a grounded line it ends in the return state; when it finds no place it waits.
A RING that finds others waiting joins the queue in its place by order, and the pass runs (R111, R112, R114): it waits when no
request finds a place; and one that is placed past a request that failed ahead of it passes that request over, which may give it
the turn (R115, R116). -/
def Obligations.RingIsAttemptedAtOnce : Prop :=
  ∀ (s : State) (p : Port) (l : LineNo) (party : Fin 4) (g : ProgramNo) (n : Byte) (pri : Priority) (rest : List ReplyItem),
    Consistent s → Asks s p 9 [byteOf l.val, byteOf (party.val + 1), byteOf g.val, n, byteOf pri.code] rest →
    (pri = .test → p = .M) → 1 ≤ n.toNat → party.val + 1 ≤ (s.line l).parties.length → (s.program g).state = .ready →
    (∃ sup ∈ s.partySupplies l (party.val + 1), s.partyLoad l (party.val + 1) ≤ (s.supply sup).normal) →
    ((s.line l).state = .idle
      ∨ ((s.line l).state = .cleared ∧ (s.line l).holder = some p ∧ (s.line l).reorigination ≠ some true)) →
    let w := ringRequest s p l (party.val + 1) g n.toNat pri
    let waiting : WaitingRequest := { w with deadline := s.now + 1000 * s.alloc.waitLimit }
    let back : ReturnState := if (s.line l).state = .cleared then .cleared else .idle
    let home : LineState := if (s.line l).state = .cleared then .cleared else .idle
    let entry (sup : Supply) (o : Nat) : RingEntry :=
      { party := party.val + 1, sup := sup, offset := o, program := g, step := none,
        slotsLeft := (s.shape g).cycle - (s.clock.slot.val + (s.shape g).cycle - o % (s.shape g).cycle) % (s.shape g).cycle,
        cycles := n.toNat, cyclesInProgram := 0, requester := p, priority := pri, age := s.now,
        stamp := s.alloc.lastStamp + 1, fed := false, missed := 0, finishing := false }
    let raised (sup : Supply) (o : Nat) : SupplyRecord :=
      { (s.supply sup).raise (s.shape g) o (s.partyLoad l (party.val + 1)) with pointer := Fin.ofNat 30 (o + 1) }
    (s.alloc.queue = [] → s.alloc.one.turn = none → s.alloc.two.turn = none →
      (∀ sup o, s.attempt w = .placed sup o →
        ∃ t, exec (.ring p) s = .next t
          ∧ t.line l = { (s.line l).enter .ringing with holder := some p, returnState := some back }
          ∧ t.entry l = some (entry sup o)
          ∧ t.supply sup = raised sup o
          ∧ t.alloc.lastStamp = s.alloc.lastStamp + 1 ∧ (t.program g).uses = (s.program g).uses + 1
          ∧ (t.port p).sent = (s.port p).sent ++ [responseFrame 9#8 (.okWith [8#8])]
          ∧ OnlyRingChanges s t l)
      ∧ (s.attempt w = .failed →
        ∃ t, exec (.ring p) s = .next t
          ∧ t.line l = { (s.line l).enter .ringWait with holder := some p, returnState := some back }
          ∧ t.alloc.queue = [waiting]
          ∧ t.entry l = none ∧ (t.program g).uses = (s.program g).uses + 1
          ∧ (t.port p).sent = (s.port p).sent ++ [responseFrame 9#8 (.okWith [7#8])]
          ∧ OnlyRingChanges s t l)
      ∧ (s.attempt w = .grounded →
        ∃ t, exec (.ring p) s = .next t
          ∧ (t.line l).state = home ∧ t.alloc = s.alloc ∧ t.entry l = none ∧ t.program g = s.program g
          ∧ (t.port p).sent = (s.port p).sent ++ [responseFrame 9#8 (.okWith [byteOf home.code])]
          ∧ QueuesExtend (((taken s p rest).modLine l fun r => { r with holder := some p }).report l
              (.ringFailed .groundFault (party.val + 1) g n.toNat)) t
          ∧ OnlyRingChanges s t l))
    ∧ (s.alloc.queue ≠ [] → (∀ x ∈ s.alloc.queue, s.attempt x = .failed) → s.attempt w = .failed →
        ∃ t, exec (.ring p) s = .next t
          ∧ t.line l = { (s.line l).enter .ringWait with holder := some p, returnState := some back }
          ∧ t.alloc = { s.alloc with queue := insertRequest waiting s.alloc.queue }
          ∧ t.entries = s.entries ∧ (∀ k, k ≠ l → t.line k = s.line k) ∧ (t.program g).uses = (s.program g).uses + 1
          ∧ (t.port p).sent = (s.port p).sent ++ [responseFrame 9#8 (.okWith [7#8])]
          ∧ OnlyRingChanges s t l)
    ∧ (∀ x sup o, RingAccountsRight s → s.alloc.queue = [x] → waiting.before x = false → s.attempt x = .failed →
        s.attempt w = .placed sup o → x.passOvers < 255 →
        let passed : Prop := sup ∈ s.candidates x.line x.party
        ∃ t, exec (.ring p) s = .next t
          ∧ t.line l = { (s.line l).enter .ringing with holder := some p, returnState := some back }
          ∧ t.entry l = some (entry sup o) ∧ (t.supply sup).map = (raised sup o).map
          ∧ t.line x.line = s.line x.line
          ∧ (passed → t.alloc.queue = [{ x with passOvers := x.passOvers + 1 }]) ∧ (¬passed → t.alloc.queue = [x])
          ∧ (∀ u, (t.supply u).turn
              = if passed ∧ x.passOvers + 1 = s.alloc.turnThreshold ∧ u ∈ s.partySupplies x.line x.party
                   ∧ (s.supply u).turn = none then some x.line
                else (s.supply u).turn)
          ∧ (t.port p).sent = (s.port p).sent ++ [responseFrame 9#8 (.okWith [8#8])]
          ∧ OnlyRingChanges s t l)

/-- SET BUDGET writes the four budgets and the current budgets follow the plant state the Allocator has taken (R104, R120; log 9);
values above 40, or an economy budget above its normal budget, are refused.
SET RING LIMITS, SET TONE LIMITS and SET PLANT LIMITS write their values in range and are refused BAD VALUE outside (R121, R59,
R147): a raised or equal turn threshold changes no turn, a lowered one gives each supply that has no turn holder to the first request
in queue order that may use it and whose count is at or above it, and no pass runs (R116, R121); the current tap limit follows the plant state the pool has taken (log 9),
and every qualification run is discarded while the plant state stays. -/
def Obligations.LimitRequestsWriteTheirValues : Prop :=
  (∀ (s : State) (p : Port) (n1 e1 n2 e2 : Byte) (rest : List ReplyItem), Settled s → Asks s p 23 [n1, e1, n2, e2] rest →
     (n1.toNat ≤ 40 → n2.toNat ≤ 40 → e1.toNat ≤ n1.toNat → e2.toNat ≤ n2.toNat →
         ∃ t, exec (.setBudget p) s = .next t
           ∧ t.alloc.one.normal = n1.toNat ∧ t.alloc.one.economy = e1.toNat
           ∧ t.alloc.two.normal = n2.toNat ∧ t.alloc.two.economy = e2.toNat
           ∧ t.alloc.one.current
               = (match s.alloc.plant with | .normal => n1.toNat | .economy => e1.toNat | .shed => 0)
           ∧ t.alloc.two.current
               = (match s.alloc.plant with | .normal => n2.toNat | .economy => e2.toNat | .shed => 0)
           ∧ (t.port p).sent = (s.port p).sent ++ [responseFrame 23#8 .ok]
           ∧ (∀ l, s.entry l = none → s.request l = none → t.line l = s.line l)
           ∧ t = { s with lines := t.lines, programs := t.programs, alloc := t.alloc, entries := t.entries,
                          relays := t.relays, indications := t.indications, queues := t.queues, ports := t.ports })
     ∧ ((40 < n1.toNat ∨ 40 < n2.toNat ∨ n1.toNat < e1.toNat ∨ n2.toNat < e2.toNat) →
         exec (.setBudget p) s = .next ((taken s p rest).respond p 23#8 (.refuse .badValue)))) ∧
  (∀ (s : State) (p : Port) (rest : List ReplyItem), Settled s →
     let u := taken s p rest
     (∀ w x : Byte, Asks s p 24 [w, x] rest →
       (1 ≤ w.toNat → w.toNat ≤ 120 → 1 ≤ x.toNat → s.alloc.turnThreshold ≤ x.toNat →
         exec (.setRingLimits p) s
           = .next ({ u with alloc := { u.alloc with waitLimit := w.toNat, turnThreshold := x.toNat } }.respond p 24#8 .ok))
       ∧ (1 ≤ w.toNat → w.toNat ≤ 120 → 1 ≤ x.toNat → x.toNat < s.alloc.turnThreshold →
           let turn (sup : Supply) : Option LineNo :=
             if (s.supply sup).turn = none then
               (s.alloc.queue.find? fun q =>
                 decide (sup ∈ s.partySupplies q.line q.party) && decide (x.toNat ≤ q.passOvers)).map (·.line)
             else (s.supply sup).turn
           exec (.setRingLimits p) s
             = .next ({ u with alloc := { u.alloc with
                 waitLimit := w.toNat, turnThreshold := x.toNat, one := { u.alloc.one with turn := turn .one },
                 two := { u.alloc.two with turn := turn .two } } }.respond p 24#8 .ok))
       ∧ ((w.toNat < 1 ∨ 120 < w.toNat ∨ x.toNat < 1) →
           exec (.setRingLimits p) s = .next (u.respond p 24#8 (.refuse .badValue))))
     ∧ (∀ e d x : Byte, Asks s p 26 [e, d, x] rest →
       (d.toNat ≤ e.toNat → e.toNat ≤ 12 → 1 ≤ x.toNat → x.toNat ≤ 30 →
         exec (.setToneLimits p) s
           = .next (((u.setTone { u.tone with
               economyLimit := e.toNat, shedLimit := d.toNat, delayThreshold := x.toNat }).setTapLimit
                 (match s.tone.plant with | .normal => 12 | .economy => e.toNat | .shed => d.toNat)).respond p 26#8 .ok))
       ∧ ((12 < e.toNat ∨ e.toNat < d.toNat ∨ x.toNat < 1 ∨ 30 < x.toNat) →
           exec (.setToneLimits p) s = .next (u.respond p 26#8 (.refuse .badValue))))
     ∧ (∀ k : PlantLimits, k.economyLevel < 65536 → k.shedLevel < 65536 → k.hysteresis < 256 → k.economyQualify < 65536 →
         k.shedQualify < 65536 → k.recoveryTime < 65536 → Asks s p 25 (plantBytes k) rest →
       (PlantLimitsValid k →
         exec (.setPlantLimits p) s
           = .next ((u.setPlant { u.plant with
               limits := k, economyRun := none, shedRun := none, recoveryRun := none }).respond p 25#8 .ok))
       ∧ (¬PlantLimitsValid k → exec (.setPlantLimits p) s = .next (u.respond p 25#8 (.refuse .badValue)))))

/-! ## Ringing (chapter 7) -/

/-- An answer (R134, R135, R9): a lift on a RINGING line removes its entry, one on a RING_WAIT line deletes its request, ANSWER is
reported, and the line is HELD by the requester, off-hook. An OFF-HOOK carries no step kind, an ANSWER the one it was qualified
in. -/
def Obligations.AnswerTakesTheLineToHeld : Prop :=
  ∀ (s : State) (l : LineNo) (es : List ScanEvent) (c : Instr) (how : Qualification) (kind : Option StepKind), Consistent s →
    ((c = .offHook l ∧ how = .offHook ∧ kind = none ∧ ∃ at_ run, s.eventsOf l = .offHook at_ run :: es)
      ∨ (c = .answer l ∧ ∃ at_ k run, kind = some k ∧ s.eventsOf l = .answer at_ how k run :: es)) →
    let after (t : State) : Prop :=
      t.line l = { (s.line l).enter .held with hook := .off } ∧ (t.line l).holder = (s.line l).holder
      ∧ t.entry l = none ∧ t.request l = none ∧ t.relay l = .released
      ∧ OnlyRingChanges (s.setEvents l es) t l
    (∀ e, s.entry l = some e →
      ∃ t, exec c s = .next t ∧ after t
        ∧ QueuesExtend ((s.setEvents l es).report l (.answer e.party (some e.sup) e.program how kind e.cycles)) t)
    ∧ (∀ w, s.request l = some w →
      ∃ t, exec c s = .next t ∧ after t
        ∧ QueuesExtend ((s.setEvents l es).report l (.answer w.party none w.program how none w.cycles)) t)

/-- RING STOP ends a ring at once in its return state; RING FINISH marks a ringing entry and ends a waiting ring; both are refused
NOT HOLDER for a port that does not hold the line and LINE ACTIVE in a state without ringing (R132, R137, R138). -/
def Obligations.RingStopAndRingFinish : Prop :=
  ∀ (s : State) (p : Port) (l : LineNo) (rest : List ReplyItem), Consistent s →
    let r := s.line l
    let u := taken s p rest
    (Asks s p 10 [byteOf l.val] rest → r.holder = some p → r.state = .ringing ∨ r.state = .ringWait →
        ∃ t, exec (.ringStop p) s = .next t ∧ t.line l = returnRecord s l
          ∧ t.entry l = none ∧ t.request l = none ∧ t.relay l = .released ∧ OnlyRingChanges s t l
          ∧ QueuesExtend (ringStopReport u l .stop) t
          ∧ (t.port p).sent = (s.port p).sent ++ [responseFrame 10#8 .ok])
    ∧ (∀ e, Asks s p 11 [byteOf l.val] rest → r.holder = some p → r.state = .ringing → s.entry l = some e →
        exec (.ringFinish p) s = .next ((u.setEntry l (some { e with finishing := true })).respond p 11#8 .ok))
    ∧ (Asks s p 11 [byteOf l.val] rest → r.holder = some p → r.state = .ringWait →
        ∃ t, exec (.ringFinish p) s = .next t ∧ t.line l = returnRecord s l ∧ t.request l = none ∧ OnlyRingChanges s t l
          ∧ QueuesExtend (ringStopReport u l .finish) t
          ∧ (t.port p).sent = (s.port p).sent ++ [responseFrame 11#8 .ok])
    ∧ (Asks s p 10 [byteOf l.val] rest → r.holder ≠ some p →
        exec (.ringStop p) s = .next (u.respond p 10#8 (.refuse .notHolder)))
    ∧ (Asks s p 10 [byteOf l.val] rest → r.holder = some p → r.state ≠ .ringing → r.state ≠ .ringWait →
        exec (.ringStop p) s = .next (u.respond p 10#8 (.refuse .lineActive)))
    ∧ (Asks s p 11 [byteOf l.val] rest → r.holder ≠ some p →
        exec (.ringFinish p) s = .next (u.respond p 11#8 (.refuse .notHolder)))
    ∧ (Asks s p 11 [byteOf l.val] rest → r.holder = some p → r.state ≠ .ringing → r.state ≠ .ringWait →
        exec (.ringFinish p) s = .next (u.respond p 11#8 (.refuse .lineActive)))

/-- BURST FED marks an entry that is in an ON step and is discarded elsewhere (R127); SLOT_BOUNDARY advances the slot counter from 29
back to 0 and takes one from every entry's slots left (R102, R125; the boundary carries the clock, log 2, and slots left stays 0
while a step end is waiting, log 20).
An entry whose slots left is 0 enters its next step when that is no cycle end (R125, R126, R127): the relay is driven to the supply
and leg of its route in an ON step and released in an OFF step, the scanner is told, and the burst mark is cleared; nothing else
changes. -/
def Obligations.SlotsBurstsAndSteps : Prop :=
  ((∀ (s : State) (l : LineNo) (b : Ms) (bs : List Ms), s.burstsOf l = b :: bs →
     (∀ (e : RingEntry) (st : CurrentStep), s.entry l = some e → e.step = some st → st.kind = .on →
         exec (.burstFed l) s = .next ((s.setBursts l bs).setEntry l (some { e with fed := true })))
     ∧ ((∀ (e : RingEntry) (st : CurrentStep), s.entry l = some e → e.step = some st → st.kind = .off) →
         exec (.burstFed l) s = .next (s.setBursts l bs)))
   ∧ ∀ s : State,
       ∃ t, exec .slotBoundary s = .next t
         ∧ t.clock.slot.val = (s.clock.slot.val + 1) % 30 ∧ t.clock.nextSlot = s.clock.nextSlot + 200
         ∧ t.now = max s.now s.clock.nextSlot ∧ t.clock.nextScan = s.clock.nextScan
         ∧ (∀ l, t.entry l = (s.entry l).map fun e => { e with slotsLeft := e.slotsLeft - 1 })
         ∧ t = { s with clock := t.clock, entries := t.entries }) ∧
  (∀ (s : State) (l : LineNo) (e : RingEntry) (i : Nat) (f : StepFields) (q : Party), Settled s →
     s.entry l = some e → e.slotsLeft = 0 → s.party l e.party = some q →
     ((e.step = none ∧ i = 0) ∨ ∃ j, e.step = some ⟨j, .off, false⟩ ∧ i = j + 1) →
     s.readStep e.program i = some f →
     let inStep : RingEntry := { e with step := some ⟨i, f.kind, f.marker⟩, slotsLeft := f.length }
     (f.kind = .on →
         exec (.stepEnd l) s
           = .next (((s.setEntry l (some { inStep with fed := false })).setRelay l (.driven e.sup q.route.leg)).indicate l .stepOn))
     ∧ (f.kind = .off →
         exec (.stepEnd l) s = .next (((s.setEntry l (some inStep)).setRelay l .released).indicate l .stepOff)))

/-- The wait limit of a waiting request passes (R117, R113, R132): the request is deleted, RING FAILED is reported, and the line goes
to its return state.
The end of a step (R125, R127): a fed burst clears the missed count and a first unfed one makes it 1, and the entry goes on to the
next step; a second unfed burst in a row ends the ring with a feed fault. The end of a cycle (R128): the entry starts its program
again with one cycle fewer; no cycle left ends the ring with NO ANSWER, and a finishing entry with RING STOPPED; an ended ring leaves
its line in its return state (R132).
The follow-on switch (R129, R130): with the follow-on not READY the ring fails with a cadence fault; else its use moves, the entry is
removed and the ring is attempted ahead of the queue for the cycles that remain: placed it has a new entry on the follow-on, without a
place it waits with RING DEFERRED, and on a grounded line it fails. -/
def Obligations.RingsEndInTheReturnState : Prop :=
  (∀ (s : State) (l : LineNo) (w : WaitingRequest), Consistent s → s.request l = some w → w.deadline ≤ s.now →
     ∃ t, exec (.waitLimitExpiry l) s = .next t
       ∧ t.request l = none ∧ t.entry l = none
       ∧ t.line l = returnRecord s l
       ∧ QueuesExtend (s.report l (.ringFailed .waitLimit w.party w.program w.cycles)) t
       ∧ OnlyRingChanges s t l) ∧
  (∀ (s : State) (l : LineNo) (e : RingEntry) (st : CurrentStep), Consistent s →
     s.entry l = some e → e.slotsLeft = 0 → e.step = some st →
     let feedFault : Prop := st.kind = .on ∧ e.fed = false ∧ 1 ≤ e.missed
     let survives : Prop := st.kind = .off ∨ e.fed = true ∨ e.missed = 0
     let noAnswer : Prop := st.marker = true ∧ e.cycles = 1 ∧ survives
     let cycleEnds : Prop := st.marker = true ∧ 2 ≤ e.cycles ∧ survives
     let switches (f : ProgramNo) : Prop :=
       (s.program e.program).followOn = some f ∧ (s.program e.program).switchAfter = some (e.cyclesInProgram + 1)
     let finished : Prop := cycleEnds ∧ e.finishing = true
     let dead (f : ProgramNo) : Prop := cycleEnds ∧ e.finishing = false ∧ switches f ∧ (s.program f).state ≠ .ready
     (feedFault ∨ noAnswer ∨ finished ∨ (∃ f, dead f) →
       ∃ t, exec (.stepEnd l) s = .next t
         ∧ t.entry l = none ∧ t.request l = none ∧ t.relay l = .released
         ∧ t.line l = returnRecord s l
         ∧ (feedFault → QueuesExtend (s.report l (.ringFailed (.feedFault e.sup) e.party e.program e.cycles)) t)
         ∧ (noAnswer → QueuesExtend (s.report l (.noAnswer e.party e.sup e.program)) t)
         ∧ (finished → QueuesExtend (s.report l (.ringStopped .finish e.party e.program (e.cycles - 1))) t)
         ∧ (∀ f, dead f → QueuesExtend (s.report l (.ringFailed .cadenceFault e.party f (e.cycles - 1))) t)
         ∧ OnlyRingChanges s t l)
     ∧ (∀ (i : Nat) (f : StepFields) (q : Party) (counted : RingEntry), survives →
         ((st.marker = false ∧ i = st.index + 1 ∧ counted = e)
          ∨ (cycleEnds ∧ e.finishing = false ∧ (∀ g, ¬switches g) ∧ i = 0
             ∧ counted = { e with cycles := e.cycles - 1, cyclesInProgram := e.cyclesInProgram + 1 })) →
         s.readStep e.program i = some f → s.party l e.party = some q →
         let inStep : RingEntry :=
           { counted with
             missed := if st.kind = .off then e.missed else if e.fed then 0 else 1,
             step := some ⟨i, f.kind, f.marker⟩, slotsLeft := f.length }
         (f.kind = .on →
             exec (.stepEnd l) s
               = .next (((s.setEntry l (some { inStep with fed := false })).setRelay l (.driven e.sup q.route.leg)).indicate l .stepOn))
         ∧ (f.kind = .off →
             exec (.stepEnd l) s = .next (((s.setEntry l (some inStep)).setRelay l .released).indicate l .stepOff)))) ∧
  (∀ (s : State) (l : LineNo) (e : RingEntry) (st : CurrentStep) (f : ProgramNo), Consistent s →
     s.entry l = some e → e.slotsLeft = 0 → e.step = some st → st.marker = true → 2 ≤ e.cycles → e.finishing = false →
     (st.kind = .off ∨ e.fed = true ∨ e.missed = 0) →
     (s.program e.program).followOn = some f → (s.program e.program).switchAfter = some (e.cyclesInProgram + 1) →
     (s.program f).state = .ready →
     let v := s.setSupply e.sup ((s.supply e.sup).lower (s.shape e.program) e.offset (s.partyLoad l e.party))
     let w : WaitingRequest :=
       { line := l, party := e.party, program := f, cycles := e.cycles - 1, requester := e.requester, priority := e.priority,
         age := e.age, passOvers := 0, enqueued := s.now, deadline := s.now + 1000 * s.alloc.waitLimit }
     let moved (t : State) : Prop :=
       s.alloc.queue = [] → ∀ g, (t.program g).uses
         = (s.program g).uses + (if g = f then 1 else 0) - (if g = e.program then 1 else 0)
     (∀ sup o, v.attempt w = .placed sup o →
       ∃ t, exec (.stepEnd l) s = .next t
         ∧ t.entry l = some
             { party := e.party, sup := sup, offset := o, program := f, step := none,
               slotsLeft := (s.shape f).cycle - (s.clock.slot.val + (s.shape f).cycle - o % (s.shape f).cycle) % (s.shape f).cycle,
               cycles := e.cycles - 1, cyclesInProgram := 0, requester := e.requester, priority := e.priority, age := e.age,
               stamp := s.alloc.lastStamp + 1, fed := false, missed := 0, finishing := false }
         ∧ t.line l = (s.line l).enter .ringing ∧ t.relay l = .released
         ∧ t.indicationsOf l = s.indicationsOf l ++ [.ringEnd] ∧ moved t
         ∧ QueuesExtend s t ∧ OnlyRingChanges s t l)
     ∧ (v.attempt w = .failed → s.alloc.queue = [] → s.alloc.one.turn = none → s.alloc.two.turn = none →
       ∃ t, exec (.stepEnd l) s = .next t
         ∧ t.entry l = none ∧ t.alloc.queue = [w]
         ∧ t.line l = (s.line l).enter .ringWait ∧ t.relay l = .released
         ∧ t.indicationsOf l = s.indicationsOf l ++ [.ringEnd] ∧ moved t
         ∧ QueuesExtend (s.report l (.ringDeferred .followOn e.party f (e.cycles - 1))) t ∧ OnlyRingChanges s t l)
     ∧ (v.attempt w = .grounded →
       ∃ t, exec (.stepEnd l) s = .next t
         ∧ t.entry l = none ∧ t.request l = none ∧ t.line l = returnRecord s l ∧ t.relay l = .released
         ∧ QueuesExtend (s.report l (.ringFailed .groundFault e.party f (e.cycles - 1))) t ∧ OnlyRingChanges s t l))

/-! ## The plant (chapter 8) and the taking of its states -/

/-- A level word (R142, R144, R145, R146): the fault mark is discarded whole; a good word, with the sense not lost, records the level
and the time, restarts the sense timer and begins, extends or ends the runs of the plant state. A run that completes declares its
state: SHED before ECONOMY in NORMAL, SHED or NORMAL in ECONOMY, ECONOMY in SHED; PLANT STATE goes to every PRESENT port, the new state
is handed to the Ring Allocator and the Tone Pool, and every run is discarded but the shed run from NORMAL to ECONOMY.
The sense timer (R143): at its expiry the sense is lost, every run is discarded, the plant state stays, and PLANT SENSE LOST is
reported to every PRESENT port; the next good word clears the loss, with PLANT SENSE RESTORED, before it is applied. -/
def Obligations.PlantFollowsItsLevelWords : Prop :=
  ((∀ s : State, exec (.levelWord 1023#10) s = .next s)
   ∧ ∀ (s : State) (w : LevelWord), w ≠ 1023#10 → s.plant.senseLost = false →
       let k := s.plant.limits
       let run (old : Option Ms) (meets : Prop) [Decidable meets] : Option Ms := if meets then some (old.getD s.now) else none
       let eco := run s.plant.economyRun (w.toNat < k.economyLevel)
       let shed := run s.plant.shedRun (w.toNat < k.shedLevel)
       let recover (level : Nat) := run s.plant.recoveryRun (level + k.hysteresis ≤ w.toNat)
       let done (r : Option Ms) (seconds : Nat) : Prop := ∃ b, r = some b ∧ b + 1000 * seconds ≤ s.now
       let heard : PlantMonitor :=
         { s.plant with lastLevel := some w.toNat, lastWordTime := some s.now, senseDeadline := some (s.now + 1000) }
       let keeps (e d r : Option Ms) : Prop :=
         exec (.levelWord w) s = .next (s.setPlant { heard with economyRun := e, shedRun := d, recoveryRun := r })
       let declares (new : PlantState) (kept : Option Ms) (why : PlantRun) : Prop :=
         exec (.levelWord w) s
           = .next (let v := (s.setPlant { heard with
                       state := new, economyRun := none, shedRun := kept, recoveryRun := none }).reportPresent
                     (.plantState new s.plant.state w.toNat why)
                    { v with allocPlant := v.allocPlant ++ [new], tonePlant := v.tonePlant ++ [new] })
       (s.plant.state = .normal →
           (¬done shed k.shedQualify → ¬done eco k.economyQualify → keeps eco shed none)
           ∧ (done shed k.shedQualify → declares .shed none .shed)
           ∧ (¬done shed k.shedQualify → done eco k.economyQualify → declares .economy shed .economy))
       ∧ (s.plant.state = .economy →
           (¬done shed k.shedQualify → ¬done (recover k.economyLevel) k.recoveryTime →
               keeps none shed (recover k.economyLevel))
           ∧ (done shed k.shedQualify → declares .shed none .shed)
           ∧ (¬done shed k.shedQualify → done (recover k.economyLevel) k.recoveryTime → declares .normal none .recovery))
       ∧ (s.plant.state = .shed →
           (¬done (recover k.shedLevel) k.recoveryTime → keeps none none (recover k.shedLevel))
           ∧ (done (recover k.shedLevel) k.recoveryTime → declares .economy none .recovery))) ∧
  ((∀ (s : State) (d : Ms), s.plant.senseDeadline = some d → d ≤ s.now →
     exec .senseTimerExpiry s
       = .next ((s.setPlant { s.plant with
           senseLost := true, senseDeadline := none, economyRun := none, shedRun := none, recoveryRun := none }).reportPresent
             (.plantSenseLost s.plant.lastWordTime s.plant.lastLevel s.plant.state)))
   ∧ ∀ (s : State) (w : LevelWord), w ≠ 1023#10 → s.plant.senseLost = true →
       exec (.levelWord w) s
         = exec (.levelWord w) ((s.setPlant { s.plant with senseLost := false }).reportPresent
             (.plantSenseRestored w.toNat (s.plant.lastWordTime.map (s.now - ·)) s.plant.state))
       ∧ ∃ t, exec (.levelWord w) s = .next t ∧ t.plant.senseLost = false
         ∧ t.plant.lastLevel = some w.toNat ∧ t.plant.lastWordTime = some s.now
         ∧ t.plant.senseDeadline = some (s.now + 1000))

/-- The Ring Allocator and the Tone Pool take a plant state (R55, R58, R104, R119, R146; which state each block holds between a
declaration and its taking is the model's reading, log 9): the current budgets and the current tap limit become those the state
selects; a supply whose budget fell is evicted from, Supply 1 first, with its reports, and a state that selects the same budgets
changes nothing else. After it every number of a load map is within its supply's current budget (R118). A fall of the tap limit takes
no tap away and gives none; a rise grants in queue order while taps in use are below it, the head first with the lowest free tap (R58).
Eviction from a supply (R118): nothing while the map is within the budget, else the youngest entry goes, and again; an entry goes
only when every younger one on the supply does; an evicted ring joins the queue with its line in RING_WAIT and RING DEFERRED with
cause EVICTED is reported, and a finishing one ends in its return state with RING STOPPED. -/
def Obligations.BlocksTakeThePlantState : Prop :=
  (∀ (s : State) (st : PlantState) (xs : List PlantState), Settled s →
    (s.allocPlant = st :: xs →
      let budget (u : Supply) : Nat :=
        match st with | .normal => (s.supply u).normal | .economy => (s.supply u).economy | .shed => 0
      let v : State :=
        { s with allocPlant := xs, alloc := { s.alloc with
            plant := st, one := { s.alloc.one with current := budget .one }, two := { s.alloc.two with current := budget .two } } }
      let v1 : State := if budget .one < (s.supply .one).current then v.evict .one else v
      let v2 : State := if budget .two < (s.supply .two).current then v1.evict .two else v1
      ∃ t, exec .ringAllocatorPlantChange s = .next t
        ∧ t.allocPlant = xs ∧ t.alloc.plant = st
        ∧ (∀ u, (t.supply u).current = budget u)
        ∧ (∀ l, s.entry l = none → s.request l = none → t.line l = s.line l)
        ∧ (Consistent s → RingAccountsRight s → ∀ u, ∀ x : Fin 30, (t.supply u).map[x] ≤ (t.supply u).current)
        ∧ QueuesExtend v2 t
        ∧ ((∀ u, budget u = (s.supply u).current) → t = v)
        ∧ t = { s with lines := t.lines, programs := t.programs, alloc := t.alloc, entries := t.entries, relays := t.relays,
                       indications := t.indications, queues := t.queues, ports := t.ports, allocPlant := xs })
    ∧ (s.tonePlant = st :: xs →
      let limit : Nat := match st with | .normal => 12 | .economy => s.tone.economyLimit | .shed => s.tone.shedLimit
      ∃ t, exec .tapLimitChange s = .next t
        ∧ t.tonePlant = xs ∧ t.tone.plant = st ∧ t.tone.currentLimit = limit
        ∧ (∀ (k : Fin 12) (l : LineNo), s.tone.taps[k] = some l → t.tone.taps[k] = some l)
        ∧ (limit ≤ s.tone.currentLimit → t.tone.taps = s.tone.taps ∧ t.tone.queue = s.tone.queue ∧ t.lines = s.lines)
        ∧ (s.tone.currentLimit < limit →
            t.tone.queue <:+ s.tone.queue ∧ (limit ≤ 12 → t.tone.queue = [] ∨ limit ≤ t.tone.inUse)
            ∧ ∀ w ws, ∀ k : Fin 12, s.tone.queue = w :: ws → s.tone.inUse < limit →
                s.tone.taps[k] = none → (∀ j : Fin 12, j < k → s.tone.taps[j] ≠ none) →
                t.line w.line = { (s.line w.line).enter .dialTone with timer := (s.line w.line).timer }
                ∧ t.tone.taps[k] = some w.line)
        ∧ t = { s with lines := t.lines, tone := t.tone, tonePlant := xs })) ∧
  (∀ (s : State) (sup : Supply), RingAgrees s → LoadMapsAddUp s →
    let t := s.evict sup
    ((∀ x : Fin 30, (s.supply sup).map[x] ≤ (s.supply sup).current) → t = s)
    ∧ (∀ x : Fin 30, (t.supply sup).map[x] ≤ (t.supply sup).current)
    ∧ (∀ l e, (∃ x : Fin 30, (s.supply sup).current < (s.supply sup).map[x]) →
        s.entry l = some e → e.sup = sup → (∀ k f, s.entry k = some f → f.sup = sup → k ≠ l → f.stamp < e.stamp) →
        t = (s.evictOne l e).evict sup)
    ∧ (∀ l, t.entry l = s.entry l ∨ (t.entry l = none ∧ ∃ e, s.entry l = some e ∧ e.sup = sup))
    ∧ (∀ l k e f, s.entry l = some e → s.entry k = some f → e.sup = sup → f.sup = sup → e.stamp < f.stamp →
        t.entry l = none → t.entry k = none)
    ∧ ∀ l e, s.entry l = some e → t.entry l = none →
        t.relay l = .released ∧ t.indicationsOf l = s.indicationsOf l ++ [.ringEnd]
        ∧ (e.finishing = false →
            t.line l = (s.line l).enter .ringWait
            ∧ t.request l = some
                { line := l, party := e.party, program := e.program, cycles := e.cycles, requester := e.requester,
                  priority := e.priority, age := e.age, passOvers := 0, enqueued := s.now,
                  deadline := s.now + 1000 * s.alloc.waitLimit })
        ∧ (e.finishing = true → t.line l = returnRecord s l ∧ t.request l = none)) ∧
  (∀ (s : State) (sup : Supply), QueuesExtend s (s.evict sup)) ∧
  (∀ (s : State) (l : LineNo) (e : RingEntry), s.entry l = some e →
    let t := s.evictOne l e
    let v := if e.finishing then s.report l (.ringStopped .finish e.party e.program e.cycles)
             else s.report l (.ringDeferred .evicted e.party e.program e.cycles)
    t.queues = v.queues ∧ t.ports = v.ports)

/-! ## Resets -/

/-- SHELF RESET is answered OK and marks the reset as due, and the reset takes effect as a command of its own (the model's reading,
log 27). It, and the RESET input, give the cause, clear call state and keep configuration (R27, R49, R60, R101, R122, R141, R149,
R161, R168): the Allocator and the Tone Pool follow the kept plant state, and every notice not yet taken is discarded.
The clock that stands after either reset is the model's choice in one point: shelf time and slot counter are 0 (R28, R102), and the
slot boundary at shelf time 0 counts as part of the reset, so that the next one is that of 200 ms (log 21).
POWER-ON RESET sets every block to its initial contents, which are spelled here (R10, R26, R49, R60, R100, R122, R141, R147, R149,
R155, R161, R162, R168); the commands waiting and what the ports have sent are outside the part (log 14, log 23).
After either reset a line record has reorigination pending absent, where R26 writes "no": the model's choice, log 26. That
SHELF_RESET_TAKES_EFFECT changes nothing when no reset is due is the model's choice, log 3; a step's check code is spelled as the pair
of step number and contents, the model's representation, log 7. -/
def Obligations.ResetsSetTheBlocks : Prop :=
  let lineAfter (cls : ClassNo) (parties : List Party) (admin : Bool) : LineRecord :=
    { state := .outOfService, hook := .on, holder := none, orphan := false, offer := .none, offeredPort := none,
      offerDeadline := none, recallMark := false, dialling := none, digits := [], expected := 0, delivered := 0, timer := none,
      toneWaitStart := none, toneDelayReported := none, reorigination := none, returnState := none, admin := admin,
      oosReason := some .settle, parkReason := none, digitInProgress := none, cls := cls, parties := parties, feed := .reduced }
  let plantAfter (state : PlantState) (limits : PlantLimits) : PlantMonitor :=
    { state := state, limits := limits, economyRun := none, shedRun := none, recoveryRun := none, senseLost := false,
      senseDeadline := some 1000, lastLevel := none, lastWordTime := none }
  let portAfter (old : PortRecord) (window : Nat) : PortRecord :=
    { state := .silent, window := window, deadline := none, assembling := none, reply := [], attention := false,
      sent := old.sent, notes := old.notes }
  let cleared (t : State) : Prop :=
    t.clock = ⟨0, 0, 200, 0⟩ ∧ t.shelfResetDue = false
    ∧ (∀ l, t.scan l = ⟨.out, false⟩ ∧ t.entry l = none ∧ t.relay l = .released
        ∧ t.eventsOf l = [] ∧ t.burstsOf l = [] ∧ t.commandsOf l = [] ∧ t.indicationsOf l = [])
    ∧ (∀ c, t.card c = ⟨.settling, some 0, false⟩)
    ∧ t.alloc.queue = [] ∧ t.alloc.lastStamp = 0 ∧ t.allocPlant = [] ∧ t.tonePlant = [] ∧ Settled t
    ∧ ∀ p, t.queue p = ⟨[], Vector.replicate 64 false, false⟩
  ((∀ (s : State) (rest : List ReplyItem), Settled s → Asks s .M 32 [] rest →
     exec (.shelfReset .M) s = .next ({ taken s .M rest with shelfResetDue := true }.respond .M 32#8 .ok))
   ∧ (∀ s : State, s.shelfResetDue = false → exec .shelfResetTakesEffect s = .next s)
   ∧ ∀ (s : State) (c : Instr) (cause : ResetCause),
       ((c = .resetInput ∧ cause = .resetInput)
         ∨ (c = .shelfResetTakesEffect ∧ s.shelfResetDue = true ∧ cause = .shelfResetRequest)) →
       ∃ t, exec c s = .next t ∧ cleared t
         ∧ t.lastReset = cause ∧ t.classes = s.classes ∧ t.steps = s.steps ∧ t.routes = s.routes ∧ t.pending = s.pending
         ∧ (∀ l, t.line l = lineAfter (s.line l).cls (s.line l).parties (s.line l).admin)
         ∧ (∀ g, t.program g = { s.program g with uses := 0 })
         ∧ t.tone = { s.tone with
             taps := Vector.replicate 12 none, queue := [], plant := s.plant.state,
             currentLimit := (match s.plant.state with
               | .normal => 12 | .economy => s.tone.economyLimit | .shed => s.tone.shedLimit) }
         ∧ (∀ u, t.supply u = { s.supply u with
             map := Vector.replicate 30 0, pointer := 0, turn := none,
             current := (match s.plant.state with
               | .normal => (s.supply u).normal | .economy => (s.supply u).economy | .shed => 0) })
         ∧ t.alloc.waitLimit = s.alloc.waitLimit ∧ t.alloc.turnThreshold = s.alloc.turnThreshold ∧ t.alloc.plant = s.plant.state
         ∧ t.plant = plantAfter s.plant.state s.plant.limits
         ∧ ∀ p, t.port p = portAfter (s.port p) (s.port p).window) ∧
  (∀ s : State, ∃ t, exec .powerOnReset s = .next t ∧ cleared t
     ∧ t = { State.reset with ports := t.ports, pending := s.pending }
     ∧ t.lastReset = .power
     ∧ (∀ l, t.line l = lineAfter 0 [⟨.loopAny, 2⟩] false)
     ∧ (∀ c, t.classOf c
         = { hitLimit := 15, originationQualify := 60, pulseBreakMin := 30, pulseBreakMax := 95, interdigitMake := 240,
             flashMin := 200, flashMax := 900, ringTripQualify := 30, firstDigitTimeout := 12000, interdigitTimeout := 8000,
             claimWindow := 2000, recallWindow := 4000, releaseWait := 20000, parkRelease := 2000, dialling := .pulse,
             home := .A, alternate := some .B })
     ∧ t.tone = { taps := Vector.replicate 12 none, queue := [], economyLimit := 6, shedLimit := 2, delayThreshold := 3,
                  currentLimit := 12, plant := .normal }
     ∧ (∀ n, t.step n = ⟨if n = 0 then some ⟨.on, 10, false⟩ else if n = 1 then some ⟨.off, 20, true⟩ else none,
                         ⟨n, if n = 0 then some ⟨.on, 10, false⟩ else if n = 1 then some ⟨.off, 20, true⟩ else none⟩⟩)
     ∧ t.program 0 = ⟨.ready, some ⟨2, 30, [0, 10], [0, 1, 2, 3, 4, 5, 6, 7, 8, 9]⟩, none, none, 0, none⟩
     ∧ (∀ g, g ≠ 0 → t.program g = ⟨.empty, none, none, none, 0, none⟩)
     ∧ (∀ u, t.supply u = { map := Vector.replicate 30 0, normal := 24, economy := 12, current := 24, pointer := 0, turn := none })
     ∧ t.alloc.waitLimit = 10 ∧ t.alloc.turnThreshold = 6 ∧ t.alloc.plant = .normal
     ∧ t.plant = plantAfter .normal
         { economyLevel := 465, shedLevel := 430, hysteresis := 10, economyQualify := 20, shedQualify := 5, recoveryTime := 60 }
     ∧ t.port .A = portAfter (s.port .A) 10 ∧ t.port .B = portAfter (s.port .B) 10 ∧ t.port .M = portAfter (s.port .M) 0
     ∧ ∀ (i : Fin 22) (b : ReportBody), b.kind = 66 + i.val →
         t.routes[i]
           = (match b with
              | .releaseForced | .ringFailed .. | .lineParked .. | .lineLost => .holderAndM
              | .ringCancelled .. | .lineUnparked | .lineRestored | .orphaned | .toneDelay .. => .m
              | .unclassifiedBreak .. => .none
              | _ => .holder))

end
end

