-- ==== Sys2Proof/Laws/Decode.lean ====
section
/-! SUPPORT. The two facts about commands as terms: every command is well formed, and no word spells one. -/

namespace Sys2Proof

/-- The operand types hold every range, so every command is well formed. -/
theorem wellFormed_all (c : Instr) : WellFormed c = true := by
  cases c <;> simp [WellFormed, Instr.line?, Instr.card?, Instr.word?]
  rename_i w
  exact w.isLt

/-- No row of the opcode table gives bits, so no word spells a command; log 22. -/
theorem decodeTableWord_none (nbits w : Nat) : decodeTableWord nbits w = none := rfl

end Sys2Proof
end

