-- ==== Sys2Proof/Laws/State.lean ====
section
/-! SUPPORT. What each update of Machine/Ops.lean leaves as it was and what it writes: one lemma per field, and one per way of
reading, for each update. With these no later proof unfolds a record update. -/

namespace Sys2Proof.Machine.State

variable (s : State)

/-! ## Every field an update does not write -/

@[simp] theorem setLine_clock (l : LineNo) (r : LineRecord) : (s.setLine l r).clock = s.clock := rfl
@[simp] theorem setLine_classes (l : LineNo) (r : LineRecord) : (s.setLine l r).classes = s.classes := rfl
@[simp] theorem setLine_scans (l : LineNo) (r : LineRecord) : (s.setLine l r).scans = s.scans := rfl
@[simp] theorem setLine_cards (l : LineNo) (r : LineRecord) : (s.setLine l r).cards = s.cards := rfl
@[simp] theorem setLine_tone (l : LineNo) (r : LineRecord) : (s.setLine l r).tone = s.tone := rfl
@[simp] theorem setLine_steps (l : LineNo) (r : LineRecord) : (s.setLine l r).steps = s.steps := rfl
@[simp] theorem setLine_programs (l : LineNo) (r : LineRecord) : (s.setLine l r).programs = s.programs := rfl
@[simp] theorem setLine_alloc (l : LineNo) (r : LineRecord) : (s.setLine l r).alloc = s.alloc := rfl
@[simp] theorem setLine_entries (l : LineNo) (r : LineRecord) : (s.setLine l r).entries = s.entries := rfl
@[simp] theorem setLine_relays (l : LineNo) (r : LineRecord) : (s.setLine l r).relays = s.relays := rfl
@[simp] theorem setLine_plant (l : LineNo) (r : LineRecord) : (s.setLine l r).plant = s.plant := rfl
@[simp] theorem setLine_ports (l : LineNo) (r : LineRecord) : (s.setLine l r).ports = s.ports := rfl
@[simp] theorem setLine_lastReset (l : LineNo) (r : LineRecord) : (s.setLine l r).lastReset = s.lastReset := rfl
@[simp] theorem setLine_shelfResetDue (l : LineNo) (r : LineRecord) : (s.setLine l r).shelfResetDue = s.shelfResetDue := rfl
@[simp] theorem setLine_queues (l : LineNo) (r : LineRecord) : (s.setLine l r).queues = s.queues := rfl
@[simp] theorem setLine_routes (l : LineNo) (r : LineRecord) : (s.setLine l r).routes = s.routes := rfl
@[simp] theorem setLine_scanEvents (l : LineNo) (r : LineRecord) : (s.setLine l r).scanEvents = s.scanEvents := rfl
@[simp] theorem setLine_burstNotices (l : LineNo) (r : LineRecord) : (s.setLine l r).burstNotices = s.burstNotices := rfl
@[simp] theorem setLine_scanCommands (l : LineNo) (r : LineRecord) : (s.setLine l r).scanCommands = s.scanCommands := rfl
@[simp] theorem setLine_indications (l : LineNo) (r : LineRecord) : (s.setLine l r).indications = s.indications := rfl
@[simp] theorem setLine_allocPlant (l : LineNo) (r : LineRecord) : (s.setLine l r).allocPlant = s.allocPlant := rfl
@[simp] theorem setLine_tonePlant (l : LineNo) (r : LineRecord) : (s.setLine l r).tonePlant = s.tonePlant := rfl
@[simp] theorem setLine_passDue (l : LineNo) (r : LineRecord) : (s.setLine l r).passDue = s.passDue := rfl
@[simp] theorem setLine_tapReturned (l : LineNo) (r : LineRecord) : (s.setLine l r).tapReturned = s.tapReturned := rfl
@[simp] theorem setLine_pending (l : LineNo) (r : LineRecord) : (s.setLine l r).pending = s.pending := rfl

@[simp] theorem setClass_clock (c : ClassNo) (r : LineClass) : (s.setClass c r).clock = s.clock := rfl
@[simp] theorem setClass_lines (c : ClassNo) (r : LineClass) : (s.setClass c r).lines = s.lines := rfl
@[simp] theorem setClass_scans (c : ClassNo) (r : LineClass) : (s.setClass c r).scans = s.scans := rfl
@[simp] theorem setClass_cards (c : ClassNo) (r : LineClass) : (s.setClass c r).cards = s.cards := rfl
@[simp] theorem setClass_tone (c : ClassNo) (r : LineClass) : (s.setClass c r).tone = s.tone := rfl
@[simp] theorem setClass_steps (c : ClassNo) (r : LineClass) : (s.setClass c r).steps = s.steps := rfl
@[simp] theorem setClass_programs (c : ClassNo) (r : LineClass) : (s.setClass c r).programs = s.programs := rfl
@[simp] theorem setClass_alloc (c : ClassNo) (r : LineClass) : (s.setClass c r).alloc = s.alloc := rfl
@[simp] theorem setClass_entries (c : ClassNo) (r : LineClass) : (s.setClass c r).entries = s.entries := rfl
@[simp] theorem setClass_relays (c : ClassNo) (r : LineClass) : (s.setClass c r).relays = s.relays := rfl
@[simp] theorem setClass_plant (c : ClassNo) (r : LineClass) : (s.setClass c r).plant = s.plant := rfl
@[simp] theorem setClass_ports (c : ClassNo) (r : LineClass) : (s.setClass c r).ports = s.ports := rfl
@[simp] theorem setClass_lastReset (c : ClassNo) (r : LineClass) : (s.setClass c r).lastReset = s.lastReset := rfl
@[simp] theorem setClass_shelfResetDue (c : ClassNo) (r : LineClass) : (s.setClass c r).shelfResetDue = s.shelfResetDue := rfl
@[simp] theorem setClass_queues (c : ClassNo) (r : LineClass) : (s.setClass c r).queues = s.queues := rfl
@[simp] theorem setClass_routes (c : ClassNo) (r : LineClass) : (s.setClass c r).routes = s.routes := rfl
@[simp] theorem setClass_scanEvents (c : ClassNo) (r : LineClass) : (s.setClass c r).scanEvents = s.scanEvents := rfl
@[simp] theorem setClass_burstNotices (c : ClassNo) (r : LineClass) : (s.setClass c r).burstNotices = s.burstNotices := rfl
@[simp] theorem setClass_scanCommands (c : ClassNo) (r : LineClass) : (s.setClass c r).scanCommands = s.scanCommands := rfl
@[simp] theorem setClass_indications (c : ClassNo) (r : LineClass) : (s.setClass c r).indications = s.indications := rfl
@[simp] theorem setClass_allocPlant (c : ClassNo) (r : LineClass) : (s.setClass c r).allocPlant = s.allocPlant := rfl
@[simp] theorem setClass_tonePlant (c : ClassNo) (r : LineClass) : (s.setClass c r).tonePlant = s.tonePlant := rfl
@[simp] theorem setClass_passDue (c : ClassNo) (r : LineClass) : (s.setClass c r).passDue = s.passDue := rfl
@[simp] theorem setClass_tapReturned (c : ClassNo) (r : LineClass) : (s.setClass c r).tapReturned = s.tapReturned := rfl
@[simp] theorem setClass_pending (c : ClassNo) (r : LineClass) : (s.setClass c r).pending = s.pending := rfl

@[simp] theorem setScan_clock (l : LineNo) (r : ScanRecord) : (s.setScan l r).clock = s.clock := rfl
@[simp] theorem setScan_lines (l : LineNo) (r : ScanRecord) : (s.setScan l r).lines = s.lines := rfl
@[simp] theorem setScan_classes (l : LineNo) (r : ScanRecord) : (s.setScan l r).classes = s.classes := rfl
@[simp] theorem setScan_cards (l : LineNo) (r : ScanRecord) : (s.setScan l r).cards = s.cards := rfl
@[simp] theorem setScan_tone (l : LineNo) (r : ScanRecord) : (s.setScan l r).tone = s.tone := rfl
@[simp] theorem setScan_steps (l : LineNo) (r : ScanRecord) : (s.setScan l r).steps = s.steps := rfl
@[simp] theorem setScan_programs (l : LineNo) (r : ScanRecord) : (s.setScan l r).programs = s.programs := rfl
@[simp] theorem setScan_alloc (l : LineNo) (r : ScanRecord) : (s.setScan l r).alloc = s.alloc := rfl
@[simp] theorem setScan_entries (l : LineNo) (r : ScanRecord) : (s.setScan l r).entries = s.entries := rfl
@[simp] theorem setScan_relays (l : LineNo) (r : ScanRecord) : (s.setScan l r).relays = s.relays := rfl
@[simp] theorem setScan_plant (l : LineNo) (r : ScanRecord) : (s.setScan l r).plant = s.plant := rfl
@[simp] theorem setScan_ports (l : LineNo) (r : ScanRecord) : (s.setScan l r).ports = s.ports := rfl
@[simp] theorem setScan_lastReset (l : LineNo) (r : ScanRecord) : (s.setScan l r).lastReset = s.lastReset := rfl
@[simp] theorem setScan_shelfResetDue (l : LineNo) (r : ScanRecord) : (s.setScan l r).shelfResetDue = s.shelfResetDue := rfl
@[simp] theorem setScan_queues (l : LineNo) (r : ScanRecord) : (s.setScan l r).queues = s.queues := rfl
@[simp] theorem setScan_routes (l : LineNo) (r : ScanRecord) : (s.setScan l r).routes = s.routes := rfl
@[simp] theorem setScan_scanEvents (l : LineNo) (r : ScanRecord) : (s.setScan l r).scanEvents = s.scanEvents := rfl
@[simp] theorem setScan_burstNotices (l : LineNo) (r : ScanRecord) : (s.setScan l r).burstNotices = s.burstNotices := rfl
@[simp] theorem setScan_scanCommands (l : LineNo) (r : ScanRecord) : (s.setScan l r).scanCommands = s.scanCommands := rfl
@[simp] theorem setScan_indications (l : LineNo) (r : ScanRecord) : (s.setScan l r).indications = s.indications := rfl
@[simp] theorem setScan_allocPlant (l : LineNo) (r : ScanRecord) : (s.setScan l r).allocPlant = s.allocPlant := rfl
@[simp] theorem setScan_tonePlant (l : LineNo) (r : ScanRecord) : (s.setScan l r).tonePlant = s.tonePlant := rfl
@[simp] theorem setScan_passDue (l : LineNo) (r : ScanRecord) : (s.setScan l r).passDue = s.passDue := rfl
@[simp] theorem setScan_tapReturned (l : LineNo) (r : ScanRecord) : (s.setScan l r).tapReturned = s.tapReturned := rfl
@[simp] theorem setScan_pending (l : LineNo) (r : ScanRecord) : (s.setScan l r).pending = s.pending := rfl

@[simp] theorem setCard_clock (c : CardNo) (r : CardRecord) : (s.setCard c r).clock = s.clock := rfl
@[simp] theorem setCard_lines (c : CardNo) (r : CardRecord) : (s.setCard c r).lines = s.lines := rfl
@[simp] theorem setCard_classes (c : CardNo) (r : CardRecord) : (s.setCard c r).classes = s.classes := rfl
@[simp] theorem setCard_scans (c : CardNo) (r : CardRecord) : (s.setCard c r).scans = s.scans := rfl
@[simp] theorem setCard_tone (c : CardNo) (r : CardRecord) : (s.setCard c r).tone = s.tone := rfl
@[simp] theorem setCard_steps (c : CardNo) (r : CardRecord) : (s.setCard c r).steps = s.steps := rfl
@[simp] theorem setCard_programs (c : CardNo) (r : CardRecord) : (s.setCard c r).programs = s.programs := rfl
@[simp] theorem setCard_alloc (c : CardNo) (r : CardRecord) : (s.setCard c r).alloc = s.alloc := rfl
@[simp] theorem setCard_entries (c : CardNo) (r : CardRecord) : (s.setCard c r).entries = s.entries := rfl
@[simp] theorem setCard_relays (c : CardNo) (r : CardRecord) : (s.setCard c r).relays = s.relays := rfl
@[simp] theorem setCard_plant (c : CardNo) (r : CardRecord) : (s.setCard c r).plant = s.plant := rfl
@[simp] theorem setCard_ports (c : CardNo) (r : CardRecord) : (s.setCard c r).ports = s.ports := rfl
@[simp] theorem setCard_lastReset (c : CardNo) (r : CardRecord) : (s.setCard c r).lastReset = s.lastReset := rfl
@[simp] theorem setCard_shelfResetDue (c : CardNo) (r : CardRecord) : (s.setCard c r).shelfResetDue = s.shelfResetDue := rfl
@[simp] theorem setCard_queues (c : CardNo) (r : CardRecord) : (s.setCard c r).queues = s.queues := rfl
@[simp] theorem setCard_routes (c : CardNo) (r : CardRecord) : (s.setCard c r).routes = s.routes := rfl
@[simp] theorem setCard_scanEvents (c : CardNo) (r : CardRecord) : (s.setCard c r).scanEvents = s.scanEvents := rfl
@[simp] theorem setCard_burstNotices (c : CardNo) (r : CardRecord) : (s.setCard c r).burstNotices = s.burstNotices := rfl
@[simp] theorem setCard_scanCommands (c : CardNo) (r : CardRecord) : (s.setCard c r).scanCommands = s.scanCommands := rfl
@[simp] theorem setCard_indications (c : CardNo) (r : CardRecord) : (s.setCard c r).indications = s.indications := rfl
@[simp] theorem setCard_allocPlant (c : CardNo) (r : CardRecord) : (s.setCard c r).allocPlant = s.allocPlant := rfl
@[simp] theorem setCard_tonePlant (c : CardNo) (r : CardRecord) : (s.setCard c r).tonePlant = s.tonePlant := rfl
@[simp] theorem setCard_passDue (c : CardNo) (r : CardRecord) : (s.setCard c r).passDue = s.passDue := rfl
@[simp] theorem setCard_tapReturned (c : CardNo) (r : CardRecord) : (s.setCard c r).tapReturned = s.tapReturned := rfl
@[simp] theorem setCard_pending (c : CardNo) (r : CardRecord) : (s.setCard c r).pending = s.pending := rfl

@[simp] theorem setStep_clock (n : StepNo) (r : StepCell) : (s.setStep n r).clock = s.clock := rfl
@[simp] theorem setStep_lines (n : StepNo) (r : StepCell) : (s.setStep n r).lines = s.lines := rfl
@[simp] theorem setStep_classes (n : StepNo) (r : StepCell) : (s.setStep n r).classes = s.classes := rfl
@[simp] theorem setStep_scans (n : StepNo) (r : StepCell) : (s.setStep n r).scans = s.scans := rfl
@[simp] theorem setStep_cards (n : StepNo) (r : StepCell) : (s.setStep n r).cards = s.cards := rfl
@[simp] theorem setStep_tone (n : StepNo) (r : StepCell) : (s.setStep n r).tone = s.tone := rfl
@[simp] theorem setStep_programs (n : StepNo) (r : StepCell) : (s.setStep n r).programs = s.programs := rfl
@[simp] theorem setStep_alloc (n : StepNo) (r : StepCell) : (s.setStep n r).alloc = s.alloc := rfl
@[simp] theorem setStep_entries (n : StepNo) (r : StepCell) : (s.setStep n r).entries = s.entries := rfl
@[simp] theorem setStep_relays (n : StepNo) (r : StepCell) : (s.setStep n r).relays = s.relays := rfl
@[simp] theorem setStep_plant (n : StepNo) (r : StepCell) : (s.setStep n r).plant = s.plant := rfl
@[simp] theorem setStep_ports (n : StepNo) (r : StepCell) : (s.setStep n r).ports = s.ports := rfl
@[simp] theorem setStep_lastReset (n : StepNo) (r : StepCell) : (s.setStep n r).lastReset = s.lastReset := rfl
@[simp] theorem setStep_shelfResetDue (n : StepNo) (r : StepCell) : (s.setStep n r).shelfResetDue = s.shelfResetDue := rfl
@[simp] theorem setStep_queues (n : StepNo) (r : StepCell) : (s.setStep n r).queues = s.queues := rfl
@[simp] theorem setStep_routes (n : StepNo) (r : StepCell) : (s.setStep n r).routes = s.routes := rfl
@[simp] theorem setStep_scanEvents (n : StepNo) (r : StepCell) : (s.setStep n r).scanEvents = s.scanEvents := rfl
@[simp] theorem setStep_burstNotices (n : StepNo) (r : StepCell) : (s.setStep n r).burstNotices = s.burstNotices := rfl
@[simp] theorem setStep_scanCommands (n : StepNo) (r : StepCell) : (s.setStep n r).scanCommands = s.scanCommands := rfl
@[simp] theorem setStep_indications (n : StepNo) (r : StepCell) : (s.setStep n r).indications = s.indications := rfl
@[simp] theorem setStep_allocPlant (n : StepNo) (r : StepCell) : (s.setStep n r).allocPlant = s.allocPlant := rfl
@[simp] theorem setStep_tonePlant (n : StepNo) (r : StepCell) : (s.setStep n r).tonePlant = s.tonePlant := rfl
@[simp] theorem setStep_passDue (n : StepNo) (r : StepCell) : (s.setStep n r).passDue = s.passDue := rfl
@[simp] theorem setStep_tapReturned (n : StepNo) (r : StepCell) : (s.setStep n r).tapReturned = s.tapReturned := rfl
@[simp] theorem setStep_pending (n : StepNo) (r : StepCell) : (s.setStep n r).pending = s.pending := rfl

@[simp] theorem setProgram_clock (p : ProgramNo) (r : ProgramEntry) : (s.setProgram p r).clock = s.clock := rfl
@[simp] theorem setProgram_lines (p : ProgramNo) (r : ProgramEntry) : (s.setProgram p r).lines = s.lines := rfl
@[simp] theorem setProgram_classes (p : ProgramNo) (r : ProgramEntry) : (s.setProgram p r).classes = s.classes := rfl
@[simp] theorem setProgram_scans (p : ProgramNo) (r : ProgramEntry) : (s.setProgram p r).scans = s.scans := rfl
@[simp] theorem setProgram_cards (p : ProgramNo) (r : ProgramEntry) : (s.setProgram p r).cards = s.cards := rfl
@[simp] theorem setProgram_tone (p : ProgramNo) (r : ProgramEntry) : (s.setProgram p r).tone = s.tone := rfl
@[simp] theorem setProgram_steps (p : ProgramNo) (r : ProgramEntry) : (s.setProgram p r).steps = s.steps := rfl
@[simp] theorem setProgram_alloc (p : ProgramNo) (r : ProgramEntry) : (s.setProgram p r).alloc = s.alloc := rfl
@[simp] theorem setProgram_entries (p : ProgramNo) (r : ProgramEntry) : (s.setProgram p r).entries = s.entries := rfl
@[simp] theorem setProgram_relays (p : ProgramNo) (r : ProgramEntry) : (s.setProgram p r).relays = s.relays := rfl
@[simp] theorem setProgram_plant (p : ProgramNo) (r : ProgramEntry) : (s.setProgram p r).plant = s.plant := rfl
@[simp] theorem setProgram_ports (p : ProgramNo) (r : ProgramEntry) : (s.setProgram p r).ports = s.ports := rfl
@[simp] theorem setProgram_lastReset (p : ProgramNo) (r : ProgramEntry) : (s.setProgram p r).lastReset = s.lastReset := rfl
@[simp] theorem setProgram_shelfResetDue (p : ProgramNo) (r : ProgramEntry) : (s.setProgram p r).shelfResetDue = s.shelfResetDue := rfl
@[simp] theorem setProgram_queues (p : ProgramNo) (r : ProgramEntry) : (s.setProgram p r).queues = s.queues := rfl
@[simp] theorem setProgram_routes (p : ProgramNo) (r : ProgramEntry) : (s.setProgram p r).routes = s.routes := rfl
@[simp] theorem setProgram_scanEvents (p : ProgramNo) (r : ProgramEntry) : (s.setProgram p r).scanEvents = s.scanEvents := rfl
@[simp] theorem setProgram_burstNotices (p : ProgramNo) (r : ProgramEntry) : (s.setProgram p r).burstNotices = s.burstNotices := rfl
@[simp] theorem setProgram_scanCommands (p : ProgramNo) (r : ProgramEntry) : (s.setProgram p r).scanCommands = s.scanCommands := rfl
@[simp] theorem setProgram_indications (p : ProgramNo) (r : ProgramEntry) : (s.setProgram p r).indications = s.indications := rfl
@[simp] theorem setProgram_allocPlant (p : ProgramNo) (r : ProgramEntry) : (s.setProgram p r).allocPlant = s.allocPlant := rfl
@[simp] theorem setProgram_tonePlant (p : ProgramNo) (r : ProgramEntry) : (s.setProgram p r).tonePlant = s.tonePlant := rfl
@[simp] theorem setProgram_passDue (p : ProgramNo) (r : ProgramEntry) : (s.setProgram p r).passDue = s.passDue := rfl
@[simp] theorem setProgram_tapReturned (p : ProgramNo) (r : ProgramEntry) : (s.setProgram p r).tapReturned = s.tapReturned := rfl
@[simp] theorem setProgram_pending (p : ProgramNo) (r : ProgramEntry) : (s.setProgram p r).pending = s.pending := rfl

@[simp] theorem setEntry_clock (l : LineNo) (e : Option RingEntry) : (s.setEntry l e).clock = s.clock := rfl
@[simp] theorem setEntry_lines (l : LineNo) (e : Option RingEntry) : (s.setEntry l e).lines = s.lines := rfl
@[simp] theorem setEntry_classes (l : LineNo) (e : Option RingEntry) : (s.setEntry l e).classes = s.classes := rfl
@[simp] theorem setEntry_scans (l : LineNo) (e : Option RingEntry) : (s.setEntry l e).scans = s.scans := rfl
@[simp] theorem setEntry_cards (l : LineNo) (e : Option RingEntry) : (s.setEntry l e).cards = s.cards := rfl
@[simp] theorem setEntry_tone (l : LineNo) (e : Option RingEntry) : (s.setEntry l e).tone = s.tone := rfl
@[simp] theorem setEntry_steps (l : LineNo) (e : Option RingEntry) : (s.setEntry l e).steps = s.steps := rfl
@[simp] theorem setEntry_programs (l : LineNo) (e : Option RingEntry) : (s.setEntry l e).programs = s.programs := rfl
@[simp] theorem setEntry_alloc (l : LineNo) (e : Option RingEntry) : (s.setEntry l e).alloc = s.alloc := rfl
@[simp] theorem setEntry_relays (l : LineNo) (e : Option RingEntry) : (s.setEntry l e).relays = s.relays := rfl
@[simp] theorem setEntry_plant (l : LineNo) (e : Option RingEntry) : (s.setEntry l e).plant = s.plant := rfl
@[simp] theorem setEntry_ports (l : LineNo) (e : Option RingEntry) : (s.setEntry l e).ports = s.ports := rfl
@[simp] theorem setEntry_lastReset (l : LineNo) (e : Option RingEntry) : (s.setEntry l e).lastReset = s.lastReset := rfl
@[simp] theorem setEntry_shelfResetDue (l : LineNo) (e : Option RingEntry) : (s.setEntry l e).shelfResetDue = s.shelfResetDue := rfl
@[simp] theorem setEntry_queues (l : LineNo) (e : Option RingEntry) : (s.setEntry l e).queues = s.queues := rfl
@[simp] theorem setEntry_routes (l : LineNo) (e : Option RingEntry) : (s.setEntry l e).routes = s.routes := rfl
@[simp] theorem setEntry_scanEvents (l : LineNo) (e : Option RingEntry) : (s.setEntry l e).scanEvents = s.scanEvents := rfl
@[simp] theorem setEntry_burstNotices (l : LineNo) (e : Option RingEntry) : (s.setEntry l e).burstNotices = s.burstNotices := rfl
@[simp] theorem setEntry_scanCommands (l : LineNo) (e : Option RingEntry) : (s.setEntry l e).scanCommands = s.scanCommands := rfl
@[simp] theorem setEntry_indications (l : LineNo) (e : Option RingEntry) : (s.setEntry l e).indications = s.indications := rfl
@[simp] theorem setEntry_allocPlant (l : LineNo) (e : Option RingEntry) : (s.setEntry l e).allocPlant = s.allocPlant := rfl
@[simp] theorem setEntry_tonePlant (l : LineNo) (e : Option RingEntry) : (s.setEntry l e).tonePlant = s.tonePlant := rfl
@[simp] theorem setEntry_passDue (l : LineNo) (e : Option RingEntry) : (s.setEntry l e).passDue = s.passDue := rfl
@[simp] theorem setEntry_tapReturned (l : LineNo) (e : Option RingEntry) : (s.setEntry l e).tapReturned = s.tapReturned := rfl
@[simp] theorem setEntry_pending (l : LineNo) (e : Option RingEntry) : (s.setEntry l e).pending = s.pending := rfl

@[simp] theorem setRelay_clock (l : LineNo) (r : Relay) : (s.setRelay l r).clock = s.clock := rfl
@[simp] theorem setRelay_lines (l : LineNo) (r : Relay) : (s.setRelay l r).lines = s.lines := rfl
@[simp] theorem setRelay_classes (l : LineNo) (r : Relay) : (s.setRelay l r).classes = s.classes := rfl
@[simp] theorem setRelay_scans (l : LineNo) (r : Relay) : (s.setRelay l r).scans = s.scans := rfl
@[simp] theorem setRelay_cards (l : LineNo) (r : Relay) : (s.setRelay l r).cards = s.cards := rfl
@[simp] theorem setRelay_tone (l : LineNo) (r : Relay) : (s.setRelay l r).tone = s.tone := rfl
@[simp] theorem setRelay_steps (l : LineNo) (r : Relay) : (s.setRelay l r).steps = s.steps := rfl
@[simp] theorem setRelay_programs (l : LineNo) (r : Relay) : (s.setRelay l r).programs = s.programs := rfl
@[simp] theorem setRelay_alloc (l : LineNo) (r : Relay) : (s.setRelay l r).alloc = s.alloc := rfl
@[simp] theorem setRelay_entries (l : LineNo) (r : Relay) : (s.setRelay l r).entries = s.entries := rfl
@[simp] theorem setRelay_plant (l : LineNo) (r : Relay) : (s.setRelay l r).plant = s.plant := rfl
@[simp] theorem setRelay_ports (l : LineNo) (r : Relay) : (s.setRelay l r).ports = s.ports := rfl
@[simp] theorem setRelay_lastReset (l : LineNo) (r : Relay) : (s.setRelay l r).lastReset = s.lastReset := rfl
@[simp] theorem setRelay_shelfResetDue (l : LineNo) (r : Relay) : (s.setRelay l r).shelfResetDue = s.shelfResetDue := rfl
@[simp] theorem setRelay_queues (l : LineNo) (r : Relay) : (s.setRelay l r).queues = s.queues := rfl
@[simp] theorem setRelay_routes (l : LineNo) (r : Relay) : (s.setRelay l r).routes = s.routes := rfl
@[simp] theorem setRelay_scanEvents (l : LineNo) (r : Relay) : (s.setRelay l r).scanEvents = s.scanEvents := rfl
@[simp] theorem setRelay_burstNotices (l : LineNo) (r : Relay) : (s.setRelay l r).burstNotices = s.burstNotices := rfl
@[simp] theorem setRelay_scanCommands (l : LineNo) (r : Relay) : (s.setRelay l r).scanCommands = s.scanCommands := rfl
@[simp] theorem setRelay_indications (l : LineNo) (r : Relay) : (s.setRelay l r).indications = s.indications := rfl
@[simp] theorem setRelay_allocPlant (l : LineNo) (r : Relay) : (s.setRelay l r).allocPlant = s.allocPlant := rfl
@[simp] theorem setRelay_tonePlant (l : LineNo) (r : Relay) : (s.setRelay l r).tonePlant = s.tonePlant := rfl
@[simp] theorem setRelay_passDue (l : LineNo) (r : Relay) : (s.setRelay l r).passDue = s.passDue := rfl
@[simp] theorem setRelay_tapReturned (l : LineNo) (r : Relay) : (s.setRelay l r).tapReturned = s.tapReturned := rfl
@[simp] theorem setRelay_pending (l : LineNo) (r : Relay) : (s.setRelay l r).pending = s.pending := rfl

@[simp] theorem setSupply_clock (u : Supply) (r : SupplyRecord) : (s.setSupply u r).clock = s.clock := by cases u <;> rfl
@[simp] theorem setSupply_lines (u : Supply) (r : SupplyRecord) : (s.setSupply u r).lines = s.lines := by cases u <;> rfl
@[simp] theorem setSupply_classes (u : Supply) (r : SupplyRecord) : (s.setSupply u r).classes = s.classes := by cases u <;> rfl
@[simp] theorem setSupply_scans (u : Supply) (r : SupplyRecord) : (s.setSupply u r).scans = s.scans := by cases u <;> rfl
@[simp] theorem setSupply_cards (u : Supply) (r : SupplyRecord) : (s.setSupply u r).cards = s.cards := by cases u <;> rfl
@[simp] theorem setSupply_tone (u : Supply) (r : SupplyRecord) : (s.setSupply u r).tone = s.tone := by cases u <;> rfl
@[simp] theorem setSupply_steps (u : Supply) (r : SupplyRecord) : (s.setSupply u r).steps = s.steps := by cases u <;> rfl
@[simp] theorem setSupply_programs (u : Supply) (r : SupplyRecord) : (s.setSupply u r).programs = s.programs := by cases u <;> rfl
@[simp] theorem setSupply_entries (u : Supply) (r : SupplyRecord) : (s.setSupply u r).entries = s.entries := by cases u <;> rfl
@[simp] theorem setSupply_relays (u : Supply) (r : SupplyRecord) : (s.setSupply u r).relays = s.relays := by cases u <;> rfl
@[simp] theorem setSupply_plant (u : Supply) (r : SupplyRecord) : (s.setSupply u r).plant = s.plant := by cases u <;> rfl
@[simp] theorem setSupply_ports (u : Supply) (r : SupplyRecord) : (s.setSupply u r).ports = s.ports := by cases u <;> rfl
@[simp] theorem setSupply_lastReset (u : Supply) (r : SupplyRecord) : (s.setSupply u r).lastReset = s.lastReset := by cases u <;> rfl
@[simp] theorem setSupply_shelfResetDue (u : Supply) (r : SupplyRecord) : (s.setSupply u r).shelfResetDue = s.shelfResetDue := by cases u <;> rfl
@[simp] theorem setSupply_queues (u : Supply) (r : SupplyRecord) : (s.setSupply u r).queues = s.queues := by cases u <;> rfl
@[simp] theorem setSupply_routes (u : Supply) (r : SupplyRecord) : (s.setSupply u r).routes = s.routes := by cases u <;> rfl
@[simp] theorem setSupply_scanEvents (u : Supply) (r : SupplyRecord) : (s.setSupply u r).scanEvents = s.scanEvents := by cases u <;> rfl
@[simp] theorem setSupply_burstNotices (u : Supply) (r : SupplyRecord) : (s.setSupply u r).burstNotices = s.burstNotices := by cases u <;> rfl
@[simp] theorem setSupply_scanCommands (u : Supply) (r : SupplyRecord) : (s.setSupply u r).scanCommands = s.scanCommands := by cases u <;> rfl
@[simp] theorem setSupply_indications (u : Supply) (r : SupplyRecord) : (s.setSupply u r).indications = s.indications := by cases u <;> rfl
@[simp] theorem setSupply_allocPlant (u : Supply) (r : SupplyRecord) : (s.setSupply u r).allocPlant = s.allocPlant := by cases u <;> rfl
@[simp] theorem setSupply_tonePlant (u : Supply) (r : SupplyRecord) : (s.setSupply u r).tonePlant = s.tonePlant := by cases u <;> rfl
@[simp] theorem setSupply_passDue (u : Supply) (r : SupplyRecord) : (s.setSupply u r).passDue = s.passDue := by cases u <;> rfl
@[simp] theorem setSupply_tapReturned (u : Supply) (r : SupplyRecord) : (s.setSupply u r).tapReturned = s.tapReturned := by cases u <;> rfl
@[simp] theorem setSupply_pending (u : Supply) (r : SupplyRecord) : (s.setSupply u r).pending = s.pending := by cases u <;> rfl

@[simp] theorem setWaiting_clock (ws : List WaitingRequest) : (s.setWaiting ws).clock = s.clock := rfl
@[simp] theorem setWaiting_lines (ws : List WaitingRequest) : (s.setWaiting ws).lines = s.lines := rfl
@[simp] theorem setWaiting_classes (ws : List WaitingRequest) : (s.setWaiting ws).classes = s.classes := rfl
@[simp] theorem setWaiting_scans (ws : List WaitingRequest) : (s.setWaiting ws).scans = s.scans := rfl
@[simp] theorem setWaiting_cards (ws : List WaitingRequest) : (s.setWaiting ws).cards = s.cards := rfl
@[simp] theorem setWaiting_tone (ws : List WaitingRequest) : (s.setWaiting ws).tone = s.tone := rfl
@[simp] theorem setWaiting_steps (ws : List WaitingRequest) : (s.setWaiting ws).steps = s.steps := rfl
@[simp] theorem setWaiting_programs (ws : List WaitingRequest) : (s.setWaiting ws).programs = s.programs := rfl
@[simp] theorem setWaiting_entries (ws : List WaitingRequest) : (s.setWaiting ws).entries = s.entries := rfl
@[simp] theorem setWaiting_relays (ws : List WaitingRequest) : (s.setWaiting ws).relays = s.relays := rfl
@[simp] theorem setWaiting_plant (ws : List WaitingRequest) : (s.setWaiting ws).plant = s.plant := rfl
@[simp] theorem setWaiting_ports (ws : List WaitingRequest) : (s.setWaiting ws).ports = s.ports := rfl
@[simp] theorem setWaiting_lastReset (ws : List WaitingRequest) : (s.setWaiting ws).lastReset = s.lastReset := rfl
@[simp] theorem setWaiting_shelfResetDue (ws : List WaitingRequest) : (s.setWaiting ws).shelfResetDue = s.shelfResetDue := rfl
@[simp] theorem setWaiting_queues (ws : List WaitingRequest) : (s.setWaiting ws).queues = s.queues := rfl
@[simp] theorem setWaiting_routes (ws : List WaitingRequest) : (s.setWaiting ws).routes = s.routes := rfl
@[simp] theorem setWaiting_scanEvents (ws : List WaitingRequest) : (s.setWaiting ws).scanEvents = s.scanEvents := rfl
@[simp] theorem setWaiting_burstNotices (ws : List WaitingRequest) : (s.setWaiting ws).burstNotices = s.burstNotices := rfl
@[simp] theorem setWaiting_scanCommands (ws : List WaitingRequest) : (s.setWaiting ws).scanCommands = s.scanCommands := rfl
@[simp] theorem setWaiting_indications (ws : List WaitingRequest) : (s.setWaiting ws).indications = s.indications := rfl
@[simp] theorem setWaiting_allocPlant (ws : List WaitingRequest) : (s.setWaiting ws).allocPlant = s.allocPlant := rfl
@[simp] theorem setWaiting_tonePlant (ws : List WaitingRequest) : (s.setWaiting ws).tonePlant = s.tonePlant := rfl
@[simp] theorem setWaiting_passDue (ws : List WaitingRequest) : (s.setWaiting ws).passDue = s.passDue := rfl
@[simp] theorem setWaiting_tapReturned (ws : List WaitingRequest) : (s.setWaiting ws).tapReturned = s.tapReturned := rfl
@[simp] theorem setWaiting_pending (ws : List WaitingRequest) : (s.setWaiting ws).pending = s.pending := rfl

@[simp] theorem setTone_clock (t : TonePool) : (s.setTone t).clock = s.clock := rfl
@[simp] theorem setTone_lines (t : TonePool) : (s.setTone t).lines = s.lines := rfl
@[simp] theorem setTone_classes (t : TonePool) : (s.setTone t).classes = s.classes := rfl
@[simp] theorem setTone_scans (t : TonePool) : (s.setTone t).scans = s.scans := rfl
@[simp] theorem setTone_cards (t : TonePool) : (s.setTone t).cards = s.cards := rfl
@[simp] theorem setTone_steps (t : TonePool) : (s.setTone t).steps = s.steps := rfl
@[simp] theorem setTone_programs (t : TonePool) : (s.setTone t).programs = s.programs := rfl
@[simp] theorem setTone_alloc (t : TonePool) : (s.setTone t).alloc = s.alloc := rfl
@[simp] theorem setTone_entries (t : TonePool) : (s.setTone t).entries = s.entries := rfl
@[simp] theorem setTone_relays (t : TonePool) : (s.setTone t).relays = s.relays := rfl
@[simp] theorem setTone_plant (t : TonePool) : (s.setTone t).plant = s.plant := rfl
@[simp] theorem setTone_ports (t : TonePool) : (s.setTone t).ports = s.ports := rfl
@[simp] theorem setTone_lastReset (t : TonePool) : (s.setTone t).lastReset = s.lastReset := rfl
@[simp] theorem setTone_shelfResetDue (t : TonePool) : (s.setTone t).shelfResetDue = s.shelfResetDue := rfl
@[simp] theorem setTone_queues (t : TonePool) : (s.setTone t).queues = s.queues := rfl
@[simp] theorem setTone_routes (t : TonePool) : (s.setTone t).routes = s.routes := rfl
@[simp] theorem setTone_scanEvents (t : TonePool) : (s.setTone t).scanEvents = s.scanEvents := rfl
@[simp] theorem setTone_burstNotices (t : TonePool) : (s.setTone t).burstNotices = s.burstNotices := rfl
@[simp] theorem setTone_scanCommands (t : TonePool) : (s.setTone t).scanCommands = s.scanCommands := rfl
@[simp] theorem setTone_indications (t : TonePool) : (s.setTone t).indications = s.indications := rfl
@[simp] theorem setTone_allocPlant (t : TonePool) : (s.setTone t).allocPlant = s.allocPlant := rfl
@[simp] theorem setTone_tonePlant (t : TonePool) : (s.setTone t).tonePlant = s.tonePlant := rfl
@[simp] theorem setTone_passDue (t : TonePool) : (s.setTone t).passDue = s.passDue := rfl
@[simp] theorem setTone_tapReturned (t : TonePool) : (s.setTone t).tapReturned = s.tapReturned := rfl
@[simp] theorem setTone_pending (t : TonePool) : (s.setTone t).pending = s.pending := rfl

@[simp] theorem setPlant_clock (p : PlantMonitor) : (s.setPlant p).clock = s.clock := rfl
@[simp] theorem setPlant_lines (p : PlantMonitor) : (s.setPlant p).lines = s.lines := rfl
@[simp] theorem setPlant_classes (p : PlantMonitor) : (s.setPlant p).classes = s.classes := rfl
@[simp] theorem setPlant_scans (p : PlantMonitor) : (s.setPlant p).scans = s.scans := rfl
@[simp] theorem setPlant_cards (p : PlantMonitor) : (s.setPlant p).cards = s.cards := rfl
@[simp] theorem setPlant_tone (p : PlantMonitor) : (s.setPlant p).tone = s.tone := rfl
@[simp] theorem setPlant_steps (p : PlantMonitor) : (s.setPlant p).steps = s.steps := rfl
@[simp] theorem setPlant_programs (p : PlantMonitor) : (s.setPlant p).programs = s.programs := rfl
@[simp] theorem setPlant_alloc (p : PlantMonitor) : (s.setPlant p).alloc = s.alloc := rfl
@[simp] theorem setPlant_entries (p : PlantMonitor) : (s.setPlant p).entries = s.entries := rfl
@[simp] theorem setPlant_relays (p : PlantMonitor) : (s.setPlant p).relays = s.relays := rfl
@[simp] theorem setPlant_ports (p : PlantMonitor) : (s.setPlant p).ports = s.ports := rfl
@[simp] theorem setPlant_lastReset (p : PlantMonitor) : (s.setPlant p).lastReset = s.lastReset := rfl
@[simp] theorem setPlant_shelfResetDue (p : PlantMonitor) : (s.setPlant p).shelfResetDue = s.shelfResetDue := rfl
@[simp] theorem setPlant_queues (p : PlantMonitor) : (s.setPlant p).queues = s.queues := rfl
@[simp] theorem setPlant_routes (p : PlantMonitor) : (s.setPlant p).routes = s.routes := rfl
@[simp] theorem setPlant_scanEvents (p : PlantMonitor) : (s.setPlant p).scanEvents = s.scanEvents := rfl
@[simp] theorem setPlant_burstNotices (p : PlantMonitor) : (s.setPlant p).burstNotices = s.burstNotices := rfl
@[simp] theorem setPlant_scanCommands (p : PlantMonitor) : (s.setPlant p).scanCommands = s.scanCommands := rfl
@[simp] theorem setPlant_indications (p : PlantMonitor) : (s.setPlant p).indications = s.indications := rfl
@[simp] theorem setPlant_allocPlant (p : PlantMonitor) : (s.setPlant p).allocPlant = s.allocPlant := rfl
@[simp] theorem setPlant_tonePlant (p : PlantMonitor) : (s.setPlant p).tonePlant = s.tonePlant := rfl
@[simp] theorem setPlant_passDue (p : PlantMonitor) : (s.setPlant p).passDue = s.passDue := rfl
@[simp] theorem setPlant_tapReturned (p : PlantMonitor) : (s.setPlant p).tapReturned = s.tapReturned := rfl
@[simp] theorem setPlant_pending (p : PlantMonitor) : (s.setPlant p).pending = s.pending := rfl

@[simp] theorem setPort_clock (p : Port) (r : PortRecord) : (s.setPort p r).clock = s.clock := by cases p <;> rfl
@[simp] theorem setPort_lines (p : Port) (r : PortRecord) : (s.setPort p r).lines = s.lines := by cases p <;> rfl
@[simp] theorem setPort_classes (p : Port) (r : PortRecord) : (s.setPort p r).classes = s.classes := by cases p <;> rfl
@[simp] theorem setPort_scans (p : Port) (r : PortRecord) : (s.setPort p r).scans = s.scans := by cases p <;> rfl
@[simp] theorem setPort_cards (p : Port) (r : PortRecord) : (s.setPort p r).cards = s.cards := by cases p <;> rfl
@[simp] theorem setPort_tone (p : Port) (r : PortRecord) : (s.setPort p r).tone = s.tone := by cases p <;> rfl
@[simp] theorem setPort_steps (p : Port) (r : PortRecord) : (s.setPort p r).steps = s.steps := by cases p <;> rfl
@[simp] theorem setPort_programs (p : Port) (r : PortRecord) : (s.setPort p r).programs = s.programs := by cases p <;> rfl
@[simp] theorem setPort_alloc (p : Port) (r : PortRecord) : (s.setPort p r).alloc = s.alloc := by cases p <;> rfl
@[simp] theorem setPort_entries (p : Port) (r : PortRecord) : (s.setPort p r).entries = s.entries := by cases p <;> rfl
@[simp] theorem setPort_relays (p : Port) (r : PortRecord) : (s.setPort p r).relays = s.relays := by cases p <;> rfl
@[simp] theorem setPort_plant (p : Port) (r : PortRecord) : (s.setPort p r).plant = s.plant := by cases p <;> rfl
@[simp] theorem setPort_lastReset (p : Port) (r : PortRecord) : (s.setPort p r).lastReset = s.lastReset := by cases p <;> rfl
@[simp] theorem setPort_shelfResetDue (p : Port) (r : PortRecord) : (s.setPort p r).shelfResetDue = s.shelfResetDue := by cases p <;> rfl
@[simp] theorem setPort_queues (p : Port) (r : PortRecord) : (s.setPort p r).queues = s.queues := by cases p <;> rfl
@[simp] theorem setPort_routes (p : Port) (r : PortRecord) : (s.setPort p r).routes = s.routes := by cases p <;> rfl
@[simp] theorem setPort_scanEvents (p : Port) (r : PortRecord) : (s.setPort p r).scanEvents = s.scanEvents := by cases p <;> rfl
@[simp] theorem setPort_burstNotices (p : Port) (r : PortRecord) : (s.setPort p r).burstNotices = s.burstNotices := by cases p <;> rfl
@[simp] theorem setPort_scanCommands (p : Port) (r : PortRecord) : (s.setPort p r).scanCommands = s.scanCommands := by cases p <;> rfl
@[simp] theorem setPort_indications (p : Port) (r : PortRecord) : (s.setPort p r).indications = s.indications := by cases p <;> rfl
@[simp] theorem setPort_allocPlant (p : Port) (r : PortRecord) : (s.setPort p r).allocPlant = s.allocPlant := by cases p <;> rfl
@[simp] theorem setPort_tonePlant (p : Port) (r : PortRecord) : (s.setPort p r).tonePlant = s.tonePlant := by cases p <;> rfl
@[simp] theorem setPort_passDue (p : Port) (r : PortRecord) : (s.setPort p r).passDue = s.passDue := by cases p <;> rfl
@[simp] theorem setPort_tapReturned (p : Port) (r : PortRecord) : (s.setPort p r).tapReturned = s.tapReturned := by cases p <;> rfl
@[simp] theorem setPort_pending (p : Port) (r : PortRecord) : (s.setPort p r).pending = s.pending := by cases p <;> rfl

@[simp] theorem putQueue_clock (p : Port) (r : ReportQueue) : (s.putQueue p r).clock = s.clock := by cases p <;> rfl
@[simp] theorem putQueue_lines (p : Port) (r : ReportQueue) : (s.putQueue p r).lines = s.lines := by cases p <;> rfl
@[simp] theorem putQueue_classes (p : Port) (r : ReportQueue) : (s.putQueue p r).classes = s.classes := by cases p <;> rfl
@[simp] theorem putQueue_scans (p : Port) (r : ReportQueue) : (s.putQueue p r).scans = s.scans := by cases p <;> rfl
@[simp] theorem putQueue_cards (p : Port) (r : ReportQueue) : (s.putQueue p r).cards = s.cards := by cases p <;> rfl
@[simp] theorem putQueue_tone (p : Port) (r : ReportQueue) : (s.putQueue p r).tone = s.tone := by cases p <;> rfl
@[simp] theorem putQueue_steps (p : Port) (r : ReportQueue) : (s.putQueue p r).steps = s.steps := by cases p <;> rfl
@[simp] theorem putQueue_programs (p : Port) (r : ReportQueue) : (s.putQueue p r).programs = s.programs := by cases p <;> rfl
@[simp] theorem putQueue_alloc (p : Port) (r : ReportQueue) : (s.putQueue p r).alloc = s.alloc := by cases p <;> rfl
@[simp] theorem putQueue_entries (p : Port) (r : ReportQueue) : (s.putQueue p r).entries = s.entries := by cases p <;> rfl
@[simp] theorem putQueue_relays (p : Port) (r : ReportQueue) : (s.putQueue p r).relays = s.relays := by cases p <;> rfl
@[simp] theorem putQueue_plant (p : Port) (r : ReportQueue) : (s.putQueue p r).plant = s.plant := by cases p <;> rfl
@[simp] theorem putQueue_ports (p : Port) (r : ReportQueue) : (s.putQueue p r).ports = s.ports := by cases p <;> rfl
@[simp] theorem putQueue_lastReset (p : Port) (r : ReportQueue) : (s.putQueue p r).lastReset = s.lastReset := by cases p <;> rfl
@[simp] theorem putQueue_shelfResetDue (p : Port) (r : ReportQueue) : (s.putQueue p r).shelfResetDue = s.shelfResetDue := by cases p <;> rfl
@[simp] theorem putQueue_routes (p : Port) (r : ReportQueue) : (s.putQueue p r).routes = s.routes := by cases p <;> rfl
@[simp] theorem putQueue_scanEvents (p : Port) (r : ReportQueue) : (s.putQueue p r).scanEvents = s.scanEvents := by cases p <;> rfl
@[simp] theorem putQueue_burstNotices (p : Port) (r : ReportQueue) : (s.putQueue p r).burstNotices = s.burstNotices := by cases p <;> rfl
@[simp] theorem putQueue_scanCommands (p : Port) (r : ReportQueue) : (s.putQueue p r).scanCommands = s.scanCommands := by cases p <;> rfl
@[simp] theorem putQueue_indications (p : Port) (r : ReportQueue) : (s.putQueue p r).indications = s.indications := by cases p <;> rfl
@[simp] theorem putQueue_allocPlant (p : Port) (r : ReportQueue) : (s.putQueue p r).allocPlant = s.allocPlant := by cases p <;> rfl
@[simp] theorem putQueue_tonePlant (p : Port) (r : ReportQueue) : (s.putQueue p r).tonePlant = s.tonePlant := by cases p <;> rfl
@[simp] theorem putQueue_passDue (p : Port) (r : ReportQueue) : (s.putQueue p r).passDue = s.passDue := by cases p <;> rfl
@[simp] theorem putQueue_tapReturned (p : Port) (r : ReportQueue) : (s.putQueue p r).tapReturned = s.tapReturned := by cases p <;> rfl
@[simp] theorem putQueue_pending (p : Port) (r : ReportQueue) : (s.putQueue p r).pending = s.pending := by cases p <;> rfl

@[simp] theorem setEvents_clock (l : LineNo) (es : List ScanEvent) : (s.setEvents l es).clock = s.clock := rfl
@[simp] theorem setEvents_lines (l : LineNo) (es : List ScanEvent) : (s.setEvents l es).lines = s.lines := rfl
@[simp] theorem setEvents_classes (l : LineNo) (es : List ScanEvent) : (s.setEvents l es).classes = s.classes := rfl
@[simp] theorem setEvents_scans (l : LineNo) (es : List ScanEvent) : (s.setEvents l es).scans = s.scans := rfl
@[simp] theorem setEvents_cards (l : LineNo) (es : List ScanEvent) : (s.setEvents l es).cards = s.cards := rfl
@[simp] theorem setEvents_tone (l : LineNo) (es : List ScanEvent) : (s.setEvents l es).tone = s.tone := rfl
@[simp] theorem setEvents_steps (l : LineNo) (es : List ScanEvent) : (s.setEvents l es).steps = s.steps := rfl
@[simp] theorem setEvents_programs (l : LineNo) (es : List ScanEvent) : (s.setEvents l es).programs = s.programs := rfl
@[simp] theorem setEvents_alloc (l : LineNo) (es : List ScanEvent) : (s.setEvents l es).alloc = s.alloc := rfl
@[simp] theorem setEvents_entries (l : LineNo) (es : List ScanEvent) : (s.setEvents l es).entries = s.entries := rfl
@[simp] theorem setEvents_relays (l : LineNo) (es : List ScanEvent) : (s.setEvents l es).relays = s.relays := rfl
@[simp] theorem setEvents_plant (l : LineNo) (es : List ScanEvent) : (s.setEvents l es).plant = s.plant := rfl
@[simp] theorem setEvents_ports (l : LineNo) (es : List ScanEvent) : (s.setEvents l es).ports = s.ports := rfl
@[simp] theorem setEvents_lastReset (l : LineNo) (es : List ScanEvent) : (s.setEvents l es).lastReset = s.lastReset := rfl
@[simp] theorem setEvents_shelfResetDue (l : LineNo) (es : List ScanEvent) : (s.setEvents l es).shelfResetDue = s.shelfResetDue := rfl
@[simp] theorem setEvents_queues (l : LineNo) (es : List ScanEvent) : (s.setEvents l es).queues = s.queues := rfl
@[simp] theorem setEvents_routes (l : LineNo) (es : List ScanEvent) : (s.setEvents l es).routes = s.routes := rfl
@[simp] theorem setEvents_burstNotices (l : LineNo) (es : List ScanEvent) : (s.setEvents l es).burstNotices = s.burstNotices := rfl
@[simp] theorem setEvents_scanCommands (l : LineNo) (es : List ScanEvent) : (s.setEvents l es).scanCommands = s.scanCommands := rfl
@[simp] theorem setEvents_indications (l : LineNo) (es : List ScanEvent) : (s.setEvents l es).indications = s.indications := rfl
@[simp] theorem setEvents_allocPlant (l : LineNo) (es : List ScanEvent) : (s.setEvents l es).allocPlant = s.allocPlant := rfl
@[simp] theorem setEvents_tonePlant (l : LineNo) (es : List ScanEvent) : (s.setEvents l es).tonePlant = s.tonePlant := rfl
@[simp] theorem setEvents_passDue (l : LineNo) (es : List ScanEvent) : (s.setEvents l es).passDue = s.passDue := rfl
@[simp] theorem setEvents_tapReturned (l : LineNo) (es : List ScanEvent) : (s.setEvents l es).tapReturned = s.tapReturned := rfl
@[simp] theorem setEvents_pending (l : LineNo) (es : List ScanEvent) : (s.setEvents l es).pending = s.pending := rfl

@[simp] theorem setBursts_clock (l : LineNo) (ts : List Ms) : (s.setBursts l ts).clock = s.clock := rfl
@[simp] theorem setBursts_lines (l : LineNo) (ts : List Ms) : (s.setBursts l ts).lines = s.lines := rfl
@[simp] theorem setBursts_classes (l : LineNo) (ts : List Ms) : (s.setBursts l ts).classes = s.classes := rfl
@[simp] theorem setBursts_scans (l : LineNo) (ts : List Ms) : (s.setBursts l ts).scans = s.scans := rfl
@[simp] theorem setBursts_cards (l : LineNo) (ts : List Ms) : (s.setBursts l ts).cards = s.cards := rfl
@[simp] theorem setBursts_tone (l : LineNo) (ts : List Ms) : (s.setBursts l ts).tone = s.tone := rfl
@[simp] theorem setBursts_steps (l : LineNo) (ts : List Ms) : (s.setBursts l ts).steps = s.steps := rfl
@[simp] theorem setBursts_programs (l : LineNo) (ts : List Ms) : (s.setBursts l ts).programs = s.programs := rfl
@[simp] theorem setBursts_alloc (l : LineNo) (ts : List Ms) : (s.setBursts l ts).alloc = s.alloc := rfl
@[simp] theorem setBursts_entries (l : LineNo) (ts : List Ms) : (s.setBursts l ts).entries = s.entries := rfl
@[simp] theorem setBursts_relays (l : LineNo) (ts : List Ms) : (s.setBursts l ts).relays = s.relays := rfl
@[simp] theorem setBursts_plant (l : LineNo) (ts : List Ms) : (s.setBursts l ts).plant = s.plant := rfl
@[simp] theorem setBursts_ports (l : LineNo) (ts : List Ms) : (s.setBursts l ts).ports = s.ports := rfl
@[simp] theorem setBursts_lastReset (l : LineNo) (ts : List Ms) : (s.setBursts l ts).lastReset = s.lastReset := rfl
@[simp] theorem setBursts_shelfResetDue (l : LineNo) (ts : List Ms) : (s.setBursts l ts).shelfResetDue = s.shelfResetDue := rfl
@[simp] theorem setBursts_queues (l : LineNo) (ts : List Ms) : (s.setBursts l ts).queues = s.queues := rfl
@[simp] theorem setBursts_routes (l : LineNo) (ts : List Ms) : (s.setBursts l ts).routes = s.routes := rfl
@[simp] theorem setBursts_scanEvents (l : LineNo) (ts : List Ms) : (s.setBursts l ts).scanEvents = s.scanEvents := rfl
@[simp] theorem setBursts_scanCommands (l : LineNo) (ts : List Ms) : (s.setBursts l ts).scanCommands = s.scanCommands := rfl
@[simp] theorem setBursts_indications (l : LineNo) (ts : List Ms) : (s.setBursts l ts).indications = s.indications := rfl
@[simp] theorem setBursts_allocPlant (l : LineNo) (ts : List Ms) : (s.setBursts l ts).allocPlant = s.allocPlant := rfl
@[simp] theorem setBursts_tonePlant (l : LineNo) (ts : List Ms) : (s.setBursts l ts).tonePlant = s.tonePlant := rfl
@[simp] theorem setBursts_passDue (l : LineNo) (ts : List Ms) : (s.setBursts l ts).passDue = s.passDue := rfl
@[simp] theorem setBursts_tapReturned (l : LineNo) (ts : List Ms) : (s.setBursts l ts).tapReturned = s.tapReturned := rfl
@[simp] theorem setBursts_pending (l : LineNo) (ts : List Ms) : (s.setBursts l ts).pending = s.pending := rfl

@[simp] theorem setCommands_clock (l : LineNo) (cs : List ScanCommand) : (s.setCommands l cs).clock = s.clock := rfl
@[simp] theorem setCommands_lines (l : LineNo) (cs : List ScanCommand) : (s.setCommands l cs).lines = s.lines := rfl
@[simp] theorem setCommands_classes (l : LineNo) (cs : List ScanCommand) : (s.setCommands l cs).classes = s.classes := rfl
@[simp] theorem setCommands_scans (l : LineNo) (cs : List ScanCommand) : (s.setCommands l cs).scans = s.scans := rfl
@[simp] theorem setCommands_cards (l : LineNo) (cs : List ScanCommand) : (s.setCommands l cs).cards = s.cards := rfl
@[simp] theorem setCommands_tone (l : LineNo) (cs : List ScanCommand) : (s.setCommands l cs).tone = s.tone := rfl
@[simp] theorem setCommands_steps (l : LineNo) (cs : List ScanCommand) : (s.setCommands l cs).steps = s.steps := rfl
@[simp] theorem setCommands_programs (l : LineNo) (cs : List ScanCommand) : (s.setCommands l cs).programs = s.programs := rfl
@[simp] theorem setCommands_alloc (l : LineNo) (cs : List ScanCommand) : (s.setCommands l cs).alloc = s.alloc := rfl
@[simp] theorem setCommands_entries (l : LineNo) (cs : List ScanCommand) : (s.setCommands l cs).entries = s.entries := rfl
@[simp] theorem setCommands_relays (l : LineNo) (cs : List ScanCommand) : (s.setCommands l cs).relays = s.relays := rfl
@[simp] theorem setCommands_plant (l : LineNo) (cs : List ScanCommand) : (s.setCommands l cs).plant = s.plant := rfl
@[simp] theorem setCommands_ports (l : LineNo) (cs : List ScanCommand) : (s.setCommands l cs).ports = s.ports := rfl
@[simp] theorem setCommands_lastReset (l : LineNo) (cs : List ScanCommand) : (s.setCommands l cs).lastReset = s.lastReset := rfl
@[simp] theorem setCommands_shelfResetDue (l : LineNo) (cs : List ScanCommand) : (s.setCommands l cs).shelfResetDue = s.shelfResetDue := rfl
@[simp] theorem setCommands_queues (l : LineNo) (cs : List ScanCommand) : (s.setCommands l cs).queues = s.queues := rfl
@[simp] theorem setCommands_routes (l : LineNo) (cs : List ScanCommand) : (s.setCommands l cs).routes = s.routes := rfl
@[simp] theorem setCommands_scanEvents (l : LineNo) (cs : List ScanCommand) : (s.setCommands l cs).scanEvents = s.scanEvents := rfl
@[simp] theorem setCommands_burstNotices (l : LineNo) (cs : List ScanCommand) : (s.setCommands l cs).burstNotices = s.burstNotices := rfl
@[simp] theorem setCommands_indications (l : LineNo) (cs : List ScanCommand) : (s.setCommands l cs).indications = s.indications := rfl
@[simp] theorem setCommands_allocPlant (l : LineNo) (cs : List ScanCommand) : (s.setCommands l cs).allocPlant = s.allocPlant := rfl
@[simp] theorem setCommands_tonePlant (l : LineNo) (cs : List ScanCommand) : (s.setCommands l cs).tonePlant = s.tonePlant := rfl
@[simp] theorem setCommands_passDue (l : LineNo) (cs : List ScanCommand) : (s.setCommands l cs).passDue = s.passDue := rfl
@[simp] theorem setCommands_tapReturned (l : LineNo) (cs : List ScanCommand) : (s.setCommands l cs).tapReturned = s.tapReturned := rfl
@[simp] theorem setCommands_pending (l : LineNo) (cs : List ScanCommand) : (s.setCommands l cs).pending = s.pending := rfl

@[simp] theorem setIndications_clock (l : LineNo) (js : List RingIndication) : (s.setIndications l js).clock = s.clock := rfl
@[simp] theorem setIndications_lines (l : LineNo) (js : List RingIndication) : (s.setIndications l js).lines = s.lines := rfl
@[simp] theorem setIndications_classes (l : LineNo) (js : List RingIndication) : (s.setIndications l js).classes = s.classes := rfl
@[simp] theorem setIndications_scans (l : LineNo) (js : List RingIndication) : (s.setIndications l js).scans = s.scans := rfl
@[simp] theorem setIndications_cards (l : LineNo) (js : List RingIndication) : (s.setIndications l js).cards = s.cards := rfl
@[simp] theorem setIndications_tone (l : LineNo) (js : List RingIndication) : (s.setIndications l js).tone = s.tone := rfl
@[simp] theorem setIndications_steps (l : LineNo) (js : List RingIndication) : (s.setIndications l js).steps = s.steps := rfl
@[simp] theorem setIndications_programs (l : LineNo) (js : List RingIndication) : (s.setIndications l js).programs = s.programs := rfl
@[simp] theorem setIndications_alloc (l : LineNo) (js : List RingIndication) : (s.setIndications l js).alloc = s.alloc := rfl
@[simp] theorem setIndications_entries (l : LineNo) (js : List RingIndication) : (s.setIndications l js).entries = s.entries := rfl
@[simp] theorem setIndications_relays (l : LineNo) (js : List RingIndication) : (s.setIndications l js).relays = s.relays := rfl
@[simp] theorem setIndications_plant (l : LineNo) (js : List RingIndication) : (s.setIndications l js).plant = s.plant := rfl
@[simp] theorem setIndications_ports (l : LineNo) (js : List RingIndication) : (s.setIndications l js).ports = s.ports := rfl
@[simp] theorem setIndications_lastReset (l : LineNo) (js : List RingIndication) : (s.setIndications l js).lastReset = s.lastReset := rfl
@[simp] theorem setIndications_shelfResetDue (l : LineNo) (js : List RingIndication) : (s.setIndications l js).shelfResetDue = s.shelfResetDue := rfl
@[simp] theorem setIndications_queues (l : LineNo) (js : List RingIndication) : (s.setIndications l js).queues = s.queues := rfl
@[simp] theorem setIndications_routes (l : LineNo) (js : List RingIndication) : (s.setIndications l js).routes = s.routes := rfl
@[simp] theorem setIndications_scanEvents (l : LineNo) (js : List RingIndication) : (s.setIndications l js).scanEvents = s.scanEvents := rfl
@[simp] theorem setIndications_burstNotices (l : LineNo) (js : List RingIndication) : (s.setIndications l js).burstNotices = s.burstNotices := rfl
@[simp] theorem setIndications_scanCommands (l : LineNo) (js : List RingIndication) : (s.setIndications l js).scanCommands = s.scanCommands := rfl
@[simp] theorem setIndications_allocPlant (l : LineNo) (js : List RingIndication) : (s.setIndications l js).allocPlant = s.allocPlant := rfl
@[simp] theorem setIndications_tonePlant (l : LineNo) (js : List RingIndication) : (s.setIndications l js).tonePlant = s.tonePlant := rfl
@[simp] theorem setIndications_passDue (l : LineNo) (js : List RingIndication) : (s.setIndications l js).passDue = s.passDue := rfl
@[simp] theorem setIndications_tapReturned (l : LineNo) (js : List RingIndication) : (s.setIndications l js).tapReturned = s.tapReturned := rfl
@[simp] theorem setIndications_pending (l : LineNo) (js : List RingIndication) : (s.setIndications l js).pending = s.pending := rfl

@[simp] theorem callPass_clock : (s.callPass).clock = s.clock := rfl
@[simp] theorem callPass_lines : (s.callPass).lines = s.lines := rfl
@[simp] theorem callPass_classes : (s.callPass).classes = s.classes := rfl
@[simp] theorem callPass_scans : (s.callPass).scans = s.scans := rfl
@[simp] theorem callPass_cards : (s.callPass).cards = s.cards := rfl
@[simp] theorem callPass_tone : (s.callPass).tone = s.tone := rfl
@[simp] theorem callPass_steps : (s.callPass).steps = s.steps := rfl
@[simp] theorem callPass_programs : (s.callPass).programs = s.programs := rfl
@[simp] theorem callPass_alloc : (s.callPass).alloc = s.alloc := rfl
@[simp] theorem callPass_entries : (s.callPass).entries = s.entries := rfl
@[simp] theorem callPass_relays : (s.callPass).relays = s.relays := rfl
@[simp] theorem callPass_plant : (s.callPass).plant = s.plant := rfl
@[simp] theorem callPass_ports : (s.callPass).ports = s.ports := rfl
@[simp] theorem callPass_lastReset : (s.callPass).lastReset = s.lastReset := rfl
@[simp] theorem callPass_shelfResetDue : (s.callPass).shelfResetDue = s.shelfResetDue := rfl
@[simp] theorem callPass_queues : (s.callPass).queues = s.queues := rfl
@[simp] theorem callPass_routes : (s.callPass).routes = s.routes := rfl
@[simp] theorem callPass_scanEvents : (s.callPass).scanEvents = s.scanEvents := rfl
@[simp] theorem callPass_burstNotices : (s.callPass).burstNotices = s.burstNotices := rfl
@[simp] theorem callPass_scanCommands : (s.callPass).scanCommands = s.scanCommands := rfl
@[simp] theorem callPass_indications : (s.callPass).indications = s.indications := rfl
@[simp] theorem callPass_allocPlant : (s.callPass).allocPlant = s.allocPlant := rfl
@[simp] theorem callPass_tonePlant : (s.callPass).tonePlant = s.tonePlant := rfl
@[simp] theorem callPass_tapReturned : (s.callPass).tapReturned = s.tapReturned := rfl
@[simp] theorem callPass_pending : (s.callPass).pending = s.pending := rfl

@[simp] theorem markTapReturned_clock : (s.markTapReturned).clock = s.clock := rfl
@[simp] theorem markTapReturned_lines : (s.markTapReturned).lines = s.lines := rfl
@[simp] theorem markTapReturned_classes : (s.markTapReturned).classes = s.classes := rfl
@[simp] theorem markTapReturned_scans : (s.markTapReturned).scans = s.scans := rfl
@[simp] theorem markTapReturned_cards : (s.markTapReturned).cards = s.cards := rfl
@[simp] theorem markTapReturned_tone : (s.markTapReturned).tone = s.tone := rfl
@[simp] theorem markTapReturned_steps : (s.markTapReturned).steps = s.steps := rfl
@[simp] theorem markTapReturned_programs : (s.markTapReturned).programs = s.programs := rfl
@[simp] theorem markTapReturned_alloc : (s.markTapReturned).alloc = s.alloc := rfl
@[simp] theorem markTapReturned_entries : (s.markTapReturned).entries = s.entries := rfl
@[simp] theorem markTapReturned_relays : (s.markTapReturned).relays = s.relays := rfl
@[simp] theorem markTapReturned_plant : (s.markTapReturned).plant = s.plant := rfl
@[simp] theorem markTapReturned_ports : (s.markTapReturned).ports = s.ports := rfl
@[simp] theorem markTapReturned_lastReset : (s.markTapReturned).lastReset = s.lastReset := rfl
@[simp] theorem markTapReturned_shelfResetDue : (s.markTapReturned).shelfResetDue = s.shelfResetDue := rfl
@[simp] theorem markTapReturned_queues : (s.markTapReturned).queues = s.queues := rfl
@[simp] theorem markTapReturned_routes : (s.markTapReturned).routes = s.routes := rfl
@[simp] theorem markTapReturned_scanEvents : (s.markTapReturned).scanEvents = s.scanEvents := rfl
@[simp] theorem markTapReturned_burstNotices : (s.markTapReturned).burstNotices = s.burstNotices := rfl
@[simp] theorem markTapReturned_scanCommands : (s.markTapReturned).scanCommands = s.scanCommands := rfl
@[simp] theorem markTapReturned_indications : (s.markTapReturned).indications = s.indications := rfl
@[simp] theorem markTapReturned_allocPlant : (s.markTapReturned).allocPlant = s.allocPlant := rfl
@[simp] theorem markTapReturned_tonePlant : (s.markTapReturned).tonePlant = s.tonePlant := rfl
@[simp] theorem markTapReturned_passDue : (s.markTapReturned).passDue = s.passDue := rfl
@[simp] theorem markTapReturned_pending : (s.markTapReturned).pending = s.pending := rfl

/-! ## Reading after an update of something else -/

@[simp] theorem now_setLine (l : LineNo) (r : LineRecord) : (s.setLine l r).now = s.now := rfl
@[simp] theorem classOf_setLine (l : LineNo) (r : LineRecord) (k : ClassNo) : (s.setLine l r).classOf k = s.classOf k := rfl
@[simp] theorem scan_setLine (l : LineNo) (r : LineRecord) (k : LineNo) : (s.setLine l r).scan k = s.scan k := rfl
@[simp] theorem card_setLine (l : LineNo) (r : LineRecord) (k : CardNo) : (s.setLine l r).card k = s.card k := rfl
@[simp] theorem step_setLine (l : LineNo) (r : LineRecord) (k : StepNo) : (s.setLine l r).step k = s.step k := rfl
@[simp] theorem program_setLine (l : LineNo) (r : LineRecord) (k : ProgramNo) : (s.setLine l r).program k = s.program k := rfl
@[simp] theorem entry_setLine (l : LineNo) (r : LineRecord) (k : LineNo) : (s.setLine l r).entry k = s.entry k := rfl
@[simp] theorem relay_setLine (l : LineNo) (r : LineRecord) (k : LineNo) : (s.setLine l r).relay k = s.relay k := rfl
@[simp] theorem supply_setLine (l : LineNo) (r : LineRecord) (v : Supply) : (s.setLine l r).supply v = s.supply v := by cases v <;> rfl
@[simp] theorem port_setLine (l : LineNo) (r : LineRecord) (q : Port) : (s.setLine l r).port q = s.port q := by cases q <;> rfl
@[simp] theorem queue_setLine (l : LineNo) (r : LineRecord) (q : Port) : (s.setLine l r).queue q = s.queue q := by cases q <;> rfl
@[simp] theorem eventsOf_setLine (l : LineNo) (r : LineRecord) (k : LineNo) : (s.setLine l r).eventsOf k = s.eventsOf k := rfl
@[simp] theorem burstsOf_setLine (l : LineNo) (r : LineRecord) (k : LineNo) : (s.setLine l r).burstsOf k = s.burstsOf k := rfl
@[simp] theorem commandsOf_setLine (l : LineNo) (r : LineRecord) (k : LineNo) : (s.setLine l r).commandsOf k = s.commandsOf k := rfl
@[simp] theorem indicationsOf_setLine (l : LineNo) (r : LineRecord) (k : LineNo) : (s.setLine l r).indicationsOf k = s.indicationsOf k := rfl
@[simp] theorem request_setLine (l : LineNo) (r : LineRecord) (k : LineNo) : (s.setLine l r).request k = s.request k := rfl
@[simp] theorem present_setLine (l : LineNo) (r : LineRecord) (q : Port) : (s.setLine l r).present q = s.present q := by cases q <;> rfl

@[simp] theorem now_setClass (c : ClassNo) (r : LineClass) : (s.setClass c r).now = s.now := rfl
@[simp] theorem line_setClass (c : ClassNo) (r : LineClass) (k : LineNo) : (s.setClass c r).line k = s.line k := rfl
@[simp] theorem scan_setClass (c : ClassNo) (r : LineClass) (k : LineNo) : (s.setClass c r).scan k = s.scan k := rfl
@[simp] theorem card_setClass (c : ClassNo) (r : LineClass) (k : CardNo) : (s.setClass c r).card k = s.card k := rfl
@[simp] theorem step_setClass (c : ClassNo) (r : LineClass) (k : StepNo) : (s.setClass c r).step k = s.step k := rfl
@[simp] theorem program_setClass (c : ClassNo) (r : LineClass) (k : ProgramNo) : (s.setClass c r).program k = s.program k := rfl
@[simp] theorem entry_setClass (c : ClassNo) (r : LineClass) (k : LineNo) : (s.setClass c r).entry k = s.entry k := rfl
@[simp] theorem relay_setClass (c : ClassNo) (r : LineClass) (k : LineNo) : (s.setClass c r).relay k = s.relay k := rfl
@[simp] theorem supply_setClass (c : ClassNo) (r : LineClass) (v : Supply) : (s.setClass c r).supply v = s.supply v := by cases v <;> rfl
@[simp] theorem port_setClass (c : ClassNo) (r : LineClass) (q : Port) : (s.setClass c r).port q = s.port q := by cases q <;> rfl
@[simp] theorem queue_setClass (c : ClassNo) (r : LineClass) (q : Port) : (s.setClass c r).queue q = s.queue q := by cases q <;> rfl
@[simp] theorem eventsOf_setClass (c : ClassNo) (r : LineClass) (k : LineNo) : (s.setClass c r).eventsOf k = s.eventsOf k := rfl
@[simp] theorem burstsOf_setClass (c : ClassNo) (r : LineClass) (k : LineNo) : (s.setClass c r).burstsOf k = s.burstsOf k := rfl
@[simp] theorem commandsOf_setClass (c : ClassNo) (r : LineClass) (k : LineNo) : (s.setClass c r).commandsOf k = s.commandsOf k := rfl
@[simp] theorem indicationsOf_setClass (c : ClassNo) (r : LineClass) (k : LineNo) : (s.setClass c r).indicationsOf k = s.indicationsOf k := rfl
@[simp] theorem request_setClass (c : ClassNo) (r : LineClass) (k : LineNo) : (s.setClass c r).request k = s.request k := rfl
@[simp] theorem present_setClass (c : ClassNo) (r : LineClass) (q : Port) : (s.setClass c r).present q = s.present q := by cases q <;> rfl

@[simp] theorem now_setScan (l : LineNo) (r : ScanRecord) : (s.setScan l r).now = s.now := rfl
@[simp] theorem line_setScan (l : LineNo) (r : ScanRecord) (k : LineNo) : (s.setScan l r).line k = s.line k := rfl
@[simp] theorem classOf_setScan (l : LineNo) (r : ScanRecord) (k : ClassNo) : (s.setScan l r).classOf k = s.classOf k := rfl
@[simp] theorem card_setScan (l : LineNo) (r : ScanRecord) (k : CardNo) : (s.setScan l r).card k = s.card k := rfl
@[simp] theorem step_setScan (l : LineNo) (r : ScanRecord) (k : StepNo) : (s.setScan l r).step k = s.step k := rfl
@[simp] theorem program_setScan (l : LineNo) (r : ScanRecord) (k : ProgramNo) : (s.setScan l r).program k = s.program k := rfl
@[simp] theorem entry_setScan (l : LineNo) (r : ScanRecord) (k : LineNo) : (s.setScan l r).entry k = s.entry k := rfl
@[simp] theorem relay_setScan (l : LineNo) (r : ScanRecord) (k : LineNo) : (s.setScan l r).relay k = s.relay k := rfl
@[simp] theorem supply_setScan (l : LineNo) (r : ScanRecord) (v : Supply) : (s.setScan l r).supply v = s.supply v := by cases v <;> rfl
@[simp] theorem port_setScan (l : LineNo) (r : ScanRecord) (q : Port) : (s.setScan l r).port q = s.port q := by cases q <;> rfl
@[simp] theorem queue_setScan (l : LineNo) (r : ScanRecord) (q : Port) : (s.setScan l r).queue q = s.queue q := by cases q <;> rfl
@[simp] theorem eventsOf_setScan (l : LineNo) (r : ScanRecord) (k : LineNo) : (s.setScan l r).eventsOf k = s.eventsOf k := rfl
@[simp] theorem burstsOf_setScan (l : LineNo) (r : ScanRecord) (k : LineNo) : (s.setScan l r).burstsOf k = s.burstsOf k := rfl
@[simp] theorem commandsOf_setScan (l : LineNo) (r : ScanRecord) (k : LineNo) : (s.setScan l r).commandsOf k = s.commandsOf k := rfl
@[simp] theorem indicationsOf_setScan (l : LineNo) (r : ScanRecord) (k : LineNo) : (s.setScan l r).indicationsOf k = s.indicationsOf k := rfl
@[simp] theorem request_setScan (l : LineNo) (r : ScanRecord) (k : LineNo) : (s.setScan l r).request k = s.request k := rfl
@[simp] theorem present_setScan (l : LineNo) (r : ScanRecord) (q : Port) : (s.setScan l r).present q = s.present q := by cases q <;> rfl

@[simp] theorem now_setCard (c : CardNo) (r : CardRecord) : (s.setCard c r).now = s.now := rfl
@[simp] theorem line_setCard (c : CardNo) (r : CardRecord) (k : LineNo) : (s.setCard c r).line k = s.line k := rfl
@[simp] theorem classOf_setCard (c : CardNo) (r : CardRecord) (k : ClassNo) : (s.setCard c r).classOf k = s.classOf k := rfl
@[simp] theorem scan_setCard (c : CardNo) (r : CardRecord) (k : LineNo) : (s.setCard c r).scan k = s.scan k := rfl
@[simp] theorem step_setCard (c : CardNo) (r : CardRecord) (k : StepNo) : (s.setCard c r).step k = s.step k := rfl
@[simp] theorem program_setCard (c : CardNo) (r : CardRecord) (k : ProgramNo) : (s.setCard c r).program k = s.program k := rfl
@[simp] theorem entry_setCard (c : CardNo) (r : CardRecord) (k : LineNo) : (s.setCard c r).entry k = s.entry k := rfl
@[simp] theorem relay_setCard (c : CardNo) (r : CardRecord) (k : LineNo) : (s.setCard c r).relay k = s.relay k := rfl
@[simp] theorem supply_setCard (c : CardNo) (r : CardRecord) (v : Supply) : (s.setCard c r).supply v = s.supply v := by cases v <;> rfl
@[simp] theorem port_setCard (c : CardNo) (r : CardRecord) (q : Port) : (s.setCard c r).port q = s.port q := by cases q <;> rfl
@[simp] theorem queue_setCard (c : CardNo) (r : CardRecord) (q : Port) : (s.setCard c r).queue q = s.queue q := by cases q <;> rfl
@[simp] theorem eventsOf_setCard (c : CardNo) (r : CardRecord) (k : LineNo) : (s.setCard c r).eventsOf k = s.eventsOf k := rfl
@[simp] theorem burstsOf_setCard (c : CardNo) (r : CardRecord) (k : LineNo) : (s.setCard c r).burstsOf k = s.burstsOf k := rfl
@[simp] theorem commandsOf_setCard (c : CardNo) (r : CardRecord) (k : LineNo) : (s.setCard c r).commandsOf k = s.commandsOf k := rfl
@[simp] theorem indicationsOf_setCard (c : CardNo) (r : CardRecord) (k : LineNo) : (s.setCard c r).indicationsOf k = s.indicationsOf k := rfl
@[simp] theorem request_setCard (c : CardNo) (r : CardRecord) (k : LineNo) : (s.setCard c r).request k = s.request k := rfl
@[simp] theorem present_setCard (c : CardNo) (r : CardRecord) (q : Port) : (s.setCard c r).present q = s.present q := by cases q <;> rfl

@[simp] theorem now_setStep (n : StepNo) (r : StepCell) : (s.setStep n r).now = s.now := rfl
@[simp] theorem line_setStep (n : StepNo) (r : StepCell) (k : LineNo) : (s.setStep n r).line k = s.line k := rfl
@[simp] theorem classOf_setStep (n : StepNo) (r : StepCell) (k : ClassNo) : (s.setStep n r).classOf k = s.classOf k := rfl
@[simp] theorem scan_setStep (n : StepNo) (r : StepCell) (k : LineNo) : (s.setStep n r).scan k = s.scan k := rfl
@[simp] theorem card_setStep (n : StepNo) (r : StepCell) (k : CardNo) : (s.setStep n r).card k = s.card k := rfl
@[simp] theorem program_setStep (n : StepNo) (r : StepCell) (k : ProgramNo) : (s.setStep n r).program k = s.program k := rfl
@[simp] theorem entry_setStep (n : StepNo) (r : StepCell) (k : LineNo) : (s.setStep n r).entry k = s.entry k := rfl
@[simp] theorem relay_setStep (n : StepNo) (r : StepCell) (k : LineNo) : (s.setStep n r).relay k = s.relay k := rfl
@[simp] theorem supply_setStep (n : StepNo) (r : StepCell) (v : Supply) : (s.setStep n r).supply v = s.supply v := by cases v <;> rfl
@[simp] theorem port_setStep (n : StepNo) (r : StepCell) (q : Port) : (s.setStep n r).port q = s.port q := by cases q <;> rfl
@[simp] theorem queue_setStep (n : StepNo) (r : StepCell) (q : Port) : (s.setStep n r).queue q = s.queue q := by cases q <;> rfl
@[simp] theorem eventsOf_setStep (n : StepNo) (r : StepCell) (k : LineNo) : (s.setStep n r).eventsOf k = s.eventsOf k := rfl
@[simp] theorem burstsOf_setStep (n : StepNo) (r : StepCell) (k : LineNo) : (s.setStep n r).burstsOf k = s.burstsOf k := rfl
@[simp] theorem commandsOf_setStep (n : StepNo) (r : StepCell) (k : LineNo) : (s.setStep n r).commandsOf k = s.commandsOf k := rfl
@[simp] theorem indicationsOf_setStep (n : StepNo) (r : StepCell) (k : LineNo) : (s.setStep n r).indicationsOf k = s.indicationsOf k := rfl
@[simp] theorem request_setStep (n : StepNo) (r : StepCell) (k : LineNo) : (s.setStep n r).request k = s.request k := rfl
@[simp] theorem present_setStep (n : StepNo) (r : StepCell) (q : Port) : (s.setStep n r).present q = s.present q := by cases q <;> rfl

@[simp] theorem now_setProgram (p : ProgramNo) (r : ProgramEntry) : (s.setProgram p r).now = s.now := rfl
@[simp] theorem line_setProgram (p : ProgramNo) (r : ProgramEntry) (k : LineNo) : (s.setProgram p r).line k = s.line k := rfl
@[simp] theorem classOf_setProgram (p : ProgramNo) (r : ProgramEntry) (k : ClassNo) : (s.setProgram p r).classOf k = s.classOf k := rfl
@[simp] theorem scan_setProgram (p : ProgramNo) (r : ProgramEntry) (k : LineNo) : (s.setProgram p r).scan k = s.scan k := rfl
@[simp] theorem card_setProgram (p : ProgramNo) (r : ProgramEntry) (k : CardNo) : (s.setProgram p r).card k = s.card k := rfl
@[simp] theorem step_setProgram (p : ProgramNo) (r : ProgramEntry) (k : StepNo) : (s.setProgram p r).step k = s.step k := rfl
@[simp] theorem entry_setProgram (p : ProgramNo) (r : ProgramEntry) (k : LineNo) : (s.setProgram p r).entry k = s.entry k := rfl
@[simp] theorem relay_setProgram (p : ProgramNo) (r : ProgramEntry) (k : LineNo) : (s.setProgram p r).relay k = s.relay k := rfl
@[simp] theorem supply_setProgram (p : ProgramNo) (r : ProgramEntry) (v : Supply) : (s.setProgram p r).supply v = s.supply v := by cases v <;> rfl
@[simp] theorem port_setProgram (p : ProgramNo) (r : ProgramEntry) (q : Port) : (s.setProgram p r).port q = s.port q := by cases q <;> rfl
@[simp] theorem queue_setProgram (p : ProgramNo) (r : ProgramEntry) (q : Port) : (s.setProgram p r).queue q = s.queue q := by cases q <;> rfl
@[simp] theorem eventsOf_setProgram (p : ProgramNo) (r : ProgramEntry) (k : LineNo) : (s.setProgram p r).eventsOf k = s.eventsOf k := rfl
@[simp] theorem burstsOf_setProgram (p : ProgramNo) (r : ProgramEntry) (k : LineNo) : (s.setProgram p r).burstsOf k = s.burstsOf k := rfl
@[simp] theorem commandsOf_setProgram (p : ProgramNo) (r : ProgramEntry) (k : LineNo) : (s.setProgram p r).commandsOf k = s.commandsOf k := rfl
@[simp] theorem indicationsOf_setProgram (p : ProgramNo) (r : ProgramEntry) (k : LineNo) : (s.setProgram p r).indicationsOf k = s.indicationsOf k := rfl
@[simp] theorem request_setProgram (p : ProgramNo) (r : ProgramEntry) (k : LineNo) : (s.setProgram p r).request k = s.request k := rfl
@[simp] theorem present_setProgram (p : ProgramNo) (r : ProgramEntry) (q : Port) : (s.setProgram p r).present q = s.present q := by cases q <;> rfl

@[simp] theorem now_setEntry (l : LineNo) (e : Option RingEntry) : (s.setEntry l e).now = s.now := rfl
@[simp] theorem line_setEntry (l : LineNo) (e : Option RingEntry) (k : LineNo) : (s.setEntry l e).line k = s.line k := rfl
@[simp] theorem classOf_setEntry (l : LineNo) (e : Option RingEntry) (k : ClassNo) : (s.setEntry l e).classOf k = s.classOf k := rfl
@[simp] theorem scan_setEntry (l : LineNo) (e : Option RingEntry) (k : LineNo) : (s.setEntry l e).scan k = s.scan k := rfl
@[simp] theorem card_setEntry (l : LineNo) (e : Option RingEntry) (k : CardNo) : (s.setEntry l e).card k = s.card k := rfl
@[simp] theorem step_setEntry (l : LineNo) (e : Option RingEntry) (k : StepNo) : (s.setEntry l e).step k = s.step k := rfl
@[simp] theorem program_setEntry (l : LineNo) (e : Option RingEntry) (k : ProgramNo) : (s.setEntry l e).program k = s.program k := rfl
@[simp] theorem relay_setEntry (l : LineNo) (e : Option RingEntry) (k : LineNo) : (s.setEntry l e).relay k = s.relay k := rfl
@[simp] theorem supply_setEntry (l : LineNo) (e : Option RingEntry) (v : Supply) : (s.setEntry l e).supply v = s.supply v := by cases v <;> rfl
@[simp] theorem port_setEntry (l : LineNo) (e : Option RingEntry) (q : Port) : (s.setEntry l e).port q = s.port q := by cases q <;> rfl
@[simp] theorem queue_setEntry (l : LineNo) (e : Option RingEntry) (q : Port) : (s.setEntry l e).queue q = s.queue q := by cases q <;> rfl
@[simp] theorem eventsOf_setEntry (l : LineNo) (e : Option RingEntry) (k : LineNo) : (s.setEntry l e).eventsOf k = s.eventsOf k := rfl
@[simp] theorem burstsOf_setEntry (l : LineNo) (e : Option RingEntry) (k : LineNo) : (s.setEntry l e).burstsOf k = s.burstsOf k := rfl
@[simp] theorem commandsOf_setEntry (l : LineNo) (e : Option RingEntry) (k : LineNo) : (s.setEntry l e).commandsOf k = s.commandsOf k := rfl
@[simp] theorem indicationsOf_setEntry (l : LineNo) (e : Option RingEntry) (k : LineNo) : (s.setEntry l e).indicationsOf k = s.indicationsOf k := rfl
@[simp] theorem request_setEntry (l : LineNo) (e : Option RingEntry) (k : LineNo) : (s.setEntry l e).request k = s.request k := rfl
@[simp] theorem present_setEntry (l : LineNo) (e : Option RingEntry) (q : Port) : (s.setEntry l e).present q = s.present q := by cases q <;> rfl

@[simp] theorem now_setRelay (l : LineNo) (r : Relay) : (s.setRelay l r).now = s.now := rfl
@[simp] theorem line_setRelay (l : LineNo) (r : Relay) (k : LineNo) : (s.setRelay l r).line k = s.line k := rfl
@[simp] theorem classOf_setRelay (l : LineNo) (r : Relay) (k : ClassNo) : (s.setRelay l r).classOf k = s.classOf k := rfl
@[simp] theorem scan_setRelay (l : LineNo) (r : Relay) (k : LineNo) : (s.setRelay l r).scan k = s.scan k := rfl
@[simp] theorem card_setRelay (l : LineNo) (r : Relay) (k : CardNo) : (s.setRelay l r).card k = s.card k := rfl
@[simp] theorem step_setRelay (l : LineNo) (r : Relay) (k : StepNo) : (s.setRelay l r).step k = s.step k := rfl
@[simp] theorem program_setRelay (l : LineNo) (r : Relay) (k : ProgramNo) : (s.setRelay l r).program k = s.program k := rfl
@[simp] theorem entry_setRelay (l : LineNo) (r : Relay) (k : LineNo) : (s.setRelay l r).entry k = s.entry k := rfl
@[simp] theorem supply_setRelay (l : LineNo) (r : Relay) (v : Supply) : (s.setRelay l r).supply v = s.supply v := by cases v <;> rfl
@[simp] theorem port_setRelay (l : LineNo) (r : Relay) (q : Port) : (s.setRelay l r).port q = s.port q := by cases q <;> rfl
@[simp] theorem queue_setRelay (l : LineNo) (r : Relay) (q : Port) : (s.setRelay l r).queue q = s.queue q := by cases q <;> rfl
@[simp] theorem eventsOf_setRelay (l : LineNo) (r : Relay) (k : LineNo) : (s.setRelay l r).eventsOf k = s.eventsOf k := rfl
@[simp] theorem burstsOf_setRelay (l : LineNo) (r : Relay) (k : LineNo) : (s.setRelay l r).burstsOf k = s.burstsOf k := rfl
@[simp] theorem commandsOf_setRelay (l : LineNo) (r : Relay) (k : LineNo) : (s.setRelay l r).commandsOf k = s.commandsOf k := rfl
@[simp] theorem indicationsOf_setRelay (l : LineNo) (r : Relay) (k : LineNo) : (s.setRelay l r).indicationsOf k = s.indicationsOf k := rfl
@[simp] theorem request_setRelay (l : LineNo) (r : Relay) (k : LineNo) : (s.setRelay l r).request k = s.request k := rfl
@[simp] theorem present_setRelay (l : LineNo) (r : Relay) (q : Port) : (s.setRelay l r).present q = s.present q := by cases q <;> rfl

@[simp] theorem now_setSupply (u : Supply) (r : SupplyRecord) : (s.setSupply u r).now = s.now := by cases u <;> rfl
@[simp] theorem line_setSupply (u : Supply) (r : SupplyRecord) (k : LineNo) : (s.setSupply u r).line k = s.line k := by cases u <;> rfl
@[simp] theorem classOf_setSupply (u : Supply) (r : SupplyRecord) (k : ClassNo) : (s.setSupply u r).classOf k = s.classOf k := by cases u <;> rfl
@[simp] theorem scan_setSupply (u : Supply) (r : SupplyRecord) (k : LineNo) : (s.setSupply u r).scan k = s.scan k := by cases u <;> rfl
@[simp] theorem card_setSupply (u : Supply) (r : SupplyRecord) (k : CardNo) : (s.setSupply u r).card k = s.card k := by cases u <;> rfl
@[simp] theorem step_setSupply (u : Supply) (r : SupplyRecord) (k : StepNo) : (s.setSupply u r).step k = s.step k := by cases u <;> rfl
@[simp] theorem program_setSupply (u : Supply) (r : SupplyRecord) (k : ProgramNo) : (s.setSupply u r).program k = s.program k := by cases u <;> rfl
@[simp] theorem entry_setSupply (u : Supply) (r : SupplyRecord) (k : LineNo) : (s.setSupply u r).entry k = s.entry k := by cases u <;> rfl
@[simp] theorem relay_setSupply (u : Supply) (r : SupplyRecord) (k : LineNo) : (s.setSupply u r).relay k = s.relay k := by cases u <;> rfl
@[simp] theorem port_setSupply (u : Supply) (r : SupplyRecord) (q : Port) : (s.setSupply u r).port q = s.port q := by cases u <;> cases q <;> rfl
@[simp] theorem queue_setSupply (u : Supply) (r : SupplyRecord) (q : Port) : (s.setSupply u r).queue q = s.queue q := by cases u <;> cases q <;> rfl
@[simp] theorem eventsOf_setSupply (u : Supply) (r : SupplyRecord) (k : LineNo) : (s.setSupply u r).eventsOf k = s.eventsOf k := by cases u <;> rfl
@[simp] theorem burstsOf_setSupply (u : Supply) (r : SupplyRecord) (k : LineNo) : (s.setSupply u r).burstsOf k = s.burstsOf k := by cases u <;> rfl
@[simp] theorem commandsOf_setSupply (u : Supply) (r : SupplyRecord) (k : LineNo) : (s.setSupply u r).commandsOf k = s.commandsOf k := by cases u <;> rfl
@[simp] theorem indicationsOf_setSupply (u : Supply) (r : SupplyRecord) (k : LineNo) : (s.setSupply u r).indicationsOf k = s.indicationsOf k := by cases u <;> rfl
@[simp] theorem request_setSupply (u : Supply) (r : SupplyRecord) (k : LineNo) : (s.setSupply u r).request k = s.request k := by cases u <;> rfl
@[simp] theorem present_setSupply (u : Supply) (r : SupplyRecord) (q : Port) : (s.setSupply u r).present q = s.present q := by cases u <;> cases q <;> rfl

@[simp] theorem now_setWaiting (ws : List WaitingRequest) : (s.setWaiting ws).now = s.now := rfl
@[simp] theorem line_setWaiting (ws : List WaitingRequest) (k : LineNo) : (s.setWaiting ws).line k = s.line k := rfl
@[simp] theorem classOf_setWaiting (ws : List WaitingRequest) (k : ClassNo) : (s.setWaiting ws).classOf k = s.classOf k := rfl
@[simp] theorem scan_setWaiting (ws : List WaitingRequest) (k : LineNo) : (s.setWaiting ws).scan k = s.scan k := rfl
@[simp] theorem card_setWaiting (ws : List WaitingRequest) (k : CardNo) : (s.setWaiting ws).card k = s.card k := rfl
@[simp] theorem step_setWaiting (ws : List WaitingRequest) (k : StepNo) : (s.setWaiting ws).step k = s.step k := rfl
@[simp] theorem program_setWaiting (ws : List WaitingRequest) (k : ProgramNo) : (s.setWaiting ws).program k = s.program k := rfl
@[simp] theorem entry_setWaiting (ws : List WaitingRequest) (k : LineNo) : (s.setWaiting ws).entry k = s.entry k := rfl
@[simp] theorem relay_setWaiting (ws : List WaitingRequest) (k : LineNo) : (s.setWaiting ws).relay k = s.relay k := rfl
@[simp] theorem supply_setWaiting (ws : List WaitingRequest) (v : Supply) : (s.setWaiting ws).supply v = s.supply v := by cases v <;> rfl
@[simp] theorem port_setWaiting (ws : List WaitingRequest) (q : Port) : (s.setWaiting ws).port q = s.port q := by cases q <;> rfl
@[simp] theorem queue_setWaiting (ws : List WaitingRequest) (q : Port) : (s.setWaiting ws).queue q = s.queue q := by cases q <;> rfl
@[simp] theorem eventsOf_setWaiting (ws : List WaitingRequest) (k : LineNo) : (s.setWaiting ws).eventsOf k = s.eventsOf k := rfl
@[simp] theorem burstsOf_setWaiting (ws : List WaitingRequest) (k : LineNo) : (s.setWaiting ws).burstsOf k = s.burstsOf k := rfl
@[simp] theorem commandsOf_setWaiting (ws : List WaitingRequest) (k : LineNo) : (s.setWaiting ws).commandsOf k = s.commandsOf k := rfl
@[simp] theorem indicationsOf_setWaiting (ws : List WaitingRequest) (k : LineNo) : (s.setWaiting ws).indicationsOf k = s.indicationsOf k := rfl
@[simp] theorem present_setWaiting (ws : List WaitingRequest) (q : Port) : (s.setWaiting ws).present q = s.present q := by cases q <;> rfl

@[simp] theorem now_setTone (t : TonePool) : (s.setTone t).now = s.now := rfl
@[simp] theorem line_setTone (t : TonePool) (k : LineNo) : (s.setTone t).line k = s.line k := rfl
@[simp] theorem classOf_setTone (t : TonePool) (k : ClassNo) : (s.setTone t).classOf k = s.classOf k := rfl
@[simp] theorem scan_setTone (t : TonePool) (k : LineNo) : (s.setTone t).scan k = s.scan k := rfl
@[simp] theorem card_setTone (t : TonePool) (k : CardNo) : (s.setTone t).card k = s.card k := rfl
@[simp] theorem step_setTone (t : TonePool) (k : StepNo) : (s.setTone t).step k = s.step k := rfl
@[simp] theorem program_setTone (t : TonePool) (k : ProgramNo) : (s.setTone t).program k = s.program k := rfl
@[simp] theorem entry_setTone (t : TonePool) (k : LineNo) : (s.setTone t).entry k = s.entry k := rfl
@[simp] theorem relay_setTone (t : TonePool) (k : LineNo) : (s.setTone t).relay k = s.relay k := rfl
@[simp] theorem supply_setTone (t : TonePool) (v : Supply) : (s.setTone t).supply v = s.supply v := by cases v <;> rfl
@[simp] theorem port_setTone (t : TonePool) (q : Port) : (s.setTone t).port q = s.port q := by cases q <;> rfl
@[simp] theorem queue_setTone (t : TonePool) (q : Port) : (s.setTone t).queue q = s.queue q := by cases q <;> rfl
@[simp] theorem eventsOf_setTone (t : TonePool) (k : LineNo) : (s.setTone t).eventsOf k = s.eventsOf k := rfl
@[simp] theorem burstsOf_setTone (t : TonePool) (k : LineNo) : (s.setTone t).burstsOf k = s.burstsOf k := rfl
@[simp] theorem commandsOf_setTone (t : TonePool) (k : LineNo) : (s.setTone t).commandsOf k = s.commandsOf k := rfl
@[simp] theorem indicationsOf_setTone (t : TonePool) (k : LineNo) : (s.setTone t).indicationsOf k = s.indicationsOf k := rfl
@[simp] theorem request_setTone (t : TonePool) (k : LineNo) : (s.setTone t).request k = s.request k := rfl
@[simp] theorem present_setTone (t : TonePool) (q : Port) : (s.setTone t).present q = s.present q := by cases q <;> rfl

@[simp] theorem now_setPlant (p : PlantMonitor) : (s.setPlant p).now = s.now := rfl
@[simp] theorem line_setPlant (p : PlantMonitor) (k : LineNo) : (s.setPlant p).line k = s.line k := rfl
@[simp] theorem classOf_setPlant (p : PlantMonitor) (k : ClassNo) : (s.setPlant p).classOf k = s.classOf k := rfl
@[simp] theorem scan_setPlant (p : PlantMonitor) (k : LineNo) : (s.setPlant p).scan k = s.scan k := rfl
@[simp] theorem card_setPlant (p : PlantMonitor) (k : CardNo) : (s.setPlant p).card k = s.card k := rfl
@[simp] theorem step_setPlant (p : PlantMonitor) (k : StepNo) : (s.setPlant p).step k = s.step k := rfl
@[simp] theorem program_setPlant (p : PlantMonitor) (k : ProgramNo) : (s.setPlant p).program k = s.program k := rfl
@[simp] theorem entry_setPlant (p : PlantMonitor) (k : LineNo) : (s.setPlant p).entry k = s.entry k := rfl
@[simp] theorem relay_setPlant (p : PlantMonitor) (k : LineNo) : (s.setPlant p).relay k = s.relay k := rfl
@[simp] theorem supply_setPlant (p : PlantMonitor) (v : Supply) : (s.setPlant p).supply v = s.supply v := by cases v <;> rfl
@[simp] theorem port_setPlant (p : PlantMonitor) (q : Port) : (s.setPlant p).port q = s.port q := by cases q <;> rfl
@[simp] theorem queue_setPlant (p : PlantMonitor) (q : Port) : (s.setPlant p).queue q = s.queue q := by cases q <;> rfl
@[simp] theorem eventsOf_setPlant (p : PlantMonitor) (k : LineNo) : (s.setPlant p).eventsOf k = s.eventsOf k := rfl
@[simp] theorem burstsOf_setPlant (p : PlantMonitor) (k : LineNo) : (s.setPlant p).burstsOf k = s.burstsOf k := rfl
@[simp] theorem commandsOf_setPlant (p : PlantMonitor) (k : LineNo) : (s.setPlant p).commandsOf k = s.commandsOf k := rfl
@[simp] theorem indicationsOf_setPlant (p : PlantMonitor) (k : LineNo) : (s.setPlant p).indicationsOf k = s.indicationsOf k := rfl
@[simp] theorem request_setPlant (p : PlantMonitor) (k : LineNo) : (s.setPlant p).request k = s.request k := rfl
@[simp] theorem present_setPlant (p : PlantMonitor) (q : Port) : (s.setPlant p).present q = s.present q := by cases q <;> rfl

@[simp] theorem now_setPort (p : Port) (r : PortRecord) : (s.setPort p r).now = s.now := by cases p <;> rfl
@[simp] theorem line_setPort (p : Port) (r : PortRecord) (k : LineNo) : (s.setPort p r).line k = s.line k := by cases p <;> rfl
@[simp] theorem classOf_setPort (p : Port) (r : PortRecord) (k : ClassNo) : (s.setPort p r).classOf k = s.classOf k := by cases p <;> rfl
@[simp] theorem scan_setPort (p : Port) (r : PortRecord) (k : LineNo) : (s.setPort p r).scan k = s.scan k := by cases p <;> rfl
@[simp] theorem card_setPort (p : Port) (r : PortRecord) (k : CardNo) : (s.setPort p r).card k = s.card k := by cases p <;> rfl
@[simp] theorem step_setPort (p : Port) (r : PortRecord) (k : StepNo) : (s.setPort p r).step k = s.step k := by cases p <;> rfl
@[simp] theorem program_setPort (p : Port) (r : PortRecord) (k : ProgramNo) : (s.setPort p r).program k = s.program k := by cases p <;> rfl
@[simp] theorem entry_setPort (p : Port) (r : PortRecord) (k : LineNo) : (s.setPort p r).entry k = s.entry k := by cases p <;> rfl
@[simp] theorem relay_setPort (p : Port) (r : PortRecord) (k : LineNo) : (s.setPort p r).relay k = s.relay k := by cases p <;> rfl
@[simp] theorem supply_setPort (p : Port) (r : PortRecord) (v : Supply) : (s.setPort p r).supply v = s.supply v := by cases p <;> cases v <;> rfl
@[simp] theorem queue_setPort (p : Port) (r : PortRecord) (q : Port) : (s.setPort p r).queue q = s.queue q := by cases p <;> cases q <;> rfl
@[simp] theorem eventsOf_setPort (p : Port) (r : PortRecord) (k : LineNo) : (s.setPort p r).eventsOf k = s.eventsOf k := by cases p <;> rfl
@[simp] theorem burstsOf_setPort (p : Port) (r : PortRecord) (k : LineNo) : (s.setPort p r).burstsOf k = s.burstsOf k := by cases p <;> rfl
@[simp] theorem commandsOf_setPort (p : Port) (r : PortRecord) (k : LineNo) : (s.setPort p r).commandsOf k = s.commandsOf k := by cases p <;> rfl
@[simp] theorem indicationsOf_setPort (p : Port) (r : PortRecord) (k : LineNo) : (s.setPort p r).indicationsOf k = s.indicationsOf k := by cases p <;> rfl
@[simp] theorem request_setPort (p : Port) (r : PortRecord) (k : LineNo) : (s.setPort p r).request k = s.request k := by cases p <;> rfl

@[simp] theorem now_putQueue (p : Port) (r : ReportQueue) : (s.putQueue p r).now = s.now := by cases p <;> rfl
@[simp] theorem line_putQueue (p : Port) (r : ReportQueue) (k : LineNo) : (s.putQueue p r).line k = s.line k := by cases p <;> rfl
@[simp] theorem classOf_putQueue (p : Port) (r : ReportQueue) (k : ClassNo) : (s.putQueue p r).classOf k = s.classOf k := by cases p <;> rfl
@[simp] theorem scan_putQueue (p : Port) (r : ReportQueue) (k : LineNo) : (s.putQueue p r).scan k = s.scan k := by cases p <;> rfl
@[simp] theorem card_putQueue (p : Port) (r : ReportQueue) (k : CardNo) : (s.putQueue p r).card k = s.card k := by cases p <;> rfl
@[simp] theorem step_putQueue (p : Port) (r : ReportQueue) (k : StepNo) : (s.putQueue p r).step k = s.step k := by cases p <;> rfl
@[simp] theorem program_putQueue (p : Port) (r : ReportQueue) (k : ProgramNo) : (s.putQueue p r).program k = s.program k := by cases p <;> rfl
@[simp] theorem entry_putQueue (p : Port) (r : ReportQueue) (k : LineNo) : (s.putQueue p r).entry k = s.entry k := by cases p <;> rfl
@[simp] theorem relay_putQueue (p : Port) (r : ReportQueue) (k : LineNo) : (s.putQueue p r).relay k = s.relay k := by cases p <;> rfl
@[simp] theorem supply_putQueue (p : Port) (r : ReportQueue) (v : Supply) : (s.putQueue p r).supply v = s.supply v := by cases p <;> cases v <;> rfl
@[simp] theorem port_putQueue (p : Port) (r : ReportQueue) (q : Port) : (s.putQueue p r).port q = s.port q := by cases p <;> cases q <;> rfl
@[simp] theorem eventsOf_putQueue (p : Port) (r : ReportQueue) (k : LineNo) : (s.putQueue p r).eventsOf k = s.eventsOf k := by cases p <;> rfl
@[simp] theorem burstsOf_putQueue (p : Port) (r : ReportQueue) (k : LineNo) : (s.putQueue p r).burstsOf k = s.burstsOf k := by cases p <;> rfl
@[simp] theorem commandsOf_putQueue (p : Port) (r : ReportQueue) (k : LineNo) : (s.putQueue p r).commandsOf k = s.commandsOf k := by cases p <;> rfl
@[simp] theorem indicationsOf_putQueue (p : Port) (r : ReportQueue) (k : LineNo) : (s.putQueue p r).indicationsOf k = s.indicationsOf k := by cases p <;> rfl
@[simp] theorem request_putQueue (p : Port) (r : ReportQueue) (k : LineNo) : (s.putQueue p r).request k = s.request k := by cases p <;> rfl
@[simp] theorem present_putQueue (p : Port) (r : ReportQueue) (q : Port) : (s.putQueue p r).present q = s.present q := by cases p <;> cases q <;> rfl

@[simp] theorem now_setEvents (l : LineNo) (es : List ScanEvent) : (s.setEvents l es).now = s.now := rfl
@[simp] theorem line_setEvents (l : LineNo) (es : List ScanEvent) (k : LineNo) : (s.setEvents l es).line k = s.line k := rfl
@[simp] theorem classOf_setEvents (l : LineNo) (es : List ScanEvent) (k : ClassNo) : (s.setEvents l es).classOf k = s.classOf k := rfl
@[simp] theorem scan_setEvents (l : LineNo) (es : List ScanEvent) (k : LineNo) : (s.setEvents l es).scan k = s.scan k := rfl
@[simp] theorem card_setEvents (l : LineNo) (es : List ScanEvent) (k : CardNo) : (s.setEvents l es).card k = s.card k := rfl
@[simp] theorem step_setEvents (l : LineNo) (es : List ScanEvent) (k : StepNo) : (s.setEvents l es).step k = s.step k := rfl
@[simp] theorem program_setEvents (l : LineNo) (es : List ScanEvent) (k : ProgramNo) : (s.setEvents l es).program k = s.program k := rfl
@[simp] theorem entry_setEvents (l : LineNo) (es : List ScanEvent) (k : LineNo) : (s.setEvents l es).entry k = s.entry k := rfl
@[simp] theorem relay_setEvents (l : LineNo) (es : List ScanEvent) (k : LineNo) : (s.setEvents l es).relay k = s.relay k := rfl
@[simp] theorem supply_setEvents (l : LineNo) (es : List ScanEvent) (v : Supply) : (s.setEvents l es).supply v = s.supply v := by cases v <;> rfl
@[simp] theorem port_setEvents (l : LineNo) (es : List ScanEvent) (q : Port) : (s.setEvents l es).port q = s.port q := by cases q <;> rfl
@[simp] theorem queue_setEvents (l : LineNo) (es : List ScanEvent) (q : Port) : (s.setEvents l es).queue q = s.queue q := by cases q <;> rfl
@[simp] theorem burstsOf_setEvents (l : LineNo) (es : List ScanEvent) (k : LineNo) : (s.setEvents l es).burstsOf k = s.burstsOf k := rfl
@[simp] theorem commandsOf_setEvents (l : LineNo) (es : List ScanEvent) (k : LineNo) : (s.setEvents l es).commandsOf k = s.commandsOf k := rfl
@[simp] theorem indicationsOf_setEvents (l : LineNo) (es : List ScanEvent) (k : LineNo) : (s.setEvents l es).indicationsOf k = s.indicationsOf k := rfl
@[simp] theorem request_setEvents (l : LineNo) (es : List ScanEvent) (k : LineNo) : (s.setEvents l es).request k = s.request k := rfl
@[simp] theorem present_setEvents (l : LineNo) (es : List ScanEvent) (q : Port) : (s.setEvents l es).present q = s.present q := by cases q <;> rfl

@[simp] theorem now_setBursts (l : LineNo) (ts : List Ms) : (s.setBursts l ts).now = s.now := rfl
@[simp] theorem line_setBursts (l : LineNo) (ts : List Ms) (k : LineNo) : (s.setBursts l ts).line k = s.line k := rfl
@[simp] theorem classOf_setBursts (l : LineNo) (ts : List Ms) (k : ClassNo) : (s.setBursts l ts).classOf k = s.classOf k := rfl
@[simp] theorem scan_setBursts (l : LineNo) (ts : List Ms) (k : LineNo) : (s.setBursts l ts).scan k = s.scan k := rfl
@[simp] theorem card_setBursts (l : LineNo) (ts : List Ms) (k : CardNo) : (s.setBursts l ts).card k = s.card k := rfl
@[simp] theorem step_setBursts (l : LineNo) (ts : List Ms) (k : StepNo) : (s.setBursts l ts).step k = s.step k := rfl
@[simp] theorem program_setBursts (l : LineNo) (ts : List Ms) (k : ProgramNo) : (s.setBursts l ts).program k = s.program k := rfl
@[simp] theorem entry_setBursts (l : LineNo) (ts : List Ms) (k : LineNo) : (s.setBursts l ts).entry k = s.entry k := rfl
@[simp] theorem relay_setBursts (l : LineNo) (ts : List Ms) (k : LineNo) : (s.setBursts l ts).relay k = s.relay k := rfl
@[simp] theorem supply_setBursts (l : LineNo) (ts : List Ms) (v : Supply) : (s.setBursts l ts).supply v = s.supply v := by cases v <;> rfl
@[simp] theorem port_setBursts (l : LineNo) (ts : List Ms) (q : Port) : (s.setBursts l ts).port q = s.port q := by cases q <;> rfl
@[simp] theorem queue_setBursts (l : LineNo) (ts : List Ms) (q : Port) : (s.setBursts l ts).queue q = s.queue q := by cases q <;> rfl
@[simp] theorem eventsOf_setBursts (l : LineNo) (ts : List Ms) (k : LineNo) : (s.setBursts l ts).eventsOf k = s.eventsOf k := rfl
@[simp] theorem commandsOf_setBursts (l : LineNo) (ts : List Ms) (k : LineNo) : (s.setBursts l ts).commandsOf k = s.commandsOf k := rfl
@[simp] theorem indicationsOf_setBursts (l : LineNo) (ts : List Ms) (k : LineNo) : (s.setBursts l ts).indicationsOf k = s.indicationsOf k := rfl
@[simp] theorem request_setBursts (l : LineNo) (ts : List Ms) (k : LineNo) : (s.setBursts l ts).request k = s.request k := rfl
@[simp] theorem present_setBursts (l : LineNo) (ts : List Ms) (q : Port) : (s.setBursts l ts).present q = s.present q := by cases q <;> rfl

@[simp] theorem now_setCommands (l : LineNo) (cs : List ScanCommand) : (s.setCommands l cs).now = s.now := rfl
@[simp] theorem line_setCommands (l : LineNo) (cs : List ScanCommand) (k : LineNo) : (s.setCommands l cs).line k = s.line k := rfl
@[simp] theorem classOf_setCommands (l : LineNo) (cs : List ScanCommand) (k : ClassNo) : (s.setCommands l cs).classOf k = s.classOf k := rfl
@[simp] theorem scan_setCommands (l : LineNo) (cs : List ScanCommand) (k : LineNo) : (s.setCommands l cs).scan k = s.scan k := rfl
@[simp] theorem card_setCommands (l : LineNo) (cs : List ScanCommand) (k : CardNo) : (s.setCommands l cs).card k = s.card k := rfl
@[simp] theorem step_setCommands (l : LineNo) (cs : List ScanCommand) (k : StepNo) : (s.setCommands l cs).step k = s.step k := rfl
@[simp] theorem program_setCommands (l : LineNo) (cs : List ScanCommand) (k : ProgramNo) : (s.setCommands l cs).program k = s.program k := rfl
@[simp] theorem entry_setCommands (l : LineNo) (cs : List ScanCommand) (k : LineNo) : (s.setCommands l cs).entry k = s.entry k := rfl
@[simp] theorem relay_setCommands (l : LineNo) (cs : List ScanCommand) (k : LineNo) : (s.setCommands l cs).relay k = s.relay k := rfl
@[simp] theorem supply_setCommands (l : LineNo) (cs : List ScanCommand) (v : Supply) : (s.setCommands l cs).supply v = s.supply v := by cases v <;> rfl
@[simp] theorem port_setCommands (l : LineNo) (cs : List ScanCommand) (q : Port) : (s.setCommands l cs).port q = s.port q := by cases q <;> rfl
@[simp] theorem queue_setCommands (l : LineNo) (cs : List ScanCommand) (q : Port) : (s.setCommands l cs).queue q = s.queue q := by cases q <;> rfl
@[simp] theorem eventsOf_setCommands (l : LineNo) (cs : List ScanCommand) (k : LineNo) : (s.setCommands l cs).eventsOf k = s.eventsOf k := rfl
@[simp] theorem burstsOf_setCommands (l : LineNo) (cs : List ScanCommand) (k : LineNo) : (s.setCommands l cs).burstsOf k = s.burstsOf k := rfl
@[simp] theorem indicationsOf_setCommands (l : LineNo) (cs : List ScanCommand) (k : LineNo) : (s.setCommands l cs).indicationsOf k = s.indicationsOf k := rfl
@[simp] theorem request_setCommands (l : LineNo) (cs : List ScanCommand) (k : LineNo) : (s.setCommands l cs).request k = s.request k := rfl
@[simp] theorem present_setCommands (l : LineNo) (cs : List ScanCommand) (q : Port) : (s.setCommands l cs).present q = s.present q := by cases q <;> rfl

@[simp] theorem now_setIndications (l : LineNo) (js : List RingIndication) : (s.setIndications l js).now = s.now := rfl
@[simp] theorem line_setIndications (l : LineNo) (js : List RingIndication) (k : LineNo) : (s.setIndications l js).line k = s.line k := rfl
@[simp] theorem classOf_setIndications (l : LineNo) (js : List RingIndication) (k : ClassNo) : (s.setIndications l js).classOf k = s.classOf k := rfl
@[simp] theorem scan_setIndications (l : LineNo) (js : List RingIndication) (k : LineNo) : (s.setIndications l js).scan k = s.scan k := rfl
@[simp] theorem card_setIndications (l : LineNo) (js : List RingIndication) (k : CardNo) : (s.setIndications l js).card k = s.card k := rfl
@[simp] theorem step_setIndications (l : LineNo) (js : List RingIndication) (k : StepNo) : (s.setIndications l js).step k = s.step k := rfl
@[simp] theorem program_setIndications (l : LineNo) (js : List RingIndication) (k : ProgramNo) : (s.setIndications l js).program k = s.program k := rfl
@[simp] theorem entry_setIndications (l : LineNo) (js : List RingIndication) (k : LineNo) : (s.setIndications l js).entry k = s.entry k := rfl
@[simp] theorem relay_setIndications (l : LineNo) (js : List RingIndication) (k : LineNo) : (s.setIndications l js).relay k = s.relay k := rfl
@[simp] theorem supply_setIndications (l : LineNo) (js : List RingIndication) (v : Supply) : (s.setIndications l js).supply v = s.supply v := by cases v <;> rfl
@[simp] theorem port_setIndications (l : LineNo) (js : List RingIndication) (q : Port) : (s.setIndications l js).port q = s.port q := by cases q <;> rfl
@[simp] theorem queue_setIndications (l : LineNo) (js : List RingIndication) (q : Port) : (s.setIndications l js).queue q = s.queue q := by cases q <;> rfl
@[simp] theorem eventsOf_setIndications (l : LineNo) (js : List RingIndication) (k : LineNo) : (s.setIndications l js).eventsOf k = s.eventsOf k := rfl
@[simp] theorem burstsOf_setIndications (l : LineNo) (js : List RingIndication) (k : LineNo) : (s.setIndications l js).burstsOf k = s.burstsOf k := rfl
@[simp] theorem commandsOf_setIndications (l : LineNo) (js : List RingIndication) (k : LineNo) : (s.setIndications l js).commandsOf k = s.commandsOf k := rfl
@[simp] theorem request_setIndications (l : LineNo) (js : List RingIndication) (k : LineNo) : (s.setIndications l js).request k = s.request k := rfl
@[simp] theorem present_setIndications (l : LineNo) (js : List RingIndication) (q : Port) : (s.setIndications l js).present q = s.present q := by cases q <;> rfl

@[simp] theorem now_callPass : (s.callPass).now = s.now := rfl
@[simp] theorem line_callPass (k : LineNo) : (s.callPass).line k = s.line k := rfl
@[simp] theorem classOf_callPass (k : ClassNo) : (s.callPass).classOf k = s.classOf k := rfl
@[simp] theorem scan_callPass (k : LineNo) : (s.callPass).scan k = s.scan k := rfl
@[simp] theorem card_callPass (k : CardNo) : (s.callPass).card k = s.card k := rfl
@[simp] theorem step_callPass (k : StepNo) : (s.callPass).step k = s.step k := rfl
@[simp] theorem program_callPass (k : ProgramNo) : (s.callPass).program k = s.program k := rfl
@[simp] theorem entry_callPass (k : LineNo) : (s.callPass).entry k = s.entry k := rfl
@[simp] theorem relay_callPass (k : LineNo) : (s.callPass).relay k = s.relay k := rfl
@[simp] theorem supply_callPass (v : Supply) : (s.callPass).supply v = s.supply v := by cases v <;> rfl
@[simp] theorem port_callPass (q : Port) : (s.callPass).port q = s.port q := by cases q <;> rfl
@[simp] theorem queue_callPass (q : Port) : (s.callPass).queue q = s.queue q := by cases q <;> rfl
@[simp] theorem eventsOf_callPass (k : LineNo) : (s.callPass).eventsOf k = s.eventsOf k := rfl
@[simp] theorem burstsOf_callPass (k : LineNo) : (s.callPass).burstsOf k = s.burstsOf k := rfl
@[simp] theorem commandsOf_callPass (k : LineNo) : (s.callPass).commandsOf k = s.commandsOf k := rfl
@[simp] theorem indicationsOf_callPass (k : LineNo) : (s.callPass).indicationsOf k = s.indicationsOf k := rfl
@[simp] theorem request_callPass (k : LineNo) : (s.callPass).request k = s.request k := rfl
@[simp] theorem present_callPass (q : Port) : (s.callPass).present q = s.present q := by cases q <;> rfl

@[simp] theorem now_markTapReturned : (s.markTapReturned).now = s.now := rfl
@[simp] theorem line_markTapReturned (k : LineNo) : (s.markTapReturned).line k = s.line k := rfl
@[simp] theorem classOf_markTapReturned (k : ClassNo) : (s.markTapReturned).classOf k = s.classOf k := rfl
@[simp] theorem scan_markTapReturned (k : LineNo) : (s.markTapReturned).scan k = s.scan k := rfl
@[simp] theorem card_markTapReturned (k : CardNo) : (s.markTapReturned).card k = s.card k := rfl
@[simp] theorem step_markTapReturned (k : StepNo) : (s.markTapReturned).step k = s.step k := rfl
@[simp] theorem program_markTapReturned (k : ProgramNo) : (s.markTapReturned).program k = s.program k := rfl
@[simp] theorem entry_markTapReturned (k : LineNo) : (s.markTapReturned).entry k = s.entry k := rfl
@[simp] theorem relay_markTapReturned (k : LineNo) : (s.markTapReturned).relay k = s.relay k := rfl
@[simp] theorem supply_markTapReturned (v : Supply) : (s.markTapReturned).supply v = s.supply v := by cases v <;> rfl
@[simp] theorem port_markTapReturned (q : Port) : (s.markTapReturned).port q = s.port q := by cases q <;> rfl
@[simp] theorem queue_markTapReturned (q : Port) : (s.markTapReturned).queue q = s.queue q := by cases q <;> rfl
@[simp] theorem eventsOf_markTapReturned (k : LineNo) : (s.markTapReturned).eventsOf k = s.eventsOf k := rfl
@[simp] theorem burstsOf_markTapReturned (k : LineNo) : (s.markTapReturned).burstsOf k = s.burstsOf k := rfl
@[simp] theorem commandsOf_markTapReturned (k : LineNo) : (s.markTapReturned).commandsOf k = s.commandsOf k := rfl
@[simp] theorem indicationsOf_markTapReturned (k : LineNo) : (s.markTapReturned).indicationsOf k = s.indicationsOf k := rfl
@[simp] theorem request_markTapReturned (k : LineNo) : (s.markTapReturned).request k = s.request k := rfl
@[simp] theorem present_markTapReturned (q : Port) : (s.markTapReturned).present q = s.present q := by cases q <;> rfl

/-! ## Reading what was written -/

@[simp] theorem line_setLine_same (i : LineNo) (r : LineRecord) : (s.setLine i r).line i = r := by simp [line, setLine]

@[simp] theorem line_setLine_other (i k : LineNo) (r : LineRecord) (h : k ≠ i) : (s.setLine i r).line k = s.line k := by
  simp [line, setLine, Fin.val_ne_of_ne h.symm]

@[simp] theorem classOf_setClass_same (i : ClassNo) (r : LineClass) : (s.setClass i r).classOf i = r := by simp [classOf, setClass]

@[simp] theorem classOf_setClass_other (i k : ClassNo) (r : LineClass) (h : k ≠ i) : (s.setClass i r).classOf k = s.classOf k := by
  simp [classOf, setClass, Fin.val_ne_of_ne h.symm]

@[simp] theorem scan_setScan_same (i : LineNo) (r : ScanRecord) : (s.setScan i r).scan i = r := by simp [scan, setScan]

@[simp] theorem scan_setScan_other (i k : LineNo) (r : ScanRecord) (h : k ≠ i) : (s.setScan i r).scan k = s.scan k := by
  simp [scan, setScan, Fin.val_ne_of_ne h.symm]

@[simp] theorem card_setCard_same (i : CardNo) (r : CardRecord) : (s.setCard i r).card i = r := by simp [card, setCard]

@[simp] theorem card_setCard_other (i k : CardNo) (r : CardRecord) (h : k ≠ i) : (s.setCard i r).card k = s.card k := by
  simp [card, setCard, Fin.val_ne_of_ne h.symm]

@[simp] theorem step_setStep_same (i : StepNo) (r : StepCell) : (s.setStep i r).step i = r := by simp [step, setStep]

@[simp] theorem step_setStep_other (i k : StepNo) (r : StepCell) (h : k ≠ i) : (s.setStep i r).step k = s.step k := by
  simp [step, setStep, Fin.val_ne_of_ne h.symm]

@[simp] theorem program_setProgram_same (i : ProgramNo) (r : ProgramEntry) : (s.setProgram i r).program i = r := by simp [program, setProgram]

@[simp] theorem program_setProgram_other (i k : ProgramNo) (r : ProgramEntry) (h : k ≠ i) : (s.setProgram i r).program k = s.program k := by
  simp [program, setProgram, Fin.val_ne_of_ne h.symm]

@[simp] theorem entry_setEntry_same (i : LineNo) (r : Option RingEntry) : (s.setEntry i r).entry i = r := by simp [entry, setEntry]

@[simp] theorem entry_setEntry_other (i k : LineNo) (r : Option RingEntry) (h : k ≠ i) : (s.setEntry i r).entry k = s.entry k := by
  simp [entry, setEntry, Fin.val_ne_of_ne h.symm]

@[simp] theorem relay_setRelay_same (i : LineNo) (r : Relay) : (s.setRelay i r).relay i = r := by simp [relay, setRelay]

@[simp] theorem relay_setRelay_other (i k : LineNo) (r : Relay) (h : k ≠ i) : (s.setRelay i r).relay k = s.relay k := by
  simp [relay, setRelay, Fin.val_ne_of_ne h.symm]

@[simp] theorem eventsOf_setEvents_same (i : LineNo) (r : List ScanEvent) : (s.setEvents i r).eventsOf i = r := by simp [eventsOf, setEvents]

@[simp] theorem eventsOf_setEvents_other (i k : LineNo) (r : List ScanEvent) (h : k ≠ i) : (s.setEvents i r).eventsOf k = s.eventsOf k := by
  simp [eventsOf, setEvents, Fin.val_ne_of_ne h.symm]

@[simp] theorem burstsOf_setBursts_same (i : LineNo) (r : List Ms) : (s.setBursts i r).burstsOf i = r := by simp [burstsOf, setBursts]

@[simp] theorem burstsOf_setBursts_other (i k : LineNo) (r : List Ms) (h : k ≠ i) : (s.setBursts i r).burstsOf k = s.burstsOf k := by
  simp [burstsOf, setBursts, Fin.val_ne_of_ne h.symm]

@[simp] theorem commandsOf_setCommands_same (i : LineNo) (r : List ScanCommand) : (s.setCommands i r).commandsOf i = r := by simp [commandsOf, setCommands]

@[simp] theorem commandsOf_setCommands_other (i k : LineNo) (r : List ScanCommand) (h : k ≠ i) : (s.setCommands i r).commandsOf k = s.commandsOf k := by
  simp [commandsOf, setCommands, Fin.val_ne_of_ne h.symm]

@[simp] theorem indicationsOf_setIndications_same (i : LineNo) (r : List RingIndication) : (s.setIndications i r).indicationsOf i = r := by simp [indicationsOf, setIndications]

@[simp] theorem indicationsOf_setIndications_other (i k : LineNo) (r : List RingIndication) (h : k ≠ i) : (s.setIndications i r).indicationsOf k = s.indicationsOf k := by
  simp [indicationsOf, setIndications, Fin.val_ne_of_ne h.symm]

@[simp] theorem supply_setSupply_same (i : Supply) (r : SupplyRecord) : (s.setSupply i r).supply i = r := by cases i <;> rfl

@[simp] theorem supply_setSupply_other (i k : Supply) (r : SupplyRecord) (h : k ≠ i) : (s.setSupply i r).supply k = s.supply k := by
  cases i <;> cases k <;> first | rfl | exact absurd rfl h

@[simp] theorem port_setPort_same (i : Port) (r : PortRecord) : (s.setPort i r).port i = r := by cases i <;> rfl

@[simp] theorem port_setPort_other (i k : Port) (r : PortRecord) (h : k ≠ i) : (s.setPort i r).port k = s.port k := by
  cases i <;> cases k <;> first | rfl | exact absurd rfl h

@[simp] theorem queue_putQueue_same (i : Port) (r : ReportQueue) : (s.putQueue i r).queue i = r := by cases i <;> rfl

@[simp] theorem queue_putQueue_other (i k : Port) (r : ReportQueue) (h : k ≠ i) : (s.putQueue i r).queue k = s.queue k := by
  cases i <;> cases k <;> first | rfl | exact absurd rfl h

@[simp] theorem setTone_tone (t : TonePool) : (s.setTone t).tone = t := rfl
@[simp] theorem setPlant_plant (p : PlantMonitor) : (s.setPlant p).plant = p := rfl
@[simp] theorem setWaiting_queue (q : List WaitingRequest) : (s.setWaiting q).alloc.queue = q := rfl
@[simp] theorem callPass_passDue : s.callPass.passDue = true := rfl
@[simp] theorem markTapReturned_tapReturned : s.markTapReturned.tapReturned = true := rfl

/-! ## The changes that go through an update -/

theorem modLine_eq (l : LineNo) (f : LineRecord → LineRecord) : s.modLine l f = s.setLine l (f (s.line l)) := rfl

theorem modPort_eq (p : Port) (f : PortRecord → PortRecord) : s.modPort p f = s.setPort p (f (s.port p)) := rfl

@[simp] theorem line_modLine_same (l : LineNo) (f : LineRecord → LineRecord) : (s.modLine l f).line l = f (s.line l) := by
  simp [modLine_eq]

@[simp] theorem line_modLine_other (l k : LineNo) (f : LineRecord → LineRecord) (h : k ≠ l) :
    (s.modLine l f).line k = s.line k := by
  simp [modLine_eq, h]

@[simp] theorem port_modPort_same (p : Port) (f : PortRecord → PortRecord) : (s.modPort p f).port p = f (s.port p) := by
  simp [modPort_eq]

@[simp] theorem port_modPort_other (p q : Port) (f : PortRecord → PortRecord) (h : q ≠ p) :
    (s.modPort p f).port q = s.port q := by
  simp [modPort_eq, h]

@[simp] theorem setLine_line (l : LineNo) : s.setLine l (s.line l) = s := by
  cases s; simp [setLine, line]

/-! ## Two updates of one place, and the sending of notices -/

@[simp] theorem setLine_setLine (l : LineNo) (r q : LineRecord) : (s.setLine l r).setLine l q = s.setLine l q := by
  simp [setLine]

@[simp] theorem setEntry_setEntry (l : LineNo) (r q : Option RingEntry) : (s.setEntry l r).setEntry l q = s.setEntry l q := by
  simp [setEntry]

@[simp] theorem setPort_setPort (p : Port) (r q : PortRecord) : (s.setPort p r).setPort p q = s.setPort p q := by
  cases p <;> rfl

theorem sendCommand_eq (l : LineNo) (c : ScanCommand) : s.sendCommand l c = s.setCommands l (s.commandsOf l ++ [c]) := rfl

theorem indicate_eq (l : LineNo) (i : RingIndication) : s.indicate l i = s.setIndications l (s.indicationsOf l ++ [i]) := rfl

theorem declareEvent_eq (l : LineNo) (e : ScanEvent) : s.declareEvent l e = s.setEvents l (s.eventsOf l ++ [e]) := rfl

theorem enter_eq (l : LineNo) (st : LineState) : s.enter l st = s.setLine l ((s.line l).enter st) := rfl

theorem startTimer_eq (l : LineNo) (p : TimerPurpose) (n : Nat) :
    s.startTimer l p n = s.setLine l { s.line l with timer := some ⟨p, s.now + n⟩ } := rfl

theorem stopTimer_eq (l : LineNo) : s.stopTimer l = s.setLine l { s.line l with timer := none } := rfl

end Sys2Proof.Machine.State
end

