-- ==== Sys2Proof/Laws/Reports.lean ====
section
/-! SUPPORT. What a report, a response and a presence refresh can change: the report queues and the ports, and nothing else of the
part. One frame lemma for each, and the readings that follow from it. -/

namespace Sys2Proof.Machine.State

variable (s : State)

/-! ## The frames -/

theorem setPort_frame (p : Port) (r : PortRecord) : s.setPort p r = { s with ports := (s.setPort p r).ports } := by
  cases p <;> rfl

theorem modPort_frame (p : Port) (f : PortRecord → PortRecord) : s.modPort p f = { s with ports := (s.modPort p f).ports } :=
  s.setPort_frame p _

theorem setQueue_frame (p : Port) (q : ReportQueue) :
    s.setQueue p q = { s with queues := (s.setQueue p q).queues, ports := (s.setQueue p q).ports } := by
  cases p <;> rfl

theorem setMark_frame (p : Port) (l : Option LineNo) (v : Bool) :
    s.setMark p l v = { s with queues := (s.setMark p l v).queues, ports := (s.setMark p l v).ports } := by
  cases l <;> exact s.setQueue_frame p _

theorem pushRecord_frame (p : Port) (r : Report) :
    s.pushRecord p r = { s with queues := (s.pushRecord p r).queues, ports := (s.pushRecord p r).ports } :=
  s.setQueue_frame p _

theorem deliver_frame (p : Port) (r : Report) :
    s.deliver p r = { s with queues := (s.deliver p r).queues, ports := (s.deliver p r).ports } := by
  unfold deliver
  split
  · rfl
  · split
    · rfl
    · split
      · exact s.pushRecord_frame p r
      · exact s.setMark_frame p _ _

theorem deliverAll_frame (ps : List Port) (r : Report) :
    s.deliverAll ps r = { s with queues := (s.deliverAll ps r).queues, ports := (s.deliverAll ps r).ports } := by
  induction ps generalizing s with
  | nil => rfl
  | cons p ps ih =>
    have h : s.deliverAll (p :: ps) r = (s.deliver p r).deliverAll ps r := rfl
    rw [h, ih]
    have d := s.deliver_frame p r
    generalize s.deliver p r = t at d ⊢
    rw [d]

theorem report_frame (l : LineNo) (b : ReportBody) :
    s.report l b = { s with queues := (s.report l b).queues, ports := (s.report l b).ports } := s.deliverAll_frame _ _

/-! ## A report reads the report queues, the ports, the routes, the clock and the holder -/

theorem deliver_congr {s t : State} (hq : t.queues = s.queues) (hp : t.ports = s.ports) (p : Port) (r : Report) :
    (t.deliver p r).queues = (s.deliver p r).queues ∧ (t.deliver p r).ports = (s.deliver p r).ports := by
  have e : t.deliver p r = { t with queues := (s.deliver p r).queues, ports := (s.deliver p r).ports } := by
    have pres : t.present p = s.present p := by cases p <;> simp [present, port, hp]
    have mark (l : Option LineNo) : t.marked p l = s.marked p l := by cases p <;> cases l <;> simp [marked, queue, hq]
    have qs : t.queue p = s.queue p := by cases p <;> simp [queue, hq]
    have put (q : ReportQueue) : t.setQueue p q = { t with queues := (s.setQueue p q).queues, ports := (s.setQueue p q).ports } := by
      cases p <;> simp [setQueue, putQueue, modPort, setPort, port, hq, hp]
    have same : t = { t with queues := s.queues, ports := s.ports } := by rw [← hq, ← hp]
    unfold deliver
    simp only [pres, mark, qs]
    split
    · exact same
    · split
      · exact same
      · split
        · simp only [pushRecord, qs, put]
        · cases hl : r.line <;> simp only [setMark, qs, put]
  rw [e]
  exact ⟨rfl, rfl⟩

theorem deliverAll_congr (ps : List Port) (r : Report) {s t : State} (hq : t.queues = s.queues) (hp : t.ports = s.ports) :
    (t.deliverAll ps r).queues = (s.deliverAll ps r).queues ∧ (t.deliverAll ps r).ports = (s.deliverAll ps r).ports := by
  induction ps generalizing s t with
  | nil => exact ⟨hq, hp⟩
  | cons p ps ih =>
    obtain ⟨a, b⟩ := deliver_congr hq hp p r
    exact ih a b

/-- Two states that agree in these make the same queues of one report. -/
theorem report_congr {s t : State} (l : LineNo) (b : ReportBody) (hq : t.queues = s.queues) (hp : t.ports = s.ports)
    (hr : t.routes = s.routes) (hn : t.now = s.now) (hh : (t.line l).holder = (s.line l).holder) :
    (t.report l b).queues = (s.report l b).queues ∧ (t.report l b).ports = (s.report l b).ports := by
  have e : (t.routeOf b.kind).destinations (t.line l).holder = (s.routeOf b.kind).destinations (s.line l).holder := by
    simp only [routeOf, hr, hh]
  unfold report
  rw [e, hn]
  exact deliverAll_congr _ _ hq hp

theorem reportTo_frame (p : Port) (l : LineNo) (b : ReportBody) :
    s.reportTo p l b = { s with queues := (s.reportTo p l b).queues, ports := (s.reportTo p l b).ports } := s.deliver_frame _ _

theorem reportPresent_frame (b : ReportBody) :
    s.reportPresent b = { s with queues := (s.reportPresent b).queues, ports := (s.reportPresent b).ports } :=
  s.deliverAll_frame _ _

theorem reportPortState_frame (p : Port) (n : PortState) (c : PortStateCause) :
    s.reportPortState p n c
      = { s with queues := (s.reportPortState p n c).queues, ports := (s.reportPortState p n c).ports } :=
  s.deliverAll_frame _ _

theorem abandonOffer_frame (l : LineNo) (c : AbandonCause) :
    s.abandonOffer l c = { s with queues := (s.abandonOffer l c).queues, ports := (s.abandonOffer l c).ports } := by
  unfold abandonOffer
  dsimp only
  split
  · exact s.reportTo_frame _ _ _
  · rfl

theorem sendOriginate_frame (l : LineNo) :
    s.sendOriginate l = { s with queues := (s.sendOriginate l).queues, ports := (s.sendOriginate l).ports } := by
  unfold sendOriginate
  dsimp only
  split
  · exact s.reportTo_frame _ _ _
  · rfl

theorem respond_frame (p : Port) (k : Byte) (r : Reply) :
    s.respond p k r = { s with queues := (s.respond p k r).queues, ports := (s.respond p k r).ports } := by
  cases p <;> rfl

theorem refreshPresence_frame (p : Port) :
    s.refreshPresence p = { s with queues := (s.refreshPresence p).queues, ports := (s.refreshPresence p).ports } := by
  unfold refreshPresence
  dsimp only
  split
  · rw [reportPortState_frame]; cases p <;> rfl
  · cases p <;> rfl

/-! ## Readings -/

@[simp] theorem setQueue_clock (p : Port) (q : ReportQueue) : (s.setQueue p q).clock = s.clock := by rw [setQueue_frame]
@[simp] theorem setQueue_lines (p : Port) (q : ReportQueue) : (s.setQueue p q).lines = s.lines := by rw [setQueue_frame]
@[simp] theorem setQueue_classes (p : Port) (q : ReportQueue) : (s.setQueue p q).classes = s.classes := by rw [setQueue_frame]
@[simp] theorem setQueue_tone (p : Port) (q : ReportQueue) : (s.setQueue p q).tone = s.tone := by rw [setQueue_frame]
@[simp] theorem setQueue_steps (p : Port) (q : ReportQueue) : (s.setQueue p q).steps = s.steps := by rw [setQueue_frame]
@[simp] theorem setQueue_programs (p : Port) (q : ReportQueue) : (s.setQueue p q).programs = s.programs := by rw [setQueue_frame]
@[simp] theorem setQueue_alloc (p : Port) (q : ReportQueue) : (s.setQueue p q).alloc = s.alloc := by rw [setQueue_frame]
@[simp] theorem setQueue_entries (p : Port) (q : ReportQueue) : (s.setQueue p q).entries = s.entries := by rw [setQueue_frame]
@[simp] theorem setQueue_relays (p : Port) (q : ReportQueue) : (s.setQueue p q).relays = s.relays := by rw [setQueue_frame]
@[simp] theorem setQueue_scanCommands (p : Port) (q : ReportQueue) : (s.setQueue p q).scanCommands = s.scanCommands := by rw [setQueue_frame]
@[simp] theorem setQueue_scanEvents (p : Port) (q : ReportQueue) : (s.setQueue p q).scanEvents = s.scanEvents := by rw [setQueue_frame]
@[simp] theorem setQueue_indications (p : Port) (q : ReportQueue) : (s.setQueue p q).indications = s.indications := by rw [setQueue_frame]
@[simp] theorem setQueue_allocPlant (p : Port) (q : ReportQueue) : (s.setQueue p q).allocPlant = s.allocPlant := by rw [setQueue_frame]
@[simp] theorem setQueue_tonePlant (p : Port) (q : ReportQueue) : (s.setQueue p q).tonePlant = s.tonePlant := by rw [setQueue_frame]
@[simp] theorem setQueue_passDue (p : Port) (q : ReportQueue) : (s.setQueue p q).passDue = s.passDue := by rw [setQueue_frame]
@[simp] theorem setQueue_tapReturned (p : Port) (q : ReportQueue) : (s.setQueue p q).tapReturned = s.tapReturned := by rw [setQueue_frame]
@[simp] theorem setQueue_plant (p : Port) (q : ReportQueue) : (s.setQueue p q).plant = s.plant := by rw [setQueue_frame]
@[simp] theorem setQueue_routes (p : Port) (q : ReportQueue) : (s.setQueue p q).routes = s.routes := by rw [setQueue_frame]
@[simp] theorem now_setQueue (p : Port) (q : ReportQueue) : (s.setQueue p q).now = s.now := by rw [setQueue_frame]; rfl
@[simp] theorem classOf_setQueue (p : Port) (q : ReportQueue) (c : ClassNo) : (s.setQueue p q).classOf c = s.classOf c := by rw [setQueue_frame]; rfl
@[simp] theorem line_setQueue (p : Port) (q : ReportQueue) (k : LineNo) : (s.setQueue p q).line k = s.line k := by rw [setQueue_frame]; rfl
@[simp] theorem lineClass_setQueue (p : Port) (q : ReportQueue) (k : LineNo) : (s.setQueue p q).lineClass k = s.lineClass k := by rw [setQueue_frame]; rfl
@[simp] theorem entry_setQueue (p : Port) (q : ReportQueue) (k : LineNo) : (s.setQueue p q).entry k = s.entry k := by rw [setQueue_frame]; rfl
@[simp] theorem request_setQueue (p : Port) (q : ReportQueue) (k : LineNo) : (s.setQueue p q).request k = s.request k := by rw [setQueue_frame]; rfl
@[simp] theorem relay_setQueue (p : Port) (q : ReportQueue) (k : LineNo) : (s.setQueue p q).relay k = s.relay k := by rw [setQueue_frame]; rfl
@[simp] theorem program_setQueue (p : Port) (q : ReportQueue) (g : ProgramNo) : (s.setQueue p q).program g = s.program g := by rw [setQueue_frame]; rfl
@[simp] theorem step_setQueue (p : Port) (q : ReportQueue) (i : StepNo) : (s.setQueue p q).step i = s.step i := by rw [setQueue_frame]; rfl
@[simp] theorem eventsOf_setQueue (p : Port) (q : ReportQueue) (k : LineNo) : (s.setQueue p q).eventsOf k = s.eventsOf k := by rw [setQueue_frame]; rfl
@[simp] theorem commandsOf_setQueue (p : Port) (q : ReportQueue) (k : LineNo) : (s.setQueue p q).commandsOf k = s.commandsOf k := by rw [setQueue_frame]; rfl
@[simp] theorem supply_setQueue (p : Port) (q : ReportQueue) (u : Supply) : (s.setQueue p q).supply u = s.supply u := by rw [setQueue_frame]; rfl

@[simp] theorem deliver_clock (p : Port) (r : Report) : (s.deliver p r).clock = s.clock := by rw [deliver_frame]
@[simp] theorem deliver_lines (p : Port) (r : Report) : (s.deliver p r).lines = s.lines := by rw [deliver_frame]
@[simp] theorem deliver_classes (p : Port) (r : Report) : (s.deliver p r).classes = s.classes := by rw [deliver_frame]
@[simp] theorem deliver_tone (p : Port) (r : Report) : (s.deliver p r).tone = s.tone := by rw [deliver_frame]
@[simp] theorem deliver_steps (p : Port) (r : Report) : (s.deliver p r).steps = s.steps := by rw [deliver_frame]
@[simp] theorem deliver_programs (p : Port) (r : Report) : (s.deliver p r).programs = s.programs := by rw [deliver_frame]
@[simp] theorem deliver_alloc (p : Port) (r : Report) : (s.deliver p r).alloc = s.alloc := by rw [deliver_frame]
@[simp] theorem deliver_entries (p : Port) (r : Report) : (s.deliver p r).entries = s.entries := by rw [deliver_frame]
@[simp] theorem deliver_relays (p : Port) (r : Report) : (s.deliver p r).relays = s.relays := by rw [deliver_frame]
@[simp] theorem deliver_scanCommands (p : Port) (r : Report) : (s.deliver p r).scanCommands = s.scanCommands := by rw [deliver_frame]
@[simp] theorem deliver_scanEvents (p : Port) (r : Report) : (s.deliver p r).scanEvents = s.scanEvents := by rw [deliver_frame]
@[simp] theorem deliver_indications (p : Port) (r : Report) : (s.deliver p r).indications = s.indications := by rw [deliver_frame]
@[simp] theorem deliver_allocPlant (p : Port) (r : Report) : (s.deliver p r).allocPlant = s.allocPlant := by rw [deliver_frame]
@[simp] theorem deliver_tonePlant (p : Port) (r : Report) : (s.deliver p r).tonePlant = s.tonePlant := by rw [deliver_frame]
@[simp] theorem deliver_passDue (p : Port) (r : Report) : (s.deliver p r).passDue = s.passDue := by rw [deliver_frame]
@[simp] theorem deliver_tapReturned (p : Port) (r : Report) : (s.deliver p r).tapReturned = s.tapReturned := by rw [deliver_frame]
@[simp] theorem deliver_plant (p : Port) (r : Report) : (s.deliver p r).plant = s.plant := by rw [deliver_frame]
@[simp] theorem deliver_routes (p : Port) (r : Report) : (s.deliver p r).routes = s.routes := by rw [deliver_frame]
@[simp] theorem now_deliver (p : Port) (r : Report) : (s.deliver p r).now = s.now := by rw [deliver_frame]; rfl
@[simp] theorem classOf_deliver (p : Port) (r : Report) (c : ClassNo) : (s.deliver p r).classOf c = s.classOf c := by rw [deliver_frame]; rfl
@[simp] theorem line_deliver (p : Port) (r : Report) (k : LineNo) : (s.deliver p r).line k = s.line k := by rw [deliver_frame]; rfl
@[simp] theorem lineClass_deliver (p : Port) (r : Report) (k : LineNo) : (s.deliver p r).lineClass k = s.lineClass k := by rw [deliver_frame]; rfl
@[simp] theorem entry_deliver (p : Port) (r : Report) (k : LineNo) : (s.deliver p r).entry k = s.entry k := by rw [deliver_frame]; rfl
@[simp] theorem request_deliver (p : Port) (r : Report) (k : LineNo) : (s.deliver p r).request k = s.request k := by rw [deliver_frame]; rfl
@[simp] theorem relay_deliver (p : Port) (r : Report) (k : LineNo) : (s.deliver p r).relay k = s.relay k := by rw [deliver_frame]; rfl
@[simp] theorem program_deliver (p : Port) (r : Report) (g : ProgramNo) : (s.deliver p r).program g = s.program g := by rw [deliver_frame]; rfl
@[simp] theorem step_deliver (p : Port) (r : Report) (i : StepNo) : (s.deliver p r).step i = s.step i := by rw [deliver_frame]; rfl
@[simp] theorem eventsOf_deliver (p : Port) (r : Report) (k : LineNo) : (s.deliver p r).eventsOf k = s.eventsOf k := by rw [deliver_frame]; rfl
@[simp] theorem commandsOf_deliver (p : Port) (r : Report) (k : LineNo) : (s.deliver p r).commandsOf k = s.commandsOf k := by rw [deliver_frame]; rfl
@[simp] theorem supply_deliver (p : Port) (r : Report) (u : Supply) : (s.deliver p r).supply u = s.supply u := by rw [deliver_frame]; rfl

@[simp] theorem deliverAll_clock (ps : List Port) (r : Report) : (s.deliverAll ps r).clock = s.clock := by rw [deliverAll_frame]
@[simp] theorem deliverAll_lines (ps : List Port) (r : Report) : (s.deliverAll ps r).lines = s.lines := by rw [deliverAll_frame]
@[simp] theorem deliverAll_classes (ps : List Port) (r : Report) : (s.deliverAll ps r).classes = s.classes := by rw [deliverAll_frame]
@[simp] theorem deliverAll_tone (ps : List Port) (r : Report) : (s.deliverAll ps r).tone = s.tone := by rw [deliverAll_frame]
@[simp] theorem deliverAll_steps (ps : List Port) (r : Report) : (s.deliverAll ps r).steps = s.steps := by rw [deliverAll_frame]
@[simp] theorem deliverAll_programs (ps : List Port) (r : Report) : (s.deliverAll ps r).programs = s.programs := by rw [deliverAll_frame]
@[simp] theorem deliverAll_alloc (ps : List Port) (r : Report) : (s.deliverAll ps r).alloc = s.alloc := by rw [deliverAll_frame]
@[simp] theorem deliverAll_entries (ps : List Port) (r : Report) : (s.deliverAll ps r).entries = s.entries := by rw [deliverAll_frame]
@[simp] theorem deliverAll_relays (ps : List Port) (r : Report) : (s.deliverAll ps r).relays = s.relays := by rw [deliverAll_frame]
@[simp] theorem deliverAll_scanCommands (ps : List Port) (r : Report) : (s.deliverAll ps r).scanCommands = s.scanCommands := by rw [deliverAll_frame]
@[simp] theorem deliverAll_scanEvents (ps : List Port) (r : Report) : (s.deliverAll ps r).scanEvents = s.scanEvents := by rw [deliverAll_frame]
@[simp] theorem deliverAll_indications (ps : List Port) (r : Report) : (s.deliverAll ps r).indications = s.indications := by rw [deliverAll_frame]
@[simp] theorem deliverAll_allocPlant (ps : List Port) (r : Report) : (s.deliverAll ps r).allocPlant = s.allocPlant := by rw [deliverAll_frame]
@[simp] theorem deliverAll_tonePlant (ps : List Port) (r : Report) : (s.deliverAll ps r).tonePlant = s.tonePlant := by rw [deliverAll_frame]
@[simp] theorem deliverAll_passDue (ps : List Port) (r : Report) : (s.deliverAll ps r).passDue = s.passDue := by rw [deliverAll_frame]
@[simp] theorem deliverAll_tapReturned (ps : List Port) (r : Report) : (s.deliverAll ps r).tapReturned = s.tapReturned := by rw [deliverAll_frame]
@[simp] theorem deliverAll_plant (ps : List Port) (r : Report) : (s.deliverAll ps r).plant = s.plant := by rw [deliverAll_frame]
@[simp] theorem deliverAll_routes (ps : List Port) (r : Report) : (s.deliverAll ps r).routes = s.routes := by rw [deliverAll_frame]
@[simp] theorem now_deliverAll (ps : List Port) (r : Report) : (s.deliverAll ps r).now = s.now := by rw [deliverAll_frame]; rfl
@[simp] theorem classOf_deliverAll (ps : List Port) (r : Report) (c : ClassNo) : (s.deliverAll ps r).classOf c = s.classOf c := by rw [deliverAll_frame]; rfl
@[simp] theorem line_deliverAll (ps : List Port) (r : Report) (k : LineNo) : (s.deliverAll ps r).line k = s.line k := by rw [deliverAll_frame]; rfl
@[simp] theorem lineClass_deliverAll (ps : List Port) (r : Report) (k : LineNo) : (s.deliverAll ps r).lineClass k = s.lineClass k := by rw [deliverAll_frame]; rfl
@[simp] theorem entry_deliverAll (ps : List Port) (r : Report) (k : LineNo) : (s.deliverAll ps r).entry k = s.entry k := by rw [deliverAll_frame]; rfl
@[simp] theorem request_deliverAll (ps : List Port) (r : Report) (k : LineNo) : (s.deliverAll ps r).request k = s.request k := by rw [deliverAll_frame]; rfl
@[simp] theorem relay_deliverAll (ps : List Port) (r : Report) (k : LineNo) : (s.deliverAll ps r).relay k = s.relay k := by rw [deliverAll_frame]; rfl
@[simp] theorem program_deliverAll (ps : List Port) (r : Report) (g : ProgramNo) : (s.deliverAll ps r).program g = s.program g := by rw [deliverAll_frame]; rfl
@[simp] theorem step_deliverAll (ps : List Port) (r : Report) (i : StepNo) : (s.deliverAll ps r).step i = s.step i := by rw [deliverAll_frame]; rfl
@[simp] theorem eventsOf_deliverAll (ps : List Port) (r : Report) (k : LineNo) : (s.deliverAll ps r).eventsOf k = s.eventsOf k := by rw [deliverAll_frame]; rfl
@[simp] theorem commandsOf_deliverAll (ps : List Port) (r : Report) (k : LineNo) : (s.deliverAll ps r).commandsOf k = s.commandsOf k := by rw [deliverAll_frame]; rfl
@[simp] theorem supply_deliverAll (ps : List Port) (r : Report) (u : Supply) : (s.deliverAll ps r).supply u = s.supply u := by rw [deliverAll_frame]; rfl

@[simp] theorem report_clock (l : LineNo) (b : ReportBody) : (s.report l b).clock = s.clock := by rw [report_frame]
@[simp] theorem report_lines (l : LineNo) (b : ReportBody) : (s.report l b).lines = s.lines := by rw [report_frame]
@[simp] theorem report_classes (l : LineNo) (b : ReportBody) : (s.report l b).classes = s.classes := by rw [report_frame]
@[simp] theorem report_tone (l : LineNo) (b : ReportBody) : (s.report l b).tone = s.tone := by rw [report_frame]
@[simp] theorem report_steps (l : LineNo) (b : ReportBody) : (s.report l b).steps = s.steps := by rw [report_frame]
@[simp] theorem report_programs (l : LineNo) (b : ReportBody) : (s.report l b).programs = s.programs := by rw [report_frame]
@[simp] theorem report_alloc (l : LineNo) (b : ReportBody) : (s.report l b).alloc = s.alloc := by rw [report_frame]
@[simp] theorem report_entries (l : LineNo) (b : ReportBody) : (s.report l b).entries = s.entries := by rw [report_frame]
@[simp] theorem report_relays (l : LineNo) (b : ReportBody) : (s.report l b).relays = s.relays := by rw [report_frame]
@[simp] theorem report_scanCommands (l : LineNo) (b : ReportBody) : (s.report l b).scanCommands = s.scanCommands := by rw [report_frame]
@[simp] theorem report_scanEvents (l : LineNo) (b : ReportBody) : (s.report l b).scanEvents = s.scanEvents := by rw [report_frame]
@[simp] theorem report_indications (l : LineNo) (b : ReportBody) : (s.report l b).indications = s.indications := by rw [report_frame]
@[simp] theorem report_allocPlant (l : LineNo) (b : ReportBody) : (s.report l b).allocPlant = s.allocPlant := by rw [report_frame]
@[simp] theorem report_tonePlant (l : LineNo) (b : ReportBody) : (s.report l b).tonePlant = s.tonePlant := by rw [report_frame]
@[simp] theorem report_passDue (l : LineNo) (b : ReportBody) : (s.report l b).passDue = s.passDue := by rw [report_frame]
@[simp] theorem report_tapReturned (l : LineNo) (b : ReportBody) : (s.report l b).tapReturned = s.tapReturned := by rw [report_frame]
@[simp] theorem report_plant (l : LineNo) (b : ReportBody) : (s.report l b).plant = s.plant := by rw [report_frame]
@[simp] theorem report_routes (l : LineNo) (b : ReportBody) : (s.report l b).routes = s.routes := by rw [report_frame]
@[simp] theorem now_report (l : LineNo) (b : ReportBody) : (s.report l b).now = s.now := by rw [report_frame]; rfl
@[simp] theorem classOf_report (l : LineNo) (b : ReportBody) (c : ClassNo) : (s.report l b).classOf c = s.classOf c := by rw [report_frame]; rfl
@[simp] theorem line_report (l : LineNo) (b : ReportBody) (k : LineNo) : (s.report l b).line k = s.line k := by rw [report_frame]; rfl
@[simp] theorem lineClass_report (l : LineNo) (b : ReportBody) (k : LineNo) : (s.report l b).lineClass k = s.lineClass k := by rw [report_frame]; rfl
@[simp] theorem entry_report (l : LineNo) (b : ReportBody) (k : LineNo) : (s.report l b).entry k = s.entry k := by rw [report_frame]; rfl
@[simp] theorem request_report (l : LineNo) (b : ReportBody) (k : LineNo) : (s.report l b).request k = s.request k := by rw [report_frame]; rfl
@[simp] theorem relay_report (l : LineNo) (b : ReportBody) (k : LineNo) : (s.report l b).relay k = s.relay k := by rw [report_frame]; rfl
@[simp] theorem program_report (l : LineNo) (b : ReportBody) (g : ProgramNo) : (s.report l b).program g = s.program g := by rw [report_frame]; rfl
@[simp] theorem step_report (l : LineNo) (b : ReportBody) (i : StepNo) : (s.report l b).step i = s.step i := by rw [report_frame]; rfl
@[simp] theorem eventsOf_report (l : LineNo) (b : ReportBody) (k : LineNo) : (s.report l b).eventsOf k = s.eventsOf k := by rw [report_frame]; rfl
@[simp] theorem commandsOf_report (l : LineNo) (b : ReportBody) (k : LineNo) : (s.report l b).commandsOf k = s.commandsOf k := by rw [report_frame]; rfl
@[simp] theorem supply_report (l : LineNo) (b : ReportBody) (u : Supply) : (s.report l b).supply u = s.supply u := by rw [report_frame]; rfl

@[simp] theorem reportTo_clock (p : Port) (l : LineNo) (b : ReportBody) : (s.reportTo p l b).clock = s.clock := by rw [reportTo_frame]
@[simp] theorem reportTo_lines (p : Port) (l : LineNo) (b : ReportBody) : (s.reportTo p l b).lines = s.lines := by rw [reportTo_frame]
@[simp] theorem reportTo_classes (p : Port) (l : LineNo) (b : ReportBody) : (s.reportTo p l b).classes = s.classes := by rw [reportTo_frame]
@[simp] theorem reportTo_tone (p : Port) (l : LineNo) (b : ReportBody) : (s.reportTo p l b).tone = s.tone := by rw [reportTo_frame]
@[simp] theorem reportTo_steps (p : Port) (l : LineNo) (b : ReportBody) : (s.reportTo p l b).steps = s.steps := by rw [reportTo_frame]
@[simp] theorem reportTo_programs (p : Port) (l : LineNo) (b : ReportBody) : (s.reportTo p l b).programs = s.programs := by rw [reportTo_frame]
@[simp] theorem reportTo_alloc (p : Port) (l : LineNo) (b : ReportBody) : (s.reportTo p l b).alloc = s.alloc := by rw [reportTo_frame]
@[simp] theorem reportTo_entries (p : Port) (l : LineNo) (b : ReportBody) : (s.reportTo p l b).entries = s.entries := by rw [reportTo_frame]
@[simp] theorem reportTo_relays (p : Port) (l : LineNo) (b : ReportBody) : (s.reportTo p l b).relays = s.relays := by rw [reportTo_frame]
@[simp] theorem reportTo_scanCommands (p : Port) (l : LineNo) (b : ReportBody) : (s.reportTo p l b).scanCommands = s.scanCommands := by rw [reportTo_frame]
@[simp] theorem reportTo_scanEvents (p : Port) (l : LineNo) (b : ReportBody) : (s.reportTo p l b).scanEvents = s.scanEvents := by rw [reportTo_frame]
@[simp] theorem reportTo_indications (p : Port) (l : LineNo) (b : ReportBody) : (s.reportTo p l b).indications = s.indications := by rw [reportTo_frame]
@[simp] theorem reportTo_allocPlant (p : Port) (l : LineNo) (b : ReportBody) : (s.reportTo p l b).allocPlant = s.allocPlant := by rw [reportTo_frame]
@[simp] theorem reportTo_tonePlant (p : Port) (l : LineNo) (b : ReportBody) : (s.reportTo p l b).tonePlant = s.tonePlant := by rw [reportTo_frame]
@[simp] theorem reportTo_passDue (p : Port) (l : LineNo) (b : ReportBody) : (s.reportTo p l b).passDue = s.passDue := by rw [reportTo_frame]
@[simp] theorem reportTo_tapReturned (p : Port) (l : LineNo) (b : ReportBody) : (s.reportTo p l b).tapReturned = s.tapReturned := by rw [reportTo_frame]
@[simp] theorem reportTo_plant (p : Port) (l : LineNo) (b : ReportBody) : (s.reportTo p l b).plant = s.plant := by rw [reportTo_frame]
@[simp] theorem reportTo_routes (p : Port) (l : LineNo) (b : ReportBody) : (s.reportTo p l b).routes = s.routes := by rw [reportTo_frame]
@[simp] theorem now_reportTo (p : Port) (l : LineNo) (b : ReportBody) : (s.reportTo p l b).now = s.now := by rw [reportTo_frame]; rfl
@[simp] theorem classOf_reportTo (p : Port) (l : LineNo) (b : ReportBody) (c : ClassNo) : (s.reportTo p l b).classOf c = s.classOf c := by rw [reportTo_frame]; rfl
@[simp] theorem line_reportTo (p : Port) (l : LineNo) (b : ReportBody) (k : LineNo) : (s.reportTo p l b).line k = s.line k := by rw [reportTo_frame]; rfl
@[simp] theorem lineClass_reportTo (p : Port) (l : LineNo) (b : ReportBody) (k : LineNo) : (s.reportTo p l b).lineClass k = s.lineClass k := by rw [reportTo_frame]; rfl
@[simp] theorem entry_reportTo (p : Port) (l : LineNo) (b : ReportBody) (k : LineNo) : (s.reportTo p l b).entry k = s.entry k := by rw [reportTo_frame]; rfl
@[simp] theorem request_reportTo (p : Port) (l : LineNo) (b : ReportBody) (k : LineNo) : (s.reportTo p l b).request k = s.request k := by rw [reportTo_frame]; rfl
@[simp] theorem relay_reportTo (p : Port) (l : LineNo) (b : ReportBody) (k : LineNo) : (s.reportTo p l b).relay k = s.relay k := by rw [reportTo_frame]; rfl
@[simp] theorem program_reportTo (p : Port) (l : LineNo) (b : ReportBody) (g : ProgramNo) : (s.reportTo p l b).program g = s.program g := by rw [reportTo_frame]; rfl
@[simp] theorem step_reportTo (p : Port) (l : LineNo) (b : ReportBody) (i : StepNo) : (s.reportTo p l b).step i = s.step i := by rw [reportTo_frame]; rfl
@[simp] theorem eventsOf_reportTo (p : Port) (l : LineNo) (b : ReportBody) (k : LineNo) : (s.reportTo p l b).eventsOf k = s.eventsOf k := by rw [reportTo_frame]; rfl
@[simp] theorem commandsOf_reportTo (p : Port) (l : LineNo) (b : ReportBody) (k : LineNo) : (s.reportTo p l b).commandsOf k = s.commandsOf k := by rw [reportTo_frame]; rfl
@[simp] theorem supply_reportTo (p : Port) (l : LineNo) (b : ReportBody) (u : Supply) : (s.reportTo p l b).supply u = s.supply u := by rw [reportTo_frame]; rfl

@[simp] theorem reportPresent_clock (b : ReportBody) : (s.reportPresent b).clock = s.clock := by rw [reportPresent_frame]
@[simp] theorem reportPresent_lines (b : ReportBody) : (s.reportPresent b).lines = s.lines := by rw [reportPresent_frame]
@[simp] theorem reportPresent_classes (b : ReportBody) : (s.reportPresent b).classes = s.classes := by rw [reportPresent_frame]
@[simp] theorem reportPresent_tone (b : ReportBody) : (s.reportPresent b).tone = s.tone := by rw [reportPresent_frame]
@[simp] theorem reportPresent_steps (b : ReportBody) : (s.reportPresent b).steps = s.steps := by rw [reportPresent_frame]
@[simp] theorem reportPresent_programs (b : ReportBody) : (s.reportPresent b).programs = s.programs := by rw [reportPresent_frame]
@[simp] theorem reportPresent_alloc (b : ReportBody) : (s.reportPresent b).alloc = s.alloc := by rw [reportPresent_frame]
@[simp] theorem reportPresent_entries (b : ReportBody) : (s.reportPresent b).entries = s.entries := by rw [reportPresent_frame]
@[simp] theorem reportPresent_relays (b : ReportBody) : (s.reportPresent b).relays = s.relays := by rw [reportPresent_frame]
@[simp] theorem reportPresent_scanCommands (b : ReportBody) : (s.reportPresent b).scanCommands = s.scanCommands := by rw [reportPresent_frame]
@[simp] theorem reportPresent_scanEvents (b : ReportBody) : (s.reportPresent b).scanEvents = s.scanEvents := by rw [reportPresent_frame]
@[simp] theorem reportPresent_indications (b : ReportBody) : (s.reportPresent b).indications = s.indications := by rw [reportPresent_frame]
@[simp] theorem reportPresent_allocPlant (b : ReportBody) : (s.reportPresent b).allocPlant = s.allocPlant := by rw [reportPresent_frame]
@[simp] theorem reportPresent_tonePlant (b : ReportBody) : (s.reportPresent b).tonePlant = s.tonePlant := by rw [reportPresent_frame]
@[simp] theorem reportPresent_passDue (b : ReportBody) : (s.reportPresent b).passDue = s.passDue := by rw [reportPresent_frame]
@[simp] theorem reportPresent_tapReturned (b : ReportBody) : (s.reportPresent b).tapReturned = s.tapReturned := by rw [reportPresent_frame]
@[simp] theorem reportPresent_plant (b : ReportBody) : (s.reportPresent b).plant = s.plant := by rw [reportPresent_frame]
@[simp] theorem reportPresent_routes (b : ReportBody) : (s.reportPresent b).routes = s.routes := by rw [reportPresent_frame]
@[simp] theorem now_reportPresent (b : ReportBody) : (s.reportPresent b).now = s.now := by rw [reportPresent_frame]; rfl
@[simp] theorem classOf_reportPresent (b : ReportBody) (c : ClassNo) : (s.reportPresent b).classOf c = s.classOf c := by rw [reportPresent_frame]; rfl
@[simp] theorem line_reportPresent (b : ReportBody) (k : LineNo) : (s.reportPresent b).line k = s.line k := by rw [reportPresent_frame]; rfl
@[simp] theorem lineClass_reportPresent (b : ReportBody) (k : LineNo) : (s.reportPresent b).lineClass k = s.lineClass k := by rw [reportPresent_frame]; rfl
@[simp] theorem entry_reportPresent (b : ReportBody) (k : LineNo) : (s.reportPresent b).entry k = s.entry k := by rw [reportPresent_frame]; rfl
@[simp] theorem request_reportPresent (b : ReportBody) (k : LineNo) : (s.reportPresent b).request k = s.request k := by rw [reportPresent_frame]; rfl
@[simp] theorem relay_reportPresent (b : ReportBody) (k : LineNo) : (s.reportPresent b).relay k = s.relay k := by rw [reportPresent_frame]; rfl
@[simp] theorem program_reportPresent (b : ReportBody) (g : ProgramNo) : (s.reportPresent b).program g = s.program g := by rw [reportPresent_frame]; rfl
@[simp] theorem step_reportPresent (b : ReportBody) (i : StepNo) : (s.reportPresent b).step i = s.step i := by rw [reportPresent_frame]; rfl
@[simp] theorem eventsOf_reportPresent (b : ReportBody) (k : LineNo) : (s.reportPresent b).eventsOf k = s.eventsOf k := by rw [reportPresent_frame]; rfl
@[simp] theorem commandsOf_reportPresent (b : ReportBody) (k : LineNo) : (s.reportPresent b).commandsOf k = s.commandsOf k := by rw [reportPresent_frame]; rfl
@[simp] theorem supply_reportPresent (b : ReportBody) (u : Supply) : (s.reportPresent b).supply u = s.supply u := by rw [reportPresent_frame]; rfl

@[simp] theorem reportPortState_clock (p : Port) (n : PortState) (a : PortStateCause) : (s.reportPortState p n a).clock = s.clock := by rw [reportPortState_frame]
@[simp] theorem reportPortState_lines (p : Port) (n : PortState) (a : PortStateCause) : (s.reportPortState p n a).lines = s.lines := by rw [reportPortState_frame]
@[simp] theorem reportPortState_classes (p : Port) (n : PortState) (a : PortStateCause) : (s.reportPortState p n a).classes = s.classes := by rw [reportPortState_frame]
@[simp] theorem reportPortState_tone (p : Port) (n : PortState) (a : PortStateCause) : (s.reportPortState p n a).tone = s.tone := by rw [reportPortState_frame]
@[simp] theorem reportPortState_steps (p : Port) (n : PortState) (a : PortStateCause) : (s.reportPortState p n a).steps = s.steps := by rw [reportPortState_frame]
@[simp] theorem reportPortState_programs (p : Port) (n : PortState) (a : PortStateCause) : (s.reportPortState p n a).programs = s.programs := by rw [reportPortState_frame]
@[simp] theorem reportPortState_alloc (p : Port) (n : PortState) (a : PortStateCause) : (s.reportPortState p n a).alloc = s.alloc := by rw [reportPortState_frame]
@[simp] theorem reportPortState_entries (p : Port) (n : PortState) (a : PortStateCause) : (s.reportPortState p n a).entries = s.entries := by rw [reportPortState_frame]
@[simp] theorem reportPortState_relays (p : Port) (n : PortState) (a : PortStateCause) : (s.reportPortState p n a).relays = s.relays := by rw [reportPortState_frame]
@[simp] theorem reportPortState_scanCommands (p : Port) (n : PortState) (a : PortStateCause) : (s.reportPortState p n a).scanCommands = s.scanCommands := by rw [reportPortState_frame]
@[simp] theorem reportPortState_scanEvents (p : Port) (n : PortState) (a : PortStateCause) : (s.reportPortState p n a).scanEvents = s.scanEvents := by rw [reportPortState_frame]
@[simp] theorem reportPortState_indications (p : Port) (n : PortState) (a : PortStateCause) : (s.reportPortState p n a).indications = s.indications := by rw [reportPortState_frame]
@[simp] theorem reportPortState_allocPlant (p : Port) (n : PortState) (a : PortStateCause) : (s.reportPortState p n a).allocPlant = s.allocPlant := by rw [reportPortState_frame]
@[simp] theorem reportPortState_tonePlant (p : Port) (n : PortState) (a : PortStateCause) : (s.reportPortState p n a).tonePlant = s.tonePlant := by rw [reportPortState_frame]
@[simp] theorem reportPortState_passDue (p : Port) (n : PortState) (a : PortStateCause) : (s.reportPortState p n a).passDue = s.passDue := by rw [reportPortState_frame]
@[simp] theorem reportPortState_tapReturned (p : Port) (n : PortState) (a : PortStateCause) : (s.reportPortState p n a).tapReturned = s.tapReturned := by rw [reportPortState_frame]
@[simp] theorem reportPortState_plant (p : Port) (n : PortState) (a : PortStateCause) : (s.reportPortState p n a).plant = s.plant := by rw [reportPortState_frame]
@[simp] theorem reportPortState_routes (p : Port) (n : PortState) (a : PortStateCause) : (s.reportPortState p n a).routes = s.routes := by rw [reportPortState_frame]
@[simp] theorem now_reportPortState (p : Port) (n : PortState) (a : PortStateCause) : (s.reportPortState p n a).now = s.now := by rw [reportPortState_frame]; rfl
@[simp] theorem classOf_reportPortState (p : Port) (n : PortState) (a : PortStateCause) (c : ClassNo) : (s.reportPortState p n a).classOf c = s.classOf c := by rw [reportPortState_frame]; rfl
@[simp] theorem line_reportPortState (p : Port) (n : PortState) (a : PortStateCause) (k : LineNo) : (s.reportPortState p n a).line k = s.line k := by rw [reportPortState_frame]; rfl
@[simp] theorem lineClass_reportPortState (p : Port) (n : PortState) (a : PortStateCause) (k : LineNo) : (s.reportPortState p n a).lineClass k = s.lineClass k := by rw [reportPortState_frame]; rfl
@[simp] theorem entry_reportPortState (p : Port) (n : PortState) (a : PortStateCause) (k : LineNo) : (s.reportPortState p n a).entry k = s.entry k := by rw [reportPortState_frame]; rfl
@[simp] theorem request_reportPortState (p : Port) (n : PortState) (a : PortStateCause) (k : LineNo) : (s.reportPortState p n a).request k = s.request k := by rw [reportPortState_frame]; rfl
@[simp] theorem relay_reportPortState (p : Port) (n : PortState) (a : PortStateCause) (k : LineNo) : (s.reportPortState p n a).relay k = s.relay k := by rw [reportPortState_frame]; rfl
@[simp] theorem program_reportPortState (p : Port) (n : PortState) (a : PortStateCause) (g : ProgramNo) : (s.reportPortState p n a).program g = s.program g := by rw [reportPortState_frame]; rfl
@[simp] theorem step_reportPortState (p : Port) (n : PortState) (a : PortStateCause) (i : StepNo) : (s.reportPortState p n a).step i = s.step i := by rw [reportPortState_frame]; rfl
@[simp] theorem eventsOf_reportPortState (p : Port) (n : PortState) (a : PortStateCause) (k : LineNo) : (s.reportPortState p n a).eventsOf k = s.eventsOf k := by rw [reportPortState_frame]; rfl
@[simp] theorem commandsOf_reportPortState (p : Port) (n : PortState) (a : PortStateCause) (k : LineNo) : (s.reportPortState p n a).commandsOf k = s.commandsOf k := by rw [reportPortState_frame]; rfl
@[simp] theorem supply_reportPortState (p : Port) (n : PortState) (a : PortStateCause) (u : Supply) : (s.reportPortState p n a).supply u = s.supply u := by rw [reportPortState_frame]; rfl

@[simp] theorem abandonOffer_clock (l : LineNo) (a : AbandonCause) : (s.abandonOffer l a).clock = s.clock := by rw [abandonOffer_frame]
@[simp] theorem abandonOffer_lines (l : LineNo) (a : AbandonCause) : (s.abandonOffer l a).lines = s.lines := by rw [abandonOffer_frame]
@[simp] theorem abandonOffer_classes (l : LineNo) (a : AbandonCause) : (s.abandonOffer l a).classes = s.classes := by rw [abandonOffer_frame]
@[simp] theorem abandonOffer_tone (l : LineNo) (a : AbandonCause) : (s.abandonOffer l a).tone = s.tone := by rw [abandonOffer_frame]
@[simp] theorem abandonOffer_steps (l : LineNo) (a : AbandonCause) : (s.abandonOffer l a).steps = s.steps := by rw [abandonOffer_frame]
@[simp] theorem abandonOffer_programs (l : LineNo) (a : AbandonCause) : (s.abandonOffer l a).programs = s.programs := by rw [abandonOffer_frame]
@[simp] theorem abandonOffer_alloc (l : LineNo) (a : AbandonCause) : (s.abandonOffer l a).alloc = s.alloc := by rw [abandonOffer_frame]
@[simp] theorem abandonOffer_entries (l : LineNo) (a : AbandonCause) : (s.abandonOffer l a).entries = s.entries := by rw [abandonOffer_frame]
@[simp] theorem abandonOffer_relays (l : LineNo) (a : AbandonCause) : (s.abandonOffer l a).relays = s.relays := by rw [abandonOffer_frame]
@[simp] theorem abandonOffer_scanCommands (l : LineNo) (a : AbandonCause) : (s.abandonOffer l a).scanCommands = s.scanCommands := by rw [abandonOffer_frame]
@[simp] theorem abandonOffer_scanEvents (l : LineNo) (a : AbandonCause) : (s.abandonOffer l a).scanEvents = s.scanEvents := by rw [abandonOffer_frame]
@[simp] theorem abandonOffer_indications (l : LineNo) (a : AbandonCause) : (s.abandonOffer l a).indications = s.indications := by rw [abandonOffer_frame]
@[simp] theorem abandonOffer_allocPlant (l : LineNo) (a : AbandonCause) : (s.abandonOffer l a).allocPlant = s.allocPlant := by rw [abandonOffer_frame]
@[simp] theorem abandonOffer_tonePlant (l : LineNo) (a : AbandonCause) : (s.abandonOffer l a).tonePlant = s.tonePlant := by rw [abandonOffer_frame]
@[simp] theorem abandonOffer_passDue (l : LineNo) (a : AbandonCause) : (s.abandonOffer l a).passDue = s.passDue := by rw [abandonOffer_frame]
@[simp] theorem abandonOffer_tapReturned (l : LineNo) (a : AbandonCause) : (s.abandonOffer l a).tapReturned = s.tapReturned := by rw [abandonOffer_frame]
@[simp] theorem abandonOffer_plant (l : LineNo) (a : AbandonCause) : (s.abandonOffer l a).plant = s.plant := by rw [abandonOffer_frame]
@[simp] theorem abandonOffer_routes (l : LineNo) (a : AbandonCause) : (s.abandonOffer l a).routes = s.routes := by rw [abandonOffer_frame]
@[simp] theorem now_abandonOffer (l : LineNo) (a : AbandonCause) : (s.abandonOffer l a).now = s.now := by rw [abandonOffer_frame]; rfl
@[simp] theorem classOf_abandonOffer (l : LineNo) (a : AbandonCause) (c : ClassNo) : (s.abandonOffer l a).classOf c = s.classOf c := by rw [abandonOffer_frame]; rfl
@[simp] theorem line_abandonOffer (l : LineNo) (a : AbandonCause) (k : LineNo) : (s.abandonOffer l a).line k = s.line k := by rw [abandonOffer_frame]; rfl
@[simp] theorem lineClass_abandonOffer (l : LineNo) (a : AbandonCause) (k : LineNo) : (s.abandonOffer l a).lineClass k = s.lineClass k := by rw [abandonOffer_frame]; rfl
@[simp] theorem entry_abandonOffer (l : LineNo) (a : AbandonCause) (k : LineNo) : (s.abandonOffer l a).entry k = s.entry k := by rw [abandonOffer_frame]; rfl
@[simp] theorem request_abandonOffer (l : LineNo) (a : AbandonCause) (k : LineNo) : (s.abandonOffer l a).request k = s.request k := by rw [abandonOffer_frame]; rfl
@[simp] theorem relay_abandonOffer (l : LineNo) (a : AbandonCause) (k : LineNo) : (s.abandonOffer l a).relay k = s.relay k := by rw [abandonOffer_frame]; rfl
@[simp] theorem program_abandonOffer (l : LineNo) (a : AbandonCause) (g : ProgramNo) : (s.abandonOffer l a).program g = s.program g := by rw [abandonOffer_frame]; rfl
@[simp] theorem step_abandonOffer (l : LineNo) (a : AbandonCause) (i : StepNo) : (s.abandonOffer l a).step i = s.step i := by rw [abandonOffer_frame]; rfl
@[simp] theorem eventsOf_abandonOffer (l : LineNo) (a : AbandonCause) (k : LineNo) : (s.abandonOffer l a).eventsOf k = s.eventsOf k := by rw [abandonOffer_frame]; rfl
@[simp] theorem commandsOf_abandonOffer (l : LineNo) (a : AbandonCause) (k : LineNo) : (s.abandonOffer l a).commandsOf k = s.commandsOf k := by rw [abandonOffer_frame]; rfl
@[simp] theorem supply_abandonOffer (l : LineNo) (a : AbandonCause) (u : Supply) : (s.abandonOffer l a).supply u = s.supply u := by rw [abandonOffer_frame]; rfl

@[simp] theorem sendOriginate_clock (l : LineNo) : (s.sendOriginate l).clock = s.clock := by rw [sendOriginate_frame]
@[simp] theorem sendOriginate_lines (l : LineNo) : (s.sendOriginate l).lines = s.lines := by rw [sendOriginate_frame]
@[simp] theorem sendOriginate_classes (l : LineNo) : (s.sendOriginate l).classes = s.classes := by rw [sendOriginate_frame]
@[simp] theorem sendOriginate_tone (l : LineNo) : (s.sendOriginate l).tone = s.tone := by rw [sendOriginate_frame]
@[simp] theorem sendOriginate_steps (l : LineNo) : (s.sendOriginate l).steps = s.steps := by rw [sendOriginate_frame]
@[simp] theorem sendOriginate_programs (l : LineNo) : (s.sendOriginate l).programs = s.programs := by rw [sendOriginate_frame]
@[simp] theorem sendOriginate_alloc (l : LineNo) : (s.sendOriginate l).alloc = s.alloc := by rw [sendOriginate_frame]
@[simp] theorem sendOriginate_entries (l : LineNo) : (s.sendOriginate l).entries = s.entries := by rw [sendOriginate_frame]
@[simp] theorem sendOriginate_relays (l : LineNo) : (s.sendOriginate l).relays = s.relays := by rw [sendOriginate_frame]
@[simp] theorem sendOriginate_scanCommands (l : LineNo) : (s.sendOriginate l).scanCommands = s.scanCommands := by rw [sendOriginate_frame]
@[simp] theorem sendOriginate_scanEvents (l : LineNo) : (s.sendOriginate l).scanEvents = s.scanEvents := by rw [sendOriginate_frame]
@[simp] theorem sendOriginate_indications (l : LineNo) : (s.sendOriginate l).indications = s.indications := by rw [sendOriginate_frame]
@[simp] theorem sendOriginate_allocPlant (l : LineNo) : (s.sendOriginate l).allocPlant = s.allocPlant := by rw [sendOriginate_frame]
@[simp] theorem sendOriginate_tonePlant (l : LineNo) : (s.sendOriginate l).tonePlant = s.tonePlant := by rw [sendOriginate_frame]
@[simp] theorem sendOriginate_passDue (l : LineNo) : (s.sendOriginate l).passDue = s.passDue := by rw [sendOriginate_frame]
@[simp] theorem sendOriginate_tapReturned (l : LineNo) : (s.sendOriginate l).tapReturned = s.tapReturned := by rw [sendOriginate_frame]
@[simp] theorem sendOriginate_plant (l : LineNo) : (s.sendOriginate l).plant = s.plant := by rw [sendOriginate_frame]
@[simp] theorem sendOriginate_routes (l : LineNo) : (s.sendOriginate l).routes = s.routes := by rw [sendOriginate_frame]
@[simp] theorem now_sendOriginate (l : LineNo) : (s.sendOriginate l).now = s.now := by rw [sendOriginate_frame]; rfl
@[simp] theorem classOf_sendOriginate (l : LineNo) (c : ClassNo) : (s.sendOriginate l).classOf c = s.classOf c := by rw [sendOriginate_frame]; rfl
@[simp] theorem line_sendOriginate (l : LineNo) (k : LineNo) : (s.sendOriginate l).line k = s.line k := by rw [sendOriginate_frame]; rfl
@[simp] theorem lineClass_sendOriginate (l : LineNo) (k : LineNo) : (s.sendOriginate l).lineClass k = s.lineClass k := by rw [sendOriginate_frame]; rfl
@[simp] theorem entry_sendOriginate (l : LineNo) (k : LineNo) : (s.sendOriginate l).entry k = s.entry k := by rw [sendOriginate_frame]; rfl
@[simp] theorem request_sendOriginate (l : LineNo) (k : LineNo) : (s.sendOriginate l).request k = s.request k := by rw [sendOriginate_frame]; rfl
@[simp] theorem relay_sendOriginate (l : LineNo) (k : LineNo) : (s.sendOriginate l).relay k = s.relay k := by rw [sendOriginate_frame]; rfl
@[simp] theorem program_sendOriginate (l : LineNo) (g : ProgramNo) : (s.sendOriginate l).program g = s.program g := by rw [sendOriginate_frame]; rfl
@[simp] theorem step_sendOriginate (l : LineNo) (i : StepNo) : (s.sendOriginate l).step i = s.step i := by rw [sendOriginate_frame]; rfl
@[simp] theorem eventsOf_sendOriginate (l : LineNo) (k : LineNo) : (s.sendOriginate l).eventsOf k = s.eventsOf k := by rw [sendOriginate_frame]; rfl
@[simp] theorem commandsOf_sendOriginate (l : LineNo) (k : LineNo) : (s.sendOriginate l).commandsOf k = s.commandsOf k := by rw [sendOriginate_frame]; rfl
@[simp] theorem supply_sendOriginate (l : LineNo) (u : Supply) : (s.sendOriginate l).supply u = s.supply u := by rw [sendOriginate_frame]; rfl

@[simp] theorem respond_clock (p : Port) (kind : Byte) (r : Reply) : (s.respond p kind r).clock = s.clock := by rw [respond_frame]
@[simp] theorem respond_lines (p : Port) (kind : Byte) (r : Reply) : (s.respond p kind r).lines = s.lines := by rw [respond_frame]
@[simp] theorem respond_classes (p : Port) (kind : Byte) (r : Reply) : (s.respond p kind r).classes = s.classes := by rw [respond_frame]
@[simp] theorem respond_tone (p : Port) (kind : Byte) (r : Reply) : (s.respond p kind r).tone = s.tone := by rw [respond_frame]
@[simp] theorem respond_steps (p : Port) (kind : Byte) (r : Reply) : (s.respond p kind r).steps = s.steps := by rw [respond_frame]
@[simp] theorem respond_programs (p : Port) (kind : Byte) (r : Reply) : (s.respond p kind r).programs = s.programs := by rw [respond_frame]
@[simp] theorem respond_alloc (p : Port) (kind : Byte) (r : Reply) : (s.respond p kind r).alloc = s.alloc := by rw [respond_frame]
@[simp] theorem respond_entries (p : Port) (kind : Byte) (r : Reply) : (s.respond p kind r).entries = s.entries := by rw [respond_frame]
@[simp] theorem respond_relays (p : Port) (kind : Byte) (r : Reply) : (s.respond p kind r).relays = s.relays := by rw [respond_frame]
@[simp] theorem respond_scanCommands (p : Port) (kind : Byte) (r : Reply) : (s.respond p kind r).scanCommands = s.scanCommands := by rw [respond_frame]
@[simp] theorem respond_scanEvents (p : Port) (kind : Byte) (r : Reply) : (s.respond p kind r).scanEvents = s.scanEvents := by rw [respond_frame]
@[simp] theorem respond_indications (p : Port) (kind : Byte) (r : Reply) : (s.respond p kind r).indications = s.indications := by rw [respond_frame]
@[simp] theorem respond_allocPlant (p : Port) (kind : Byte) (r : Reply) : (s.respond p kind r).allocPlant = s.allocPlant := by rw [respond_frame]
@[simp] theorem respond_tonePlant (p : Port) (kind : Byte) (r : Reply) : (s.respond p kind r).tonePlant = s.tonePlant := by rw [respond_frame]
@[simp] theorem respond_passDue (p : Port) (kind : Byte) (r : Reply) : (s.respond p kind r).passDue = s.passDue := by rw [respond_frame]
@[simp] theorem respond_tapReturned (p : Port) (kind : Byte) (r : Reply) : (s.respond p kind r).tapReturned = s.tapReturned := by rw [respond_frame]
@[simp] theorem respond_plant (p : Port) (kind : Byte) (r : Reply) : (s.respond p kind r).plant = s.plant := by rw [respond_frame]
@[simp] theorem respond_routes (p : Port) (kind : Byte) (r : Reply) : (s.respond p kind r).routes = s.routes := by rw [respond_frame]
@[simp] theorem now_respond (p : Port) (kind : Byte) (r : Reply) : (s.respond p kind r).now = s.now := by rw [respond_frame]; rfl
@[simp] theorem classOf_respond (p : Port) (kind : Byte) (r : Reply) (c : ClassNo) : (s.respond p kind r).classOf c = s.classOf c := by rw [respond_frame]; rfl
@[simp] theorem line_respond (p : Port) (kind : Byte) (r : Reply) (k : LineNo) : (s.respond p kind r).line k = s.line k := by rw [respond_frame]; rfl
@[simp] theorem lineClass_respond (p : Port) (kind : Byte) (r : Reply) (k : LineNo) : (s.respond p kind r).lineClass k = s.lineClass k := by rw [respond_frame]; rfl
@[simp] theorem entry_respond (p : Port) (kind : Byte) (r : Reply) (k : LineNo) : (s.respond p kind r).entry k = s.entry k := by rw [respond_frame]; rfl
@[simp] theorem request_respond (p : Port) (kind : Byte) (r : Reply) (k : LineNo) : (s.respond p kind r).request k = s.request k := by rw [respond_frame]; rfl
@[simp] theorem relay_respond (p : Port) (kind : Byte) (r : Reply) (k : LineNo) : (s.respond p kind r).relay k = s.relay k := by rw [respond_frame]; rfl
@[simp] theorem program_respond (p : Port) (kind : Byte) (r : Reply) (g : ProgramNo) : (s.respond p kind r).program g = s.program g := by rw [respond_frame]; rfl
@[simp] theorem step_respond (p : Port) (kind : Byte) (r : Reply) (i : StepNo) : (s.respond p kind r).step i = s.step i := by rw [respond_frame]; rfl
@[simp] theorem eventsOf_respond (p : Port) (kind : Byte) (r : Reply) (k : LineNo) : (s.respond p kind r).eventsOf k = s.eventsOf k := by rw [respond_frame]; rfl
@[simp] theorem commandsOf_respond (p : Port) (kind : Byte) (r : Reply) (k : LineNo) : (s.respond p kind r).commandsOf k = s.commandsOf k := by rw [respond_frame]; rfl
@[simp] theorem supply_respond (p : Port) (kind : Byte) (r : Reply) (u : Supply) : (s.respond p kind r).supply u = s.supply u := by rw [respond_frame]; rfl

@[simp] theorem refreshPresence_clock (p : Port) : (s.refreshPresence p).clock = s.clock := by rw [refreshPresence_frame]
@[simp] theorem refreshPresence_lines (p : Port) : (s.refreshPresence p).lines = s.lines := by rw [refreshPresence_frame]
@[simp] theorem refreshPresence_classes (p : Port) : (s.refreshPresence p).classes = s.classes := by rw [refreshPresence_frame]
@[simp] theorem refreshPresence_tone (p : Port) : (s.refreshPresence p).tone = s.tone := by rw [refreshPresence_frame]
@[simp] theorem refreshPresence_steps (p : Port) : (s.refreshPresence p).steps = s.steps := by rw [refreshPresence_frame]
@[simp] theorem refreshPresence_programs (p : Port) : (s.refreshPresence p).programs = s.programs := by rw [refreshPresence_frame]
@[simp] theorem refreshPresence_alloc (p : Port) : (s.refreshPresence p).alloc = s.alloc := by rw [refreshPresence_frame]
@[simp] theorem refreshPresence_entries (p : Port) : (s.refreshPresence p).entries = s.entries := by rw [refreshPresence_frame]
@[simp] theorem refreshPresence_relays (p : Port) : (s.refreshPresence p).relays = s.relays := by rw [refreshPresence_frame]
@[simp] theorem refreshPresence_scanCommands (p : Port) : (s.refreshPresence p).scanCommands = s.scanCommands := by rw [refreshPresence_frame]
@[simp] theorem refreshPresence_scanEvents (p : Port) : (s.refreshPresence p).scanEvents = s.scanEvents := by rw [refreshPresence_frame]
@[simp] theorem refreshPresence_indications (p : Port) : (s.refreshPresence p).indications = s.indications := by rw [refreshPresence_frame]
@[simp] theorem refreshPresence_allocPlant (p : Port) : (s.refreshPresence p).allocPlant = s.allocPlant := by rw [refreshPresence_frame]
@[simp] theorem refreshPresence_tonePlant (p : Port) : (s.refreshPresence p).tonePlant = s.tonePlant := by rw [refreshPresence_frame]
@[simp] theorem refreshPresence_passDue (p : Port) : (s.refreshPresence p).passDue = s.passDue := by rw [refreshPresence_frame]
@[simp] theorem refreshPresence_tapReturned (p : Port) : (s.refreshPresence p).tapReturned = s.tapReturned := by rw [refreshPresence_frame]
@[simp] theorem refreshPresence_plant (p : Port) : (s.refreshPresence p).plant = s.plant := by rw [refreshPresence_frame]
@[simp] theorem refreshPresence_routes (p : Port) : (s.refreshPresence p).routes = s.routes := by rw [refreshPresence_frame]
@[simp] theorem now_refreshPresence (p : Port) : (s.refreshPresence p).now = s.now := by rw [refreshPresence_frame]; rfl
@[simp] theorem classOf_refreshPresence (p : Port) (c : ClassNo) : (s.refreshPresence p).classOf c = s.classOf c := by rw [refreshPresence_frame]; rfl
@[simp] theorem line_refreshPresence (p : Port) (k : LineNo) : (s.refreshPresence p).line k = s.line k := by rw [refreshPresence_frame]; rfl
@[simp] theorem lineClass_refreshPresence (p : Port) (k : LineNo) : (s.refreshPresence p).lineClass k = s.lineClass k := by rw [refreshPresence_frame]; rfl
@[simp] theorem entry_refreshPresence (p : Port) (k : LineNo) : (s.refreshPresence p).entry k = s.entry k := by rw [refreshPresence_frame]; rfl
@[simp] theorem request_refreshPresence (p : Port) (k : LineNo) : (s.refreshPresence p).request k = s.request k := by rw [refreshPresence_frame]; rfl
@[simp] theorem relay_refreshPresence (p : Port) (k : LineNo) : (s.refreshPresence p).relay k = s.relay k := by rw [refreshPresence_frame]; rfl
@[simp] theorem program_refreshPresence (p : Port) (g : ProgramNo) : (s.refreshPresence p).program g = s.program g := by rw [refreshPresence_frame]; rfl
@[simp] theorem step_refreshPresence (p : Port) (i : StepNo) : (s.refreshPresence p).step i = s.step i := by rw [refreshPresence_frame]; rfl
@[simp] theorem eventsOf_refreshPresence (p : Port) (k : LineNo) : (s.refreshPresence p).eventsOf k = s.eventsOf k := by rw [refreshPresence_frame]; rfl
@[simp] theorem commandsOf_refreshPresence (p : Port) (k : LineNo) : (s.refreshPresence p).commandsOf k = s.commandsOf k := by rw [refreshPresence_frame]; rfl
@[simp] theorem supply_refreshPresence (p : Port) (u : Supply) : (s.refreshPresence p).supply u = s.supply u := by rw [refreshPresence_frame]; rfl

end Sys2Proof.Machine.State
end

