-- ==== Sys2Proof/Laws/Tone.lean ====
section
/-! SUPPORT. What the grants of the Tone Pool can do (R57, R58): they change the pool and the records of lines that wait for tone,
take no tap away and give none to a line that did not wait. -/

namespace Sys2Proof.Machine.State

/-- `t` is `s` after some grants: only the pool and lines differ, a line that did not wait in `s` has its record, a tap that was
assigned stays, a tap that is new belongs to a line that waited, and who waits in `t` waited in `s`. -/
def AfterGrants (s t : State) : Prop :=
  t = { s with lines := t.lines, tone := t.tone }
  ∧ (∀ k, (∀ w ∈ s.tone.queue, w.line ≠ k) → t.line k = s.line k)
  ∧ (∀ (k : Fin 12) (l : LineNo), s.tone.taps[k] = some l → t.tone.taps[k] = some l)
  ∧ (∀ (k : Fin 12) (l : LineNo), t.tone.taps[k] = some l → s.tone.taps[k] = some l ∨ ∃ w ∈ s.tone.queue, w.line = l)
  ∧ (∀ w ∈ t.tone.queue, w ∈ s.tone.queue)

theorem afterGrants_refl (s : State) : AfterGrants s s :=
  ⟨rfl, fun _ _ => rfl, fun _ _ h => h, fun _ _ h => .inl h, fun _ h => h⟩

theorem afterGrants_trans {s t u : State} (a : AfterGrants s t) (b : AfterGrants t u) : AfterGrants s u := by
  obtain ⟨a1, a2, a3, a4, a5⟩ := a
  obtain ⟨b1, b2, b3, b4, b5⟩ := b
  refine ⟨?_, ?_, fun k l h => b3 k l (a3 k l h), ?_, fun w h => a5 w (b5 w h)⟩
  · rw [b1, a1]
  · intro k h
    rw [b2 k (fun w hw => h w (a5 w hw)), a2 k h]
  · intro k l h
    rcases b4 k l h with h | ⟨w, hw, rfl⟩
    · exact a4 k l h
    · exact .inr ⟨w, a5 w hw, rfl⟩

/-- A free tap that the pool finds is free. -/
theorem freeTap_free {t : TonePool} {k : Fin 12} (h : t.freeTap = some k) : t.taps[k] = none := by
  have := List.find?_some h
  simpa using this

/-- The free tap that the pool finds is the lowest-numbered one (R56). -/
theorem freeTap_eq_some {t : TonePool} {k : Fin 12} :
    t.freeTap = some k ↔ t.taps[k] = none ∧ ∀ j : Fin 12, j < k → t.taps[j] ≠ none := by
  have at_ (i : Nat) (h : i < allTaps.length) : allTaps[i] = Fin.ofNat 12 i := by simp [allTaps]
  have ofNat (i : Fin 12) : Fin.ofNat 12 i.val = i := Fin.ofNat_val_eq_self i
  have len : allTaps.length = 12 := rfl
  rw [TonePool.freeTap, List.find?_eq_some_iff_getElem]
  refine ⟨fun ⟨h, i, hi, e, before⟩ => ⟨by simpa using h, fun j hj => ?_⟩, fun ⟨h, before⟩ => ⟨by simpa using h, k.val, by rw [len]; exact k.isLt, ?_, ?_⟩⟩
  · have hi' : i < 12 := len ▸ hi
    have ik : k.val = i := by rw [← e, at_ i hi]; simp [Fin.ofNat, Nat.mod_eq_of_lt hi']
    have b := before j.val (ik ▸ hj)
    rw [at_, ofNat] at b
    simpa [← Option.isSome_iff_ne_none] using b
  · exact (at_ k.val (by rw [len]; exact k.isLt)).trans (ofNat k)
  · intro j hj
    have b := before ⟨j, by omega⟩ hj
    rw [at_]
    have e : Fin.ofNat 12 j = ⟨j, by omega⟩ := Fin.ext (Nat.mod_eq_of_lt (by omega))
    rw [e]
    simpa [Option.isSome_iff_ne_none] using b

theorem freeTap_eq_none {t : TonePool} : t.freeTap = none ↔ ∀ k : Fin 12, t.taps[k] ≠ none := by
  refine ⟨fun h k e => ?_, fun h => ?_⟩
  · have := List.find?_eq_none.1 h k (by simp only [allTaps, List.mem_map, List.mem_range]; exact ⟨k.val, k.isLt, Fin.ofNat_val_eq_self k⟩)
    simp [e] at this
  · exact List.find?_eq_none.2 fun k _ => by simpa using h k

theorem grantHead_after (s : State) : AfterGrants s s.grantHead := by
  unfold grantHead
  split
  · rename_i w rest k hq hk
    have free := freeTap_free hk
    refine ⟨rfl, ?_, ?_, ?_, ?_⟩
    · intro j h
      have : j ≠ w.line := fun e => h w (by rw [hq]; exact List.mem_cons_self) e.symm
      simp [assignTap, this]
    · intro j l h
      have : j ≠ k := by
        rintro rfl
        rw [free] at h
        cases h
      simp [assignTap, modLine_eq, Fin.val_ne_of_ne this.symm]
      simpa using h
    · intro j l h
      by_cases e : j = k
      · subst e
        simp [assignTap, modLine_eq] at h
        exact .inr ⟨w, by rw [hq]; exact List.mem_cons_self, h⟩
      · simp [assignTap, modLine_eq, Fin.val_ne_of_ne (Ne.symm e)] at h
        exact .inl (by simpa using h)
    · intro x hx
      simp [assignTap, modLine_eq] at hx
      rw [hq]
      exact List.mem_cons_of_mem _ hx
  · exact s.afterGrants_refl

theorem grantLoop_after (n : Nat) (s : State) : AfterGrants s (grantLoop n s) := by
  induction n generalizing s with
  | zero => exact s.afterGrants_refl
  | succ n ih =>
    unfold grantLoop
    split
    · exact afterGrants_trans s.grantHead_after (ih _)
    · exact s.afterGrants_refl

/-- All that granting can do. -/
theorem grantAll_after (s : State) : AfterGrants s s.grantAll := grantLoop_after _ s

/-- The grants at the end of an event, up to the mark they clear. -/
theorem settleTone_after (s : State) : ∃ t, AfterGrants s t ∧ s.settleTone = { t with tapReturned := false } := by
  unfold settleTone
  split
  · exact ⟨s.grantAll, s.grantAll_after, rfl⟩
  · rename_i h
    refine ⟨s, s.afterGrants_refl, ?_⟩
    cases s
    simp only [Bool.not_eq_true] at h
    subst h
    rfl

/-- A new tap limit changes the limit and makes grants, no more (R58). -/
theorem setTapLimit_after (s : State) (n : Nat) :
    AfterGrants (s.setTone { s.tone with currentLimit := n }) (s.setTapLimit n) := by
  unfold setTapLimit
  dsimp only
  split
  · exact grantAll_after _
  · exact afterGrants_refl _

/-- Asking for a tap calls for nothing at the end of the event. -/
@[simp] theorem askTone_passDue (s : State) (l : LineNo) : (s.askTone l).passDue = s.passDue := by
  unfold askTone
  split
  · split <;> rfl
  · rfl

@[simp] theorem askTone_tapReturned (s : State) (l : LineNo) : (s.askTone l).tapReturned = s.tapReturned := by
  unfold askTone
  split
  · split <;> rfl
  · rfl

/-- Asking for a tap changes the pool and the record of the line, no more. -/
theorem askTone_frame (s : State) (l : LineNo) :
    s.askTone l = { s with lines := s.lines.set l ((s.askTone l).line l), tone := (s.askTone l).tone } := by
  unfold askTone
  split
  · split <;> simp [assignTap, State.enter, joinToneQueue, modLine_eq, setLine, setTone, line]
  · simp [joinToneQueue, modLine_eq, setLine, setTone, line]

/-- Giving up tone changes the pool and the mark of a returned tap, no more. -/
theorem giveUpTone_frame (s : State) (l : LineNo) :
    s.giveUpTone l = { s with tone := (s.giveUpTone l).tone, tapReturned := (s.giveUpTone l).tapReturned } := by
  unfold giveUpTone
  split <;> rfl

/-- A line outside TONE_WAIT and DIAL_TONE gives up nothing. -/
theorem giveUpTone_eq (s : State) (l : LineNo) (h1 : (s.line l).state ≠ .dialTone) (h2 : (s.line l).state ≠ .toneWait) :
    s.giveUpTone l = s := by
  unfold giveUpTone
  split <;> simp_all

end Sys2Proof.Machine.State
end

