-- ==== Sys2Proof/Laws/Lines.lean ====
section
/-! SUPPORT. What the entries of a line into PARKED and CLEARED, an origination and the giving up of tone come to. -/

namespace Sys2Proof.Machine.State

open Sys2Proof.Safety

variable (s : State) (l : LineNo)

theorem enterIdle_eq : s.enterIdle l = s.setLine l ((s.line l).enter .idle) := rfl

/-- A line enters PARKED: the park release runs from the present time when the hook field is ON (R18). -/
theorem enterParked_eq (why : ParkReason) :
    s.enterParked l why
      = s.setLine l { (s.line l).enter .parked with
          parkReason := some why
          timer := if (s.line l).hook = .on then some ⟨.parkRelease, s.now + (s.lineClass l).parkRelease⟩ else none } := by
  simp only [enterParked, modLine_eq, startTimer_eq, line_setLine_same, lineClass, now_setLine, classOf_setLine]
  split <;> rename_i h <;> simp [LineRecord.enter] at h <;> simp [h, LineRecord.enter]

/-- A line that the absent port neither holds nor is offered is left alone (R156 step 4). -/
theorem lineAbsent_unconcerned (p : Port) (h : (s.line l).holder ≠ some p) (h2 : (s.line l).offeredPort ≠ some p) :
    s.lineAbsent p l = s := by
  simp [lineAbsent, h, h2]

/-- A held call of the absent port becomes an orphan (R5). -/
theorem lineAbsent_held (p : Port) (h : (s.line l).holder = some p) (h2 : (s.line l).state = .held ∨ (s.line l).state = .recalling) :
    s.lineAbsent p l = (s.modLine l fun r => { r with holder := none, orphan := true }).report l .orphaned := by
  rcases h2 with h2 | h2 <;> simp [lineAbsent, h, h2, orphanLine]

/-- A line enters CLEARED with its holder (R80). -/
theorem enterCleared_eq :
    s.enterCleared l
      = s.setLine l { (s.line l).enter .cleared with
          reorigination := some ((s.line l).hook == .off)
          timer := some ⟨.releaseWait, s.now + (s.lineClass l).releaseWait⟩ } := by
  simp [enterCleared, modLine_eq, startTimer_eq, lineClass, LineRecord.enter]

@[simp] theorem offerTo_passDue (st : OfferStage) (p : Port) : (s.offerTo l st p).passDue = s.passDue := by
  simp [offerTo, modLine_eq]

@[simp] theorem offerTo_tapReturned (st : OfferStage) (p : Port) : (s.offerTo l st p).tapReturned = s.tapReturned := by
  simp [offerTo, modLine_eq]

/-- An origination calls for no pass. -/
@[simp] theorem originate_passDue : (s.originate l).passDue = s.passDue := by
  unfold originate
  split <;> simp [enterParked_eq, modLine_eq, startTimer_eq]

/-- An origination returns no tap. -/
@[simp] theorem originate_tapReturned : (s.originate l).tapReturned = s.tapReturned := by
  unfold originate
  split <;> simp [enterParked_eq, modLine_eq, startTimer_eq]

@[simp] theorem line_giveUpTone (k : LineNo) : (s.giveUpTone l).line k = s.line k := by rw [giveUpTone_frame]; rfl
@[simp] theorem now_giveUpTone : (s.giveUpTone l).now = s.now := by rw [giveUpTone_frame]; rfl
@[simp] theorem classOf_giveUpTone (c : ClassNo) : (s.giveUpTone l).classOf c = s.classOf c := by rw [giveUpTone_frame]; rfl
@[simp] theorem giveUpTone_passDue : (s.giveUpTone l).passDue = s.passDue := by rw [giveUpTone_frame]

/-- After giving up tone a line holds no tap and stands in no queue, and nobody joins the queue (R57). -/
theorem giveUpTone_clears (h : ToneAgrees s) :
    (∀ k : Fin 12, (s.giveUpTone l).tone.taps[k] ≠ some l)
    ∧ (∀ w ∈ (s.giveUpTone l).tone.queue, w.line ≠ l)
    ∧ ∀ w ∈ (s.giveUpTone l).tone.queue, w ∈ s.tone.queue := by
  obtain ⟨waits, taps⟩ := h.2 l
  unfold giveUpTone
  split
  · rename_i e
    refine ⟨?_, ?_, fun w hw => hw⟩
    · intro k
      simp only [setTone, TonePool.freeTapsOf, markTapReturned, Fin.getElem_fin, Vector.getElem_ofFn]
      simp
    · intro w hw at_l
      have := waits.1 ⟨w, hw, at_l⟩
      simp [this] at e
  · rename_i e
    refine ⟨?_, ?_, ?_⟩
    · intro k hk
      have := taps.1 ⟨k, by simpa [TonePool.withdraw] using hk⟩
      simp [this] at e
    · intro w hw
      simp [TonePool.withdraw] at hw
      exact hw.2
    · intro w hw
      simp [TonePool.withdraw] at hw
      exact hw.1
  · rename_i e1 e2
    exact ⟨fun k hk => e1 (taps.1 ⟨k, hk⟩), fun w hw e => e2 (waits.1 ⟨w, hw, e⟩), fun w hw => hw⟩

end Sys2Proof.Machine.State
end

