-- ==== Sys2Proof/Laws/Requests.lean ====
section
/-! SUPPORT. What taking a request comes to, once for all 32 of them; the end of a settled event; and the operand forms that the
owners share. Later proofs cite these and unfold neither `takeRequest` nor `finish`. -/

namespace Sys2Proof.Machine

open Sys2Proof.Safety

namespace State

variable (s : State)

/-! ## The end of an event -/

theorem settleTone_eq (h : s.tapReturned = false) : s.settleTone = s := by simp [settleTone, h]

theorem settlePasses_eq (h : s.passDue = false) : s.settlePasses = s := by simp [settlePasses, runPasses, h]

/-- An event that calls for no pass and returns no tap ends as it stands. -/
theorem finish_eq (hp : s.passDue = false) (ht : s.tapReturned = false) : s.finish = s := by
  simp [finish, settleTone_eq s ht, settlePasses_eq s hp]

/-- No pass is due once the passes have run, whatever the fuel. -/
theorem runPasses_passDue (n : Nat) : (runPasses n s).passDue = false := by
  induction n generalizing s with
  | zero => rfl
  | succ n ih =>
    unfold runPasses
    split
    · exact ih _
    · rename_i h
      simpa using h

/-! ## The part after a request is taken -/

@[simp] theorem respond_def_ports (p : Port) (k : Byte) (r : Reply) :
    (s.respond p k r).port p
      = { s.port p with
          sent := (s.port p).sent ++ [responseFrame k r], notes := (s.port p).notes ++ r.noteAt (s.port p).sent.length } := by
  simp [respond, modPort_eq]

@[simp] theorem noteAt_refuse (r : Result) (n : Nat) : (Reply.refuse r).noteAt n = [] := rfl

@[simp] theorem noteAt_okWith (d : List Byte) (n : Nat) : (Reply.okWith d).noteAt n = [] := rfl

@[simp] theorem noteAt_ok (n : Nat) : Reply.ok.noteAt n = [] := rfl

@[simp] theorem noteAt_refuseFor (r : Result) (c : CommitCause) (n : Nat) :
    (Reply.refuseFor r c).noteAt n = [(n, .cause c)] := rfl

@[simp] theorem noteAt_okShowing (d : List Byte) (sh : Shape) (n : Nat) :
    (Reply.okShowing d (some sh)).noteAt n = [(n, .pattern sh.starts sh.onSlots)] := rfl

@[simp] theorem modPort_line (p : Port) (f : PortRecord → PortRecord) (l : LineNo) : (s.modPort p f).line l = s.line l := by
  cases p <;> rfl

@[simp] theorem modPort_passDue (p : Port) (f : PortRecord → PortRecord) : (s.modPort p f).passDue = s.passDue := by
  cases p <;> rfl

@[simp] theorem modPort_tapReturned (p : Port) (f : PortRecord → PortRecord) :
    (s.modPort p f).tapReturned = s.tapReturned := by
  cases p <;> rfl

end State

open State

theorem taken_frame (s : State) (p : Port) (rest : List ReplyItem) :
    taken s p rest = { s with queues := (taken s p rest).queues, ports := (taken s p rest).ports } := by
  have h := (s.modPort p fun t => { t with reply := rest }).refreshPresence_frame p
  unfold taken
  rw [h]
  cases p <;> rfl

@[simp] theorem taken_clock (s : State) (p : Port) (rest : List ReplyItem) : (taken s p rest).clock = s.clock := by rw [taken_frame]
@[simp] theorem taken_lines (s : State) (p : Port) (rest : List ReplyItem) : (taken s p rest).lines = s.lines := by rw [taken_frame]
@[simp] theorem taken_classes (s : State) (p : Port) (rest : List ReplyItem) : (taken s p rest).classes = s.classes := by rw [taken_frame]
@[simp] theorem taken_tone (s : State) (p : Port) (rest : List ReplyItem) : (taken s p rest).tone = s.tone := by rw [taken_frame]
@[simp] theorem taken_steps (s : State) (p : Port) (rest : List ReplyItem) : (taken s p rest).steps = s.steps := by rw [taken_frame]
@[simp] theorem taken_programs (s : State) (p : Port) (rest : List ReplyItem) : (taken s p rest).programs = s.programs := by rw [taken_frame]
@[simp] theorem taken_alloc (s : State) (p : Port) (rest : List ReplyItem) : (taken s p rest).alloc = s.alloc := by rw [taken_frame]
@[simp] theorem taken_entries (s : State) (p : Port) (rest : List ReplyItem) : (taken s p rest).entries = s.entries := by rw [taken_frame]
@[simp] theorem taken_relays (s : State) (p : Port) (rest : List ReplyItem) : (taken s p rest).relays = s.relays := by rw [taken_frame]
@[simp] theorem taken_scanCommands (s : State) (p : Port) (rest : List ReplyItem) : (taken s p rest).scanCommands = s.scanCommands := by rw [taken_frame]
@[simp] theorem taken_scanEvents (s : State) (p : Port) (rest : List ReplyItem) : (taken s p rest).scanEvents = s.scanEvents := by rw [taken_frame]
@[simp] theorem taken_indications (s : State) (p : Port) (rest : List ReplyItem) : (taken s p rest).indications = s.indications := by rw [taken_frame]
@[simp] theorem taken_allocPlant (s : State) (p : Port) (rest : List ReplyItem) : (taken s p rest).allocPlant = s.allocPlant := by rw [taken_frame]
@[simp] theorem taken_tonePlant (s : State) (p : Port) (rest : List ReplyItem) : (taken s p rest).tonePlant = s.tonePlant := by rw [taken_frame]
@[simp] theorem taken_passDue (s : State) (p : Port) (rest : List ReplyItem) : (taken s p rest).passDue = s.passDue := by rw [taken_frame]
@[simp] theorem taken_tapReturned (s : State) (p : Port) (rest : List ReplyItem) : (taken s p rest).tapReturned = s.tapReturned := by rw [taken_frame]
@[simp] theorem taken_plant (s : State) (p : Port) (rest : List ReplyItem) : (taken s p rest).plant = s.plant := by rw [taken_frame]
@[simp] theorem taken_routes (s : State) (p : Port) (rest : List ReplyItem) : (taken s p rest).routes = s.routes := by rw [taken_frame]
@[simp] theorem classOf_taken (s : State) (p : Port) (rest : List ReplyItem) (c : ClassNo) : (taken s p rest).classOf c = s.classOf c := by rw [taken_frame]; rfl
@[simp] theorem now_taken (s : State) (p : Port) (rest : List ReplyItem) : (taken s p rest).now = s.now := by rw [taken_frame]; rfl
@[simp] theorem line_taken (s : State) (p : Port) (rest : List ReplyItem) (k : LineNo) : (taken s p rest).line k = s.line k := by rw [taken_frame]; rfl
@[simp] theorem lineClass_taken (s : State) (p : Port) (rest : List ReplyItem) (k : LineNo) : (taken s p rest).lineClass k = s.lineClass k := by rw [taken_frame]; rfl
@[simp] theorem entry_taken (s : State) (p : Port) (rest : List ReplyItem) (k : LineNo) : (taken s p rest).entry k = s.entry k := by rw [taken_frame]; rfl
@[simp] theorem request_taken (s : State) (p : Port) (rest : List ReplyItem) (k : LineNo) : (taken s p rest).request k = s.request k := by rw [taken_frame]; rfl
@[simp] theorem relay_taken (s : State) (p : Port) (rest : List ReplyItem) (k : LineNo) : (taken s p rest).relay k = s.relay k := by rw [taken_frame]; rfl
@[simp] theorem program_taken (s : State) (p : Port) (rest : List ReplyItem) (g : ProgramNo) : (taken s p rest).program g = s.program g := by rw [taken_frame]; rfl
@[simp] theorem step_taken (s : State) (p : Port) (rest : List ReplyItem) (i : StepNo) : (taken s p rest).step i = s.step i := by rw [taken_frame]; rfl
@[simp] theorem eventsOf_taken (s : State) (p : Port) (rest : List ReplyItem) (k : LineNo) : (taken s p rest).eventsOf k = s.eventsOf k := by rw [taken_frame]; rfl
@[simp] theorem commandsOf_taken (s : State) (p : Port) (rest : List ReplyItem) (k : LineNo) : (taken s p rest).commandsOf k = s.commandsOf k := by rw [taken_frame]; rfl
@[simp] theorem supply_taken (s : State) (p : Port) (rest : List ReplyItem) (u : Supply) : (taken s p rest).supply u = s.supply u := by rw [taken_frame]; rfl

/-! ## Taking a request -/

/-- The request at the head of a port's reply order is handed to its owner, and the response is sent at the end of the event. -/
theorem takeRequest_of_asks {s : State} {p : Port} {kind : Nat} {body : List Byte} {rest : List ReplyItem}
    (h : Asks s p kind body rest) (hk : kind < 256) (owner : State → Port → List Byte → State × Reply) :
    takeRequest kind p owner s
      = .next (((taken s p rest).handOver kind p body owner).1.finish.respond p (byteOf kind)
          ((taken s p rest).handOver kind p body owner).2) := by
  unfold Asks at h
  have hb : (byteOf kind).toNat = kind := by simp [byteOf, Nat.mod_eq_of_lt hk]
  simp only [takeRequest, h, hb, if_true, taken]

/-- A request whose body fits and which the port may make goes to its owner. -/
theorem handOver_ok {s : State} {p : Port} {kind : Nat} {body : List Byte} {owner : State → Port → List Byte → State × Reply}
    (hb : bodyFits kind body = true) (hp : permitted kind body p = true) :
    s.handOver kind p body owner = owner s p body := by
  simp [handOver, hb, hp]

/-! ## Operand forms -/

@[simp] theorem byteOf_toNat (n : Nat) : (byteOf n).toNat = n % 256 := by simp [byteOf]

@[simp] theorem lineOf_byteOf (l : LineNo) : lineOf (byteOf l.val) = some l := by
  have h := l.isLt
  simp [lineOf, below, Nat.mod_eq_of_lt (Nat.lt_trans h (by decide : 64 < 256))]

@[simp] theorem programOf_byteOf (g : ProgramNo) : programOf (byteOf g.val) = some g := by
  have h := g.isLt
  simp [programOf, below, Nat.mod_eq_of_lt (Nat.lt_trans h (by decide : 16 < 256))]

@[simp] theorem classNoOf_byteOf (c : ClassNo) : classNoOf (byteOf c.val) = some c := by
  have h := c.isLt
  simp [classNoOf, below, Nat.mod_eq_of_lt (Nat.lt_trans h (by decide : 8 < 256))]

theorem lineOf_none {b : Byte} (h : 64 ≤ b.toNat) : lineOf b = none := by
  simp [lineOf, below]; omega

/-- A request whose body is one line, with the line in range. -/
@[simp] theorem onLine_byteOf (act : State → Port → LineNo → State × Reply) (s : State) (p : Port) (l : LineNo) :
    State.onLine act s p [byteOf l.val] = act s p l := by
  simp [State.onLine]

/-- A request whose body is one line, with the line out of range (R8). -/
theorem onLine_refused (act : State → Port → LineNo → State × Reply) (s : State) (p : Port) {b : Byte} (h : 64 ≤ b.toNat) :
    State.onLine act s p [b] = (s, .refuse .badValue) := by
  simp [State.onLine, lineOf_none h]

end Sys2Proof.Machine
end

