-- ==== Sys2Proof/Laws/Operands.lean ====
section
/-! SUPPORT. Bodies and frames as a controller writes them, read back: the party entries of SET LINE, the steps of WRITE STEPS, and
the check byte (R169, R170). -/

namespace Sys2Proof.Machine

open Sys2Proof.Safety

theorem partyBytes_length (ps : List Party) : (partyBytes ps).length = 2 * ps.length := by
  induction ps with
  | nil => rfl
  | cons q ps ih => simp [partyBytes] at ih ⊢; omega

/-- Party entries with loads in range are read as they were written. -/
theorem partiesOf_partyBytes (ps : List Party) (h : ∀ q ∈ ps, 1 ≤ q.load ∧ q.load ≤ 8) : partiesOf (partyBytes ps) = some ps := by
  induction ps with
  | nil => rfl
  | cons q ps ih =>
    have hq := h q (by simp)
    have ih := ih (fun x hx => h x (by simp [hx]))
    obtain ⟨route, load⟩ := q
    dsimp only at hq
    have : load % 256 = load := by omega
    simp only [partyBytes] at ih
    simp only [partyBytes, List.flatMap_cons, List.cons_append, List.nil_append, partiesOf, ih, byteOf_toNat, this]
    cases route <;> simp [routeCodeOf, RingRoute.code, inRange, hq]

theorem stepBytes_length (fs : List StepFields) : (stepBytes fs).length = 3 * fs.length := by
  induction fs with
  | nil => rfl
  | cons f fs ih => simp [stepBytes] at ih ⊢; omega

/-- Steps with lengths in range are read as they were written. -/
theorem stepsOf_stepBytes (fs : List StepFields) (h : ∀ f ∈ fs, 1 ≤ f.length ∧ f.length ≤ 30) :
    stepsOf (stepBytes fs) = some fs := by
  induction fs with
  | nil => rfl
  | cons f fs ih =>
    have hf := h f (by simp)
    have ih := ih (fun x hx => h x (by simp [hx]))
    obtain ⟨kind, length, marker⟩ := f
    dsimp only at hf
    have : length % 256 = length := by omega
    simp only [stepBytes] at ih
    simp only [stepBytes, List.flatMap_cons, List.cons_append, List.nil_append, stepsOf, ih, byteOf_toNat, this]
    cases kind <;> cases marker <;> simp [stepKindOf, yesNoOf, inRange, hf]

/-- The check byte makes every byte of a frame sum to 0 modulo 256 (R169). -/
theorem checkByte_sum (bs : List Byte) : (bs ++ [checkByte bs]).foldl (· + ·) 0#8 = 0#8 := by
  simp [checkByte, List.foldl_append]

end Sys2Proof.Machine
end

