-- ==== Sys2Proof/Laws/Passes.lean ====
section
/-! SUPPORT. What the placement passes can do (R106-R116): they change the Allocator, the ring table, the use counts, the report
queues with the ports' attention, and lines that wait for a ring, and nothing else. -/

namespace Sys2Proof.Machine.State

/-- `t` is `s` after some part of a placement pass: only lines, use counts, the Allocator, the ring table, report queues, ports
and the mark of a due pass differ, and a line that did not wait in `s` does not wait in `t` and has its record and its entry. -/
def AfterPass (s t : State) : Prop :=
  t = { s with lines := t.lines, programs := t.programs, alloc := t.alloc, entries := t.entries, queues := t.queues,
               ports := t.ports, passDue := t.passDue }
  ∧ ∀ k, s.request k = none → t.request k = none ∧ t.line k = s.line k ∧ t.entry k = s.entry k

theorem afterPass_refl (s : State) : AfterPass s s := ⟨rfl, fun _ h => ⟨h, rfl, rfl⟩⟩

theorem afterPass_trans {s t u : State} (a : AfterPass s t) (b : AfterPass t u) : AfterPass s u := by
  obtain ⟨a1, a2⟩ := a
  obtain ⟨b1, b2⟩ := b
  refine ⟨?_, ?_⟩
  · rw [b1, a1]
  · intro k h
    obtain ⟨h1, h2, h3⟩ := a2 k h
    obtain ⟨g1, g2, g3⟩ := b2 k h1
    exact ⟨g1, g2.trans h2, g3.trans h3⟩

/-- An update that leaves lines, table and queue as they are. -/
theorem afterPass_of_eq {s t : State}
    (h : t = { s with programs := t.programs, alloc := t.alloc, queues := t.queues, ports := t.ports, passDue := t.passDue })
    (hq : t.alloc.queue = s.alloc.queue) : AfterPass s t := by
  refine ⟨?_, ?_⟩
  · rw [h]
  · intro k hk
    refine ⟨?_, ?_, ?_⟩
    · simpa [request, hq] using hk
    · rw [h]; rfl
    · rw [h]; rfl

/-- A change of the record and the entry of a line that waits. -/
theorem afterPass_setLine {s : State} {l : LineNo} (r : LineRecord) (h : s.request l ≠ none) : AfterPass s (s.setLine l r) := by
  refine ⟨rfl, ?_⟩
  intro k hk
  have : k ≠ l := fun e => h (e ▸ hk)
  exact ⟨hk, s.line_setLine_other l k r this, rfl⟩

theorem request_filter (s : State) (l k : LineNo) (h : s.request k = none) :
    (s.setWaiting (s.alloc.queue.filter (·.line != l))).request k = none := by
  simp only [request, setWaiting, List.find?_eq_none] at h ⊢
  intro w hw
  exact h w (List.mem_of_mem_filter hw)

theorem releaseTurn_after (s : State) (l : LineNo) (u : Supply) : AfterPass s (s.releaseTurn l u) := by
  unfold releaseTurn
  split
  · apply afterPass_of_eq <;> cases u <;> rfl
  · exact s.afterPass_refl

theorem unqueue_after (s : State) (l : LineNo) : AfterPass s (s.unqueue l) := by
  unfold unqueue
  have h : AfterPass s (s.setWaiting (s.alloc.queue.filter (·.line != l))) :=
    ⟨rfl, fun k hk => ⟨s.request_filter l k hk, rfl, rfl⟩⟩
  exact afterPass_trans h (afterPass_trans (releaseTurn_after _ l .one) (releaseTurn_after _ l .two))

theorem setProgram_after (s : State) (g : ProgramNo) (e : ProgramEntry) : AfterPass s (s.setProgram g e) :=
  afterPass_of_eq rfl rfl

theorem deleteRequest_after (s : State) (w : WaitingRequest) : AfterPass s (s.deleteRequest w) :=
  afterPass_trans (s.unqueue_after w.line) (setProgram_after _ _ _)

theorem takeTurns_after (s : State) (w : WaitingRequest) : AfterPass s (s.takeTurns w) := by
  unfold takeTurns
  generalize s.partySupplies w.line w.party = us
  induction us generalizing s with
  | nil => exact s.afterPass_refl
  | cons u us ih =>
    refine afterPass_trans ?_ (ih _)
    dsimp only
    split
    · apply afterPass_of_eq <;> cases u <;> rfl
    · exact s.afterPass_refl

theorem passOver_after (s : State) (l : LineNo) : AfterPass s (s.passOver l) := by
  unfold passOver
  split
  · exact s.afterPass_refl
  · rename_i w hw
    dsimp only
    have h : ∀ n, AfterPass s (s.setWaiting (s.alloc.queue.map fun x => if x.line == l then { x with passOvers := n } else x)) := by
      intro n
      refine ⟨rfl, fun k hk => ⟨?_, rfl, rfl⟩⟩
      simp only [request, setWaiting, List.find?_eq_none, List.mem_map] at hk ⊢
      rintro _ ⟨x, hx, rfl⟩
      have := hk x hx
      split <;> simpa using this
    split
    · split
      · exact afterPass_trans (h _) (takeTurns_after _ _)
      · exact h _
    · exact s.afterPass_refl

theorem passOverAll_after (u : Supply) (fs : List FailedRequest) (s : State) : AfterPass s (passOverAll u fs s).1 := by
  induction fs generalizing s with
  | nil => exact s.afterPass_refl
  | cons f fs ih =>
    unfold passOverAll
    split
    · exact afterPass_trans (s.passOver_after f.line) (ih _)
    · exact ih s

/-- A change of the record of a line whose request has just left the queue. -/
theorem afterPass_line {s t : State} {l : LineNo} (a : AfterPass s t) (r : LineRecord) (h : s.request l ≠ none) :
    AfterPass s (t.setLine l r) := by
  refine ⟨?_, ?_⟩
  · rw [a.1]; rfl
  · intro k hk
    have : k ≠ l := fun e => h (e ▸ hk)
    obtain ⟨h1, h2, h3⟩ := a.2 k hk
    exact ⟨h1, (t.line_setLine_other l k r this).trans h2, h3⟩

/-- A change of the entry of a line that waits. -/
theorem afterPass_entry {s t : State} {l : LineNo} (a : AfterPass s t) (e : Option RingEntry) (h : s.request l ≠ none) :
    AfterPass s (t.setEntry l e) := by
  refine ⟨?_, ?_⟩
  · rw [a.1]; rfl
  · intro k hk
    have : k ≠ l := fun e => h (e ▸ hk)
    obtain ⟨h1, h2, h3⟩ := a.2 k hk
    exact ⟨h1, h2, (t.entry_setEntry_other l k e this).trans h3⟩

theorem setSupply_after (s : State) (u : Supply) (r : SupplyRecord) : AfterPass s (s.setSupply u r) := by
  apply afterPass_of_eq <;> cases u <;> rfl

theorem setStamp_after (s : State) (n : Nat) : AfterPass s { s with alloc := { s.alloc with lastStamp := n } } :=
  afterPass_of_eq rfl rfl

/-- Placing a request that waits. -/
theorem place_after (s : State) (w : WaitingRequest) (u : Supply) (o : Nat) (h : s.request w.line ≠ none) :
    AfterPass s (s.place w u o) :=
  afterPass_line (afterPass_trans
    (afterPass_entry (afterPass_trans (s.setSupply_after u _) (setStamp_after _ _)) _ h) (unqueue_after _ _)) _ h

theorem report_after (s : State) (l : LineNo) (b : ReportBody) : AfterPass s (s.report l b) := by
  apply afterPass_of_eq
  · have := s.report_frame l b
    rw [this]
  · simp

theorem afterPass_toReturnState {s t : State} {l : LineNo} (a : AfterPass s t) (h : s.request l ≠ none) :
    AfterPass s (t.toReturnState l) := by
  unfold toReturnState
  split
  · unfold enterCleared
    simp only [modLine_eq, startTimer_eq]
    exact afterPass_line (afterPass_line a _ h) _ h
  · exact afterPass_line a _ h

theorem groundFault_after (s : State) (w : WaitingRequest) (h : s.request w.line ≠ none) : AfterPass s (s.groundFault w) :=
  afterPass_toReturnState (afterPass_trans (s.deleteRequest_after w) (report_after _ _ _)) h

theorem request_line {s : State} {l : LineNo} {w : WaitingRequest} (h : s.request l = some w) : w.line = l := by
  have := List.find?_some h
  simpa using this

theorem passWalk_after (ls : List LineNo) (fs : List FailedRequest) (s : State) : AfterPass s (passWalk ls fs s) := by
  induction ls generalizing fs s with
  | nil => exact s.afterPass_refl
  | cons l ls ih =>
    unfold passWalk
    split
    · exact ih _ _
    · rename_i w hw
      have h : s.request w.line ≠ none := by
        rw [request_line hw, hw]
        simp
      split
      · exact afterPass_trans (afterPass_trans (s.place_after w _ _ h) (passOverAll_after _ _ _)) (ih _ _)
      · exact afterPass_trans (s.groundFault_after w h) (ih _ _)
      · exact ih _ _

theorem placementPass_after (s : State) : AfterPass s s.placementPass := passWalk_after _ _ s

theorem runPasses_after (n : Nat) (s : State) : AfterPass s (runPasses n s) := by
  induction n generalizing s with
  | zero => exact ⟨rfl, fun _ h => ⟨h, rfl, rfl⟩⟩
  | succ n ih =>
    unfold runPasses
    split
    · have h : AfterPass s { s with passDue := false } := ⟨rfl, fun _ h => ⟨h, rfl, rfl⟩⟩
      exact afterPass_trans (afterPass_trans h (placementPass_after _)) (ih _)
    · exact s.afterPass_refl

/-- All that the passes at the end of an event can do. -/
theorem settlePasses_after (s : State) : AfterPass s s.settlePasses := runPasses_after _ s

/-- The sum of a load map (R106). -/
theorem total_eq_sum (r : SupplyRecord) : r.total = r.map.toList.sum := by
  rw [SupplyRecord.total, List.sum_eq_foldl]

end Sys2Proof.Machine.State
end

