-- ==== Sys2Proof/Laws/Queues.lean ====
section
/-! SUPPORT. Reports only join the report queues: a report, and the passes at the end of an event, keep what stands in the queues and
every mark (R165). -/

namespace Sys2Proof.Safety

open Sys2Proof.Machine Sys2Proof.Machine.State

theorem queuesExtend_refl (s : State) : QueuesExtend s s := fun _ => ⟨List.prefix_refl _, fun _ h => h⟩

theorem queuesExtend_trans {s t u : State} (a : QueuesExtend s t) (b : QueuesExtend t u) : QueuesExtend s u :=
  fun p => ⟨(a p).1.trans (b p).1, fun x h => (b p).2 x ((a p).2 x h)⟩

/-- A part that keeps the report queues extends them. -/
theorem queuesExtend_of_eq {s t : State} (h : t.queues = s.queues) : QueuesExtend s t := by
  have q : ∀ p, t.queue p = s.queue p := by intro p; cases p <;> simp [queue, h]
  intro p
  refine ⟨by rw [q], ?_⟩
  intro x hx
  cases x <;> simpa [marked, q] using hx

theorem queue_setQueue (s : State) (p q : Port) (r : ReportQueue) :
    (s.setQueue p r).queue q = if q = p then r else s.queue q := by
  cases p <;> cases q <;> rfl

theorem deliver_extends (s : State) (p : Port) (r : Report) : QueuesExtend s (s.deliver p r) := by
  unfold State.deliver
  split
  · exact queuesExtend_refl s
  · split
    · exact queuesExtend_refl s
    · split
      · intro q
        unfold pushRecord
        by_cases e : q = p
        · subst e
          refine ⟨by simp [queue_setQueue], ?_⟩
          intro x hx
          cases x <;> simpa [marked, queue_setQueue] using hx
        · refine ⟨by simp [queue_setQueue, e], ?_⟩
          intro x hx
          cases x <;> simpa [marked, queue_setQueue, e] using hx
      · intro q
        by_cases e : q = p
        · subst e
          cases hl : r.line with
          | none =>
            refine ⟨by simp [setMark, queue_setQueue], ?_⟩
            intro x hx
            cases x <;> simp_all [marked, setMark, queue_setQueue]
          | some l =>
            refine ⟨by simp [setMark, queue_setQueue], ?_⟩
            intro x hx
            cases x with
            | none => simpa [marked, setMark, queue_setQueue] using hx
            | some k =>
              by_cases ek : k = l
              · subst ek
                simp [marked, setMark, queue_setQueue]
              · simpa [marked, setMark, queue_setQueue, Fin.val_ne_of_ne (Ne.symm ek)] using hx
        · cases hl : r.line <;> refine ⟨by simp [setMark, queue_setQueue, e], ?_⟩ <;> intro x hx <;> cases x <;>
            simpa [marked, setMark, queue_setQueue, e] using hx

theorem deliverAll_extends (ps : List Port) (r : Report) (s : State) : QueuesExtend s (s.deliverAll ps r) := by
  induction ps generalizing s with
  | nil => exact queuesExtend_refl s
  | cons p ps ih => exact queuesExtend_trans (deliver_extends s p r) (ih _)

theorem report_extends (s : State) (l : LineNo) (b : ReportBody) : QueuesExtend s (s.report l b) :=
  deliverAll_extends _ _ s

theorem abandonOffer_extends (s : State) (l : LineNo) (c : AbandonCause) : QueuesExtend s (s.abandonOffer l c) := by
  unfold abandonOffer
  dsimp only
  split
  · exact deliver_extends _ _ _
  · exact queuesExtend_refl s

/-- The report queues through one part of a pass that makes no report. -/
theorem queues_releaseTurn (s : State) (l : LineNo) (u : Supply) : (s.releaseTurn l u).queues = s.queues := by
  unfold releaseTurn
  split
  · simp
  · rfl

theorem queues_unqueue (s : State) (l : LineNo) : (s.unqueue l).queues = s.queues := by
  unfold unqueue
  simp [allSupplies, queues_releaseTurn]

theorem queues_deleteRequest (s : State) (w : WaitingRequest) : (s.deleteRequest w).queues = s.queues := by
  simp [deleteRequest, dropUse, queues_unqueue]

theorem queues_takeTurns (s : State) (w : WaitingRequest) : (s.takeTurns w).queues = s.queues := by
  unfold takeTurns
  generalize s.partySupplies w.line w.party = us
  induction us generalizing s with
  | nil => rfl
  | cons u us ih =>
    refine (ih _).trans ?_
    dsimp only
    split <;> simp

theorem queues_passOver (s : State) (l : LineNo) : (s.passOver l).queues = s.queues := by
  unfold passOver
  split
  · rfl
  · dsimp only
    split
    · split
      · rw [queues_takeTurns]; simp
      · simp
    · rfl

theorem queues_passOverAll (u : Supply) (fs : List FailedRequest) (s : State) : (passOverAll u fs s).1.queues = s.queues := by
  induction fs generalizing s with
  | nil => rfl
  | cons f fs ih =>
    unfold passOverAll
    split
    · exact (ih _).trans (queues_passOver s f.line)
    · exact ih s

theorem queues_place (s : State) (w : WaitingRequest) (u : Supply) (o : Nat) : (s.place w u o).queues = s.queues := by
  unfold place
  simp [enter_eq, queues_unqueue]

theorem queues_toReturnState (s : State) (l : LineNo) : (s.toReturnState l).queues = s.queues := by
  unfold toReturnState
  split <;> simp [enterCleared, enterIdle, modLine_eq, startTimer_eq, enter_eq]

theorem groundFault_extends (s : State) (w : WaitingRequest) : QueuesExtend s (s.groundFault w) := by
  unfold groundFault
  exact queuesExtend_trans (queuesExtend_trans (queuesExtend_of_eq (queues_deleteRequest s w)) (report_extends _ _ _))
    (queuesExtend_of_eq (queues_toReturnState _ _))

theorem passWalk_extends (ls : List LineNo) (fs : List FailedRequest) (s : State) : QueuesExtend s (passWalk ls fs s) := by
  induction ls generalizing fs s with
  | nil => exact queuesExtend_refl s
  | cons l ls ih =>
    unfold passWalk
    split
    · exact ih _ _
    · split
      · refine queuesExtend_trans (queuesExtend_of_eq ?_) (ih _ _)
        exact (queues_passOverAll _ _ _).trans (queues_place _ _ _ _)
      · exact queuesExtend_trans (groundFault_extends _ _) (ih _ _)
      · exact ih _ _

theorem runPasses_extends (n : Nat) (s : State) : QueuesExtend s (runPasses n s) := by
  induction n generalizing s with
  | zero => exact queuesExtend_of_eq rfl
  | succ n ih =>
    unfold runPasses
    split
    · have start : QueuesExtend s { s with passDue := false } := queuesExtend_of_eq rfl
      exact queuesExtend_trans start (queuesExtend_trans (passWalk_extends _ _ { s with passDue := false }) (ih _))
    · exact queuesExtend_refl s

/-- Freeing a ring makes no report: an entry removed or ended, and a ring ended in the table or in the queue. -/
theorem queues_removeEntry (s : State) (l : LineNo) : (s.removeEntry l).queues = s.queues := by
  unfold removeEntry
  split
  · rfl
  · simp [indicate, callPass]

theorem queues_endRing (s : State) (l : LineNo) : (s.endRing l).queues = s.queues := by
  unfold endRing
  split
  · simp [endEntry, dropUse, queues_removeEntry]
  · split
    · exact queues_deleteRequest s _
    · rfl

/-- The end of an event keeps what stands in the report queues. -/
theorem finish_extends (s : State) : QueuesExtend s s.finish := by
  obtain ⟨t, a, e⟩ := s.settleTone_after
  have h : s.settleTone.queues = s.queues := by rw [e, a.1]
  exact queuesExtend_trans (queuesExtend_of_eq h) (runPasses_extends _ _)

end Sys2Proof.Safety
end

