-- ==== Sys2Proof/Laws/Scanner.lean ====
section
/-! SUPPORT. The small lemmas of the scanner's runs and breaks. -/

namespace Sys2Proof.Machine

theorem lengthAt_def (start t : Ms) : lengthAt start t = t + 5 - start := rfl

theorem Run.reached_iff (r : Run) (t : Ms) : r.reached t = true ↔ r.qualify ≤ t + 5 - r.start :=
  decide_eq_true_iff

@[simp] theorem Run.sample_open (run : Option Run) (t : Ms) (c : LineClass) : Run.sample run false t c = none := rfl

@[simp] theorem Run.sample_running (r : Run) (t : Ms) (c : LineClass) : Run.sample (some r) true t c = some r := rfl

@[simp] theorem Run.sample_first (t : Ms) (c : LineClass) : Run.sample none true t c = some ⟨t, c.ringTripQualify⟩ := rfl

@[simp] theorem OffHookRun.sample_open (run : Option OffHookRun) (t : Ms) (c : LineClass) :
    OffHookRun.sample run false t c = none := rfl

@[simp] theorem OffHookRun.sample_running (r : OffHookRun) (t : Ms) (c : LineClass) :
    OffHookRun.sample (some r) true t c = some r := rfl

@[simp] theorem OffHookRun.sample_first (t : Ms) (c : LineClass) :
    OffHookRun.sample none true t c = some ⟨⟨t, c.originationQualify⟩, c.interdigitMake⟩ := rfl

/-- A new OFF-HOOK record has no break and no pulse, and keeps the interdigit make it was given. -/
theorem OffHookScan.fresh_fields (t : Ms) (make : Nat) (latch : Bool) :
    (OffHookScan.fresh t make latch).makeStart = t ∧ (OffHookScan.fresh t make latch).interdigitMake = make
    ∧ (OffHookScan.fresh t make latch).breakRun = none ∧ (OffHookScan.fresh t make latch).pulses = 0
    ∧ (OffHookScan.fresh t make latch).overlong = false ∧ (OffHookScan.fresh t make latch).deferred = false
    ∧ (OffHookScan.fresh t make latch).ringLatch = latch := ⟨rfl, rfl, rfl, rfl, rfl, rfl, rfl⟩

/-- A digit that does not end leaves the record as it was and declares nothing (R36). -/
theorem OffHookScan.endDigitOf_runs (f : OffHookScan) (t : Ms) (make : Nat) (h : f.pulses = 0 ∨ make < f.interdigitMake) :
    f.endDigitOf t make = (f, []) := by
  have hn : ¬(0 < f.pulses ∧ f.interdigitMake ≤ make) := by omega
  simp [OffHookScan.endDigitOf, hn]

/-- A digit that ends leaves pulse count 0 and declares one DIGIT END (R37). -/
theorem OffHookScan.endDigitOf_ends (f : OffHookScan) (t : Ms) (make : Nat) (h : 0 < f.pulses) (hm : f.interdigitMake ≤ make) :
    f.endDigitOf t make
      = ({ f with pulses := 0, overlong := false, deferred := false }, [.digitEnd t f.outcome f.discarded]) := by
  simp [OffHookScan.endDigitOf, h, hm]

/-- While a break runs no digit is owed (R36, R44). -/
theorem OffHookScan.endDigitOwed_running (f : OffHookScan) (t : Ms) (b : BreakRun) (h : f.breakRun = some b) :
    f.endDigitOwed t = (f, []) := by
  simp [OffHookScan.endDigitOwed, h]

/-- With no break running the digit is owed by the make up to the sample before (R44). -/
theorem OffHookScan.endDigitOwed_first (f : OffHookScan) (t : Ms) (h : f.breakRun = none) :
    f.endDigitOwed t = f.endDigitOf t (t - f.makeStart) := by
  simp [OffHookScan.endDigitOwed, h]

/-- A break latches the five timings of the class at its first sample (R33, R39). -/
theorem LineClass.beginBreak_fields (c : LineClass) (t : Ms) :
    c.beginBreak t = { start := t, hitLimit := c.hitLimit, pulseBreakMin := c.pulseBreakMin, pulseBreakMax := c.pulseBreakMax,
                       flashMin := c.flashMin, flashMax := c.flashMax } := rfl

end Sys2Proof.Machine
end

