-- ==== Sys2Proof/Tests/Slice0.lean ====
section
/-! SUPPORT. The model's own tests: the well-formedness smoke, steps of the spec's worked cases on small states, and for every
statement of Certificates/Slice0/Obligations.lean that has hypotheses a state and operands that meet them, clause by clause. -/

namespace Sys2Proof.Tests

open Sys2Proof.Machine Sys2Proof.Safety

/-! ## Well-formedness -/

/-- The check refuses what it is given to refuse: the ranges it tests, at their first value outside. No ill-formed command can be
written, since the operand types hold the ranges (`wellFormed_all`), so the smoke is on the numbers the check reads. -/
theorem test_line_64_is_no_line : ((some 64 : Option Nat).all (· < 64)) = false := by decide

theorem test_card_8_is_no_card : ((some 8 : Option Nat).all (· < 8)) = false := by decide

theorem test_word_1024_is_no_word : ((some 1024 : Option Nat).all (· < 1024)) = false := by decide

theorem test_last_line_is_well_formed : WellFormed (.offHook 63) = true := by decide

theorem test_last_card_is_well_formed : WellFormed (.cardLoss 7) = true := by decide

theorem test_fault_mark_is_well_formed : WellFormed (.levelWord 1023#10) = true := by decide

theorem test_no_word_spells_a_command : decodeTableWord 8 255 = none ∧ State.reset.withFetchWord 8 255 = State.reset :=
  ⟨rfl, rfl⟩

/-! ## Small states -/

/-- The outcome's next state. -/
def after (c : Instr) (s : State) : State :=
  match exec c s with
  | .next t => t
  | _ => s

/-- The state right after power-on reset with every card in service, at a time, and one line with a record. -/
def onLine (l : LineNo) (r : LineRecord) (now : Ms := 0) : State :=
  { State.reset with
    clock := ⟨now, 0, 200, 0⟩
    cards := Vector.replicate 8 ⟨.inService, none, false⟩
    lines := State.reset.lines.set l r
    tone := { State.reset.tone with
      taps := if r.state = .dialTone then State.reset.tone.taps.set 0 (some l) else State.reset.tone.taps
      queue := if r.state = .toneWait then [⟨l, 3000⟩] else [] } }

/-- A state with a ring entry on the line. -/
def ringing (s : State) (l : LineNo) (e : RingEntry) : State := s.setEntry l (some e)

/-- A state with a waiting request. -/
def waiting (s : State) (w : WaitingRequest) : State := s.setWaiting [w]

/-- A state with a request at the head of a port's reply order. -/
def asked (s : State) (p : Port) (kind : Nat) (body : List Byte) : State :=
  s.modPort p fun t => { t with reply := [.held (byteOf kind) body] }

/-- A record in a state, with the class and party entries of power-on reset. -/
def record (st : LineState) : LineRecord := LineRecord.reset.enter st

/-- An unclaimed origination. -/
def unclaimed (st : LineState) : LineRecord :=
  { record st with hook := .off, offer := .home, offeredPort := some .A, offerDeadline := some 2000, dialling := some .pulse }

/-- A claimed origination. -/
def claimed (st : LineState) : LineRecord :=
  { record st with hook := .off, holder := some .A, offer := .claimed, dialling := some .pulse }

/-- A held line. -/
def held (st : LineState) : LineRecord := { record st with hook := .off, holder := some .A }

/-- A ring entry of port A on program 0 and Supply 1. -/
def anEntry : RingEntry :=
  ⟨1, .one, 0, 0, none, 0, 1, 0, .A, .normal, 0, 1, false, 0, false⟩

/-- A waiting request of port A on program 0. -/
def aRequest (l : LineNo) : WaitingRequest := ⟨l, 1, 0, 1, .A, .normal, 0, 0, 0, 10000⟩

/-- A sample of a line with the loop closed, and with it open. -/
def offHookSample : LineSenses := ⟨true, false, false, false⟩

def onHookSample : LineSenses := ⟨false, false, false, false⟩

/-- An OFF-HOOK record with a break from 100 on, made off-hook since 0. -/
def breaking (pulses : Nat) : OffHookScan := ⟨0, 240, some (LineClass.default.beginBreak 100), pulses, false, false, false⟩

/-- Port A PRESENT with its deadline at the present time, 10 s, and a line it holds. -/
def deadlineNow : State :=
  (onLine 0 (held .held) 10000).modPort .A fun t => { t with state := .present, deadline := some 10000 }

/-- A queue of 48 records, its port's attention asserted. -/
def fullQueue (n : Nat) : State :=
  (State.reset.setQueue .A ⟨List.replicate n ⟨some 0, 0, .orphaned⟩, Vector.replicate 64 false, false⟩).modPort .A
    fun t => { t with state := .present }

/-- The rules of one line record as a check. -/
def recordRight (r : LineRecord) : Bool :=
  decide ((r.state.unheld = true → r.holder = none)
    ∧ (r.state = .ringWait ∨ r.state = .ringing ∨ r.state = .cleared → r.holder.isSome)
    ∧ (r.state = .held ∨ r.state = .recalling → (r.holder = none ↔ r.orphan = true))
    ∧ (r.orphan = true → r.state = .held ∨ r.state = .recalling)
    ∧ (r.state.originating = true →
        (r.holder = none ∧ r.offer.open = true) ∨ (r.holder.isSome ∧ r.offer = .claimed))
    ∧ (r.recallMark = true → r.state.originating = true ∧ r.holder.isSome)
    ∧ (r.offeredPort.isSome → r.state.originating = true ∧ r.offer.open = true)
    ∧ r.feed = r.state.feed)
  && r.timer.all fun t => t.purpose.runsIn r.state

theorem recordRight_sound {r : LineRecord} (h : recordRight r = true) : LineRecordRight r := by
  simp only [recordRight, Bool.and_eq_true, decide_eq_true_eq] at h
  obtain ⟨⟨h1, h2, h3, h4, h5, h6, h7, h8⟩, h9⟩ := h
  refine ⟨h1, h2, h3, h4, h5, h6, h7, h8, ?_⟩
  intro t ht
  simpa [ht] using h9

/-- What `Consistent` reads. -/
theorem consistent_of_eq {s t : State} (c : Consistent s) (h1 : t.passDue = s.passDue) (h2 : t.tapReturned = s.tapReturned)
    (h3 : t.tone = s.tone) (h4 : t.lines = s.lines) (h5 : t.alloc.queue = s.alloc.queue) (h6 : t.entries = s.entries)
    (h7 : t.relays = s.relays) : Consistent t := by
  obtain ⟨⟨a1, a2⟩, b, r, d⟩ := c
  refine ⟨⟨h1.trans a1, h2.trans a2⟩, ?_, ?_, ?_⟩
  · simpa [ToneAgrees, h3, State.line, h4] using b
  · simpa [RingAgrees, State.request, State.entry, State.relay, State.line, h4, h5, h6, h7] using r
  · simpa [State.line, h4] using d

theorem consistent_asked {s : State} (c : Consistent s) (p : Port) (kind : Nat) (body : List Byte) :
    Consistent (asked s p kind body) := by
  cases p <;> exact consistent_of_eq c rfl rfl rfl rfl rfl rfl rfl

theorem consistent_setEvents {s : State} (c : Consistent s) (l : LineNo) (es : List ScanEvent) : Consistent (s.setEvents l es) :=
  consistent_of_eq c rfl rfl rfl rfl rfl rfl rfl

theorem asks_asked (s : State) (p : Port) (kind : Nat) (body : List Byte) : Asks (asked s p kind body) p kind body [] := by
  cases p <;> rfl

theorem line_onLine (l k : LineNo) (r : LineRecord) (now : Ms) :
    (onLine l r now).line k = if k = l then r else LineRecord.reset := by
  by_cases h : k = l
  · subst h
    simp [onLine, State.line]
  · simp [onLine, State.line, h, Fin.val_ne_of_ne (Ne.symm h), State.reset]

theorem toneAgrees_onLine (l : LineNo) (r : LineRecord) (now : Ms) : ToneAgrees (onLine l r now) := by
  refine ⟨?_, ?_⟩
  · by_cases h : r.state = .toneWait <;> simp [onLine, h, State.reset]
  · intro k
    rw [line_onLine]
    refine ⟨?_, ?_⟩
    · by_cases h : r.state = .toneWait <;> by_cases e : k = l <;>
        simp [onLine, h, e, State.reset, LineRecord.reset, eq_comm]
    · by_cases h : r.state = .dialTone
      · by_cases e : k = l
        · subst e
          simp only [h, if_true, iff_true]
          exact ⟨0, by simp [onLine, h]⟩
        · simp only [e, if_false, LineRecord.reset, reduceCtorEq, iff_false, not_exists]
          intro j
          by_cases z : j = 0
          · subst z
            simp [onLine, h, Ne.symm e]
          · have : (0 : Fin 12).val ≠ j.val := Fin.val_ne_of_ne (Ne.symm z)
            simp only [onLine, h, if_true]
            have : (State.reset.tone.taps.set 0 (some l))[j.val] = State.reset.tone.taps[j.val] :=
              Vector.getElem_set_ne _ _ this
            rw [Fin.getElem_fin, this]
            simp [State.reset]
      · simp only [onLine, h, if_false]
        by_cases e : k = l <;> simp [e, h, State.reset, LineRecord.reset]

theorem lineRight_onLine {l : LineNo} {r : LineRecord} {now : Ms} (h : recordRight r = true) (k : LineNo) :
    LineRecordRight ((onLine l r now).line k) := by
  rw [line_onLine]
  split
  · exact recordRight_sound h
  · exact recordRight_sound (by decide)

/-- A line in a state without ringing. -/
theorem consistent_onLine {l : LineNo} {r : LineRecord} {now : Ms} (h : recordRight r = true)
    (h2 : r.state ≠ .ringing := by decide) (h3 : r.state ≠ .ringWait := by decide) : Consistent (onLine l r now) := by
  refine ⟨⟨rfl, rfl⟩, toneAgrees_onLine l r now, ?_, lineRight_onLine (now := now) h⟩
  intro k
  rw [line_onLine]
  have e : (onLine l r now).entry k = none := by simp [onLine, State.entry, State.reset]
  have w : (onLine l r now).request k = none := rfl
  have y : (onLine l r now).relay k = .released := by simp [onLine, State.relay, State.reset]
  rw [e, w, y]
  by_cases k = l <;> simp_all [LineRecord.reset]

/-- A line in RINGING with its entry. -/
theorem consistent_ringing {l : LineNo} {r : LineRecord} {now : Ms} {n : RingEntry} (h : recordRight r = true)
    (h2 : r.state = .ringing := by decide) : Consistent (ringing (onLine l r now) l n) := by
  refine ⟨⟨rfl, rfl⟩, toneAgrees_onLine l r now, ?_, lineRight_onLine (now := now) h⟩
  intro k
  have g : (ringing (onLine l r now) l n).line k = (onLine l r now).line k := rfl
  rw [g, line_onLine]
  have w : (ringing (onLine l r now) l n).request k = none := rfl
  have y : (ringing (onLine l r now) l n).relay k = .released := by simp [ringing, onLine, State.relay, State.reset]
  rw [w, y]
  by_cases e : k = l
  · subst e
    simp [h2, ringing]
  · have x : (ringing (onLine l r now) l n).entry k = none := by
      rw [ringing, State.entry_setEntry_other _ _ _ _ e]
      simp [onLine, State.entry, State.reset]
    simp [e, x, LineRecord.reset]

/-- A line in RING_WAIT with its request. -/
theorem consistent_waiting {l : LineNo} {r : LineRecord} {now : Ms} {w : WaitingRequest} (h : recordRight r = true)
    (hw : w.line = l := by rfl) (h2 : r.state = .ringWait := by decide) : Consistent (waiting (onLine l r now) w) := by
  refine ⟨⟨rfl, rfl⟩, toneAgrees_onLine l r now, ?_, lineRight_onLine (now := now) h⟩
  intro k
  have g : (waiting (onLine l r now) w).line k = (onLine l r now).line k := rfl
  rw [g, line_onLine]
  have y : (waiting (onLine l r now) w).relay k = .released := by simp [waiting, onLine, State.relay, State.reset]
  have e : (waiting (onLine l r now) w).entry k = none := by simp [waiting, onLine, State.entry, State.reset]
  rw [y, e]
  by_cases z : k = l
  · subst z
    simp [waiting, State.request, hw, h2]
  · simp [waiting, State.request, hw, z, LineRecord.reset, Ne.symm z]

/-- One more line put into a state, in a state of the line that needs neither tone nor the ring wait queue. -/
def put (s : State) (k : LineNo) (r : LineRecord) (n : Option RingEntry) : State := (s.setLine k r).setEntry k n

theorem consistent_put {s : State} (c : Consistent s) {k : LineNo} {r : LineRecord} {n : Option RingEntry} (h : recordRight r = true)
    (h2 : n.isSome ↔ r.state = .ringing) (h3 : r.state ≠ .toneWait ∧ r.state ≠ .dialTone ∧ r.state ≠ .ringWait)
    (old : (s.line k).state = .outOfService) : Consistent (put s k r n) := by
  obtain ⟨a, ⟨b1, b2⟩, r1, d⟩ := c
  refine ⟨a, ⟨b1, fun l => ?_⟩, fun l => ?_, fun l => ?_⟩ <;> by_cases e : l = k
  · subst e
    have := b2 l
    simp_all [put]
  · simpa [put, e] using b2 l
  · subst e
    have := r1 l
    simp_all [put, State.request]
  · simpa [put, State.request, e] using r1 l
  · subst e
    simpa [put] using recordRight_sound h
  · simpa [put, e] using d l

/-- One more line that waits for tone, at the tail of the queue. -/
def putWaiter (s : State) (k : LineNo) (r : LineRecord) : State :=
  (s.setLine k r).setTone { s.tone with queue := s.tone.queue ++ [⟨k, 3000⟩] }

theorem consistent_putWaiter {s : State} (c : Consistent s) {k : LineNo} {r : LineRecord} (h : recordRight r = true)
    (h2 : r.state = .toneWait) (old : (s.line k).state = .outOfService) : Consistent (putWaiter s k r) := by
  obtain ⟨a, ⟨b1, b2⟩, r1, d⟩ := c
  have free : ∀ w ∈ s.tone.queue, w.line ≠ k := fun w m e => by
    have := (b2 k).1.1 ⟨w, m, e⟩
    simp [old] at this
  refine ⟨a, ⟨?_, fun l => ?_⟩, fun l => ?_, fun l => ?_⟩
  · simp only [putWaiter, State.setTone, List.map_append, List.map_cons, List.map_nil]
    refine List.nodup_append.2 ⟨b1, by simp, ?_⟩
    intro x hx y hy
    obtain ⟨w, m, rfl⟩ := List.mem_map.1 hx
    simp only [List.mem_singleton] at hy
    exact hy ▸ free w m
  all_goals by_cases e : l = k
  · subst e
    have := (b2 l).2
    simp_all [putWaiter]
  · have e2 : k ≠ l := Ne.symm e
    simpa [putWaiter, e, e2, or_and_right, exists_or] using b2 l
  · subst e
    have := r1 l
    simp_all [putWaiter, State.request]
  · simpa [putWaiter, State.request, e] using r1 l
  · subst e
    simpa [putWaiter] using recordRight_sound h
  · simpa [putWaiter, e] using d l

/-- A state of one line with a request at a port that meets `Consistent` and `Asks`, and the line's record in it. -/
def Met (l : LineNo) (r : LineRecord) (now : Ms) (p : Port) (kind : Nat) (body : List Byte) : Prop :=
  Consistent (asked (onLine l r now) p kind body) ∧ Asks (asked (onLine l r now) p kind body) p kind body []
  ∧ (asked (onLine l r now) p kind body).line l = r

theorem met {l : LineNo} {r : LineRecord} {now : Ms} {p : Port} {kind : Nat} {body : List Byte} (h : recordRight r = true)
    (h2 : r.state ≠ .ringing := by decide) (h3 : r.state ≠ .ringWait := by decide) : Met l r now p kind body := by
  refine ⟨consistent_asked (consistent_onLine h h2 h3) p kind body, asks_asked _ _ _ _, ?_⟩
  have e : (asked (onLine l r now) p kind body).line l = (onLine l r now).line l := by cases p <;> rfl
  rw [e, line_onLine, if_pos rfl]

/-- The same with the line in RINGING. -/
def MetRinging (l : LineNo) (r : LineRecord) (n : RingEntry) (p : Port) (kind : Nat) (body : List Byte) : Prop :=
  let s := asked (ringing (onLine l r) l n) p kind body
  Consistent s ∧ Asks s p kind body [] ∧ s.line l = r ∧ s.entry l = some n

theorem metRinging {l : LineNo} {r : LineRecord} {n : RingEntry} {p : Port} {kind : Nat} {body : List Byte}
    (h : recordRight r = true) (h2 : r.state = .ringing := by decide) : MetRinging l r n p kind body := by
  refine ⟨consistent_asked (consistent_ringing h h2) p kind body, asks_asked _ _ _ _, ?_, ?_⟩
  · have e : (asked (ringing (onLine l r) l n) p kind body).line l = (onLine l r).line l := by cases p <;> rfl
    rw [e, line_onLine, if_pos rfl]
  · have e : (asked (ringing (onLine l r) l n) p kind body).entry l = (ringing (onLine l r) l n).entry l := by cases p <;> rfl
    rw [e]
    simp [ringing]

/-- The same with the line in RING_WAIT. -/
def MetWaiting (l : LineNo) (r : LineRecord) (now : Ms) (p : Port) (kind : Nat) (body : List Byte) : Prop :=
  let s := asked (waiting (onLine l r now) (aRequest l)) p kind body
  Consistent s ∧ Asks s p kind body [] ∧ s.line l = r ∧ s.request l = some (aRequest l) ∧ s.now = now

theorem metWaiting {l : LineNo} {r : LineRecord} {now : Ms} {p : Port} {kind : Nat} {body : List Byte}
    (h : recordRight r = true) (h2 : r.state = .ringWait := by decide) : MetWaiting l r now p kind body := by
  refine ⟨consistent_asked (consistent_waiting (w := aRequest l) h rfl h2) p kind body, asks_asked _ _ _ _, ?_, ?_, ?_⟩
  · have e : (asked (waiting (onLine l r now) (aRequest l)) p kind body).line l = (onLine l r now).line l := by
      cases p <;> rfl
    rw [e, line_onLine, if_pos rfl]
  · have e : (asked (waiting (onLine l r now) (aRequest l)) p kind body).request l = (waiting (onLine l r now) (aRequest l)).request l := by
      cases p <;> rfl
    rw [e]
    simp [waiting, State.request, aRequest]
  · cases p <;> rfl

/-- A state of one line with events that the line has not taken. -/
def MetEvent (l : LineNo) (r : LineRecord) (now : Ms) (e : ScanEvent) : Prop :=
  let s := (onLine l r now).setEvents l [e]
  Consistent s ∧ s.eventsOf l = [e] ∧ s.line l = r ∧ s.now = now

theorem metEvent {l : LineNo} {r : LineRecord} {now : Ms} {e : ScanEvent} (h : recordRight r = true)
    (h2 : r.state ≠ .ringing := by decide) (h3 : r.state ≠ .ringWait := by decide) : MetEvent l r now e := by
  refine ⟨consistent_setEvents (consistent_onLine h h2 h3) l _, by simp, ?_, rfl⟩
  rw [State.line_setEvents, line_onLine, if_pos rfl]

/-! ## Steps of the part on small states -/

/-- Right after power-on reset a line is out of service on-hook with reason SETTLE, and its card is settling (R26, R49). -/
theorem test_reset_line : (State.reset.line 63).state = .outOfService ∧ (State.reset.line 63).hook = .on
    ∧ (State.reset.line 63).oosReason = some .settle ∧ (State.reset.card 7).state = .settling := by decide

/-- On an empty queue a millisecond passes. -/
theorem test_tick : (match step State.reset with | .next t => t.now | _ => 0) = 1 := by decide

/-- The step takes the command at the front and leaves the rest. -/
theorem test_front : (match step { State.reset with pending := [.slotBoundary, .resetInput] } with
    | .next t => t.pending
    | _ => []) = [.resetInput] := by decide

/-- The bytes 165, 2, 1, 5 and the check byte make a good frame of LINE QUERY for line 5 (R150, R169). -/
theorem test_line_query_frame : requestFrame 1#8 [5#8] = [165#8, 2#8, 1#8, 5#8, 83#8] := by decide

theorem test_frame_is_held :
    (match runAll ((requestFrame 1#8 [5#8]).map (Instr.receiveByte .A)) State.reset with
      | .next t => (t.port .A).reply
      | _ => []) = [.held 1#8 [5#8]] := by decide

/-- LINE QUERY is answered with 79 bytes of data in a frame of 85, and makes the port PRESENT (R152, R154, R172). -/
theorem test_line_query_is_answered :
    let t := after (.lineQuery .A) (asked State.reset .A 1 [5#8])
    ((t.port .A).sent.map List.length) = [85] ∧ (t.port .A).state = .present ∧ (t.port .A).deadline = some 10000
    ∧ (t.port .A).reply = [] := by decide

/-- A line that is lifted in IDLE with port A PRESENT gets tap 0 and is offered to A, and A is sent ORIGINATE (R50, R56). -/
theorem test_origination :
    let t := after (.offHook 5) (((onLine 5 (record .idle)).setEvents 5 [.offHook 0 0]).modPort .A fun t => { t with state := .present })
    (t.line 5).state = .dialTone ∧ t.tone.taps[(0 : Fin 12)] = some 5 ∧ (t.line 5).offeredPort = some .A
    ∧ (t.line 5).timer = some ⟨.firstDigit, 12000⟩ ∧ (t.queue .A).records.length = 1 ∧ (t.port .A).attention = true := by decide

/-- With no PRESENT port it parks (R50). -/
theorem test_no_controller :
    let t := after (.offHook 5) ((onLine 5 (record .idle)).setEvents 5 [.offHook 0 0])
    (t.line 5).state = .parked ∧ (t.line 5).parkReason = some .noController ∧ (t.line 5).feed = .reduced := by decide

/-- A RING on an IDLE line at slot 0 is placed on Supply 1 at offset 0; with the counter at the offset the wait to the first step
is one whole cycle (R106, R107). -/
theorem test_ring_is_placed :
    let t := after (.ring .A) (asked (onLine 5 (record .idle)) .A 9 ([5#8, 1#8, 0#8, 4#8, 2#8]))
    (t.line 5).state = .ringing ∧ ((t.entry 5).map fun e => (e.sup, e.offset, e.slotsLeft, e.cycles)) = some (.one, 0, 30, 4)
    ∧ t.alloc.one.map[(9 : Fin 30)] = 2 ∧ t.alloc.one.map[(10 : Fin 30)] = 0 ∧ t.alloc.one.pointer = 1
    ∧ (t.program 0).uses = 1 := by decide

/-- The slot counter goes from 29 back to 0 (R102). -/
theorem test_slot_wraps : (after .slotBoundary { State.reset with clock := ⟨0, 0, 200, 29⟩ }).clock.slot = 0 := by decide

/-- A break of 60 ms is a pulse, one of 300 ms a flash, one of 20 ms a bad break, one of 10 ms a hit (R33, R37, R38). -/
theorem test_break_lengths :
    let at160 := ((ScanMode.offHook (breaking 0)).sample offHookSample 160 LineClass.default).2.1
    let at400 := ((ScanMode.offHook (breaking 0)).sample offHookSample 400 LineClass.default).2.1
    let at120 := ((ScanMode.offHook (breaking 0)).sample offHookSample 120 LineClass.default).2.1
    let at110 := ((ScanMode.offHook (breaking 0)).sample offHookSample 110 LineClass.default).2.1
    at160 = [.pulse 160 60 1] ∧ at400 = [.flash 400 100 300 0] ∧ at120 = [.badBreak 120 100 20] ∧ at110 = [] := by decide

/-- The ring latch discards the break of an OFF-HOOK record, and RING END comes before the next sample, which is on-hook. A make that
had reached its interdigit make before that sample ends the digit there, and the sample begins a break (R44); where only that sample
would bring it there, the decision waits for the break (R36; log 28). -/
theorem test_discarded_break_ends_the_digit :
    let next (make : Nat) := (((ScanMode.offHook { breaking 3 with interdigitMake := make }).indicated .stepOn).indicated
      .ringEnd).sample onHookSample 120 LineClass.default
    (next 120 = (.offHook { OffHookScan.fresh 0 120 false with breakRun := some (LineClass.default.beginBreak 120) },
                 [.digitEnd 120 (.digit 3) 3], false))
    ∧ (next 125 = (.offHook { breaking 3 with
                    interdigitMake := 125, breakRun := some (LineClass.default.beginBreak 120), deferred := true }, [], false)) := by
  decide

set_option maxRecDepth 4000 in
/-- A port whose deadline passes leaves its held call an orphan (R5, R156). -/
theorem test_absence :
    let t := after (.presenceDeadlineExpiry .A) deadlineNow
    (t.port .A).state = .absent ∧ (t.line 0).holder = none ∧ (t.line 0).orphan = true ∧ (t.line 0).state = .held := by decide

/-- A level below the shed level for the shed qualify time declares SHED, and the two blocks are told (R144-R146). -/
theorem test_shed :
    let t := after (.levelWord 400#10) (({ State.reset with clock := ⟨5000, 0, 200, 0⟩ } : State).setPlant
      { State.reset.plant with shedRun := some 0 })
    t.plant.state = .shed ∧ t.allocPlant = [.shed] ∧ t.tonePlant = [.shed] := by decide

/-- Shelf reset keeps a line's admin flag and the routes, and empties the report queues (R27, R168). -/
theorem test_shelf_reset :
    let t := after .resetInput (fullQueue 3)
    (t.queue .A).records = [] ∧ (t.port .A).attention = false ∧ (t.port .A).state = .silent ∧ t.lastReset = .resetInput := by
  decide

/-! ## Every statement's hypotheses are met -/

/-! ### Steps and invariants -/

theorem test_met_StepRunsTheFrontCommand :
    (State.reset.pushFront .slotBoundary).pending = [.slotBoundary] ∧ State.reset.pending = [] := ⟨rfl, rfl⟩

theorem test_met_StepKeepsSettled : Settled State.reset ∧ ∃ t, step State.reset = .next t := ⟨⟨rfl, rfl⟩, _, rfl⟩

/-- Four held frames and a mark that counts 255. -/
def fullHold : State :=
  State.reset.modPort .A fun t => { t with reply := List.replicate 4 (.held 1#8 [0#8]) ++ [.mark .overrun 255] }

theorem test_met_StepKeepsQueuesAndHoldsRight :
    (ReportQueuesRight (fullQueue 48) ∧ ∃ t, step (fullQueue 48) = .next t)
    ∧ InputHoldsRight fullHold ∧ ∃ t, step fullHold = .next t := by
  refine ⟨⟨?_, _, rfl⟩, ?_, _, rfl⟩
  · intro p
    cases p <;> decide
  · intro p
    cases p
    · refine ⟨by decide, ?_⟩
      intro r n h
      simp [fullHold, State.modPort, State.setPort, State.port] at h
      obtain ⟨-, rfl⟩ := h
      decide
    · exact ⟨by decide, fun r n h => by simp [fullHold, State.modPort, State.setPort, State.port, State.reset, PortRecord.reset] at h⟩
    · exact ⟨by decide, fun r n h => by simp [fullHold, State.modPort, State.setPort, State.port, State.reset, PortRecord.reset] at h⟩

theorem test_met_StepKeepsTheStructureConsistent :
    (Consistent (onLine 63 (unclaimed .dialTone)) ∧ ∃ t, step (onLine 63 (unclaimed .dialTone)) = .next t)
    ∧ Consistent (onLine 0 (unclaimed .toneWait))
    ∧ Consistent (ringing (onLine 0 (held .ringing)) 0 anEntry)
    ∧ Consistent (waiting (onLine 0 (held .ringWait)) (aRequest 0)) :=
  ⟨⟨consistent_onLine (by decide), _, rfl⟩, consistent_onLine (by decide), consistent_ringing (by decide),
   consistent_waiting (by decide)⟩

/-- An entry's load booked on its supply and its use on its program. -/
def book (s : State) (l : LineNo) (e : RingEntry) : State :=
  (s.setSupply e.sup ((s.supply e.sup).raise (s.shape e.program) e.offset (s.partyLoad l e.party))).takeUse e.program

/-- Line 0 rings with stamp 1 and line 1 with stamp 2, both booked. -/
def twoRinging (finishing : Bool) : State :=
  let e : RingEntry := { anEntry with stamp := 2, finishing := finishing }
  book (put (book (ringing (onLine 0 (held .ringing)) 0 anEntry) 0 anEntry) 1 (held .ringing) (some e)) 1 e

theorem consistent_twoRinging (finishing : Bool) : Consistent (twoRinging finishing) := by
  have c : Consistent (ringing (onLine 0 (held .ringing)) 0 anEntry) := consistent_ringing (by decide)
  have d : Consistent (book (ringing (onLine 0 (held .ringing)) 0 anEntry) 0 anEntry) :=
    consistent_of_eq c rfl rfl rfl rfl rfl rfl rfl
  have e := consistent_put d (k := 1) (r := held .ringing) (n := some { anEntry with stamp := 2, finishing := finishing })
    (by decide) ⟨fun _ => rfl, fun _ => rfl⟩ (by decide) (by decide)
  exact consistent_of_eq e rfl rfl rfl rfl rfl rfl rfl

theorem loadMaps_twoRinging : LoadMapsAddUp (twoRinging false) := by
  intro sup
  cases sup <;> decide

theorem test_met_StepKeepsRingAccountsRight :
    Consistent (twoRinging false) ∧ RingAccountsRight (twoRinging false) ∧ ∃ t, step (twoRinging false) = .next t := by
  refine ⟨consistent_twoRinging _, ⟨loadMaps_twoRinging, ?_, ?_, ?_, ?_⟩, _, rfl⟩
  · intro sup
    cases sup <;> decide
  · unfold UsesRight
    decide
  · exact ⟨by decide, by decide⟩
  · intro sup l h
    cases sup <;> cases (show none = some l from h)

/-! ### Frames, presence and reports -/

theorem test_met_FrameSentByteByByteIsHeld :
    let s := State.reset.modPort .M fun t => { t with reply := List.replicate 3 (.held 1#8 [0#8]) }
    (s.port .M).assembling = none ∧ (List.replicate 31 255#8).length ≤ 31 ∧ heldCount (s.port .M).reply < 4 := by decide

theorem test_met_BadFramesAndOverrunsLeaveMarks :
    let s (bs : List Byte) := (onLine 0 LineRecord.reset 50).modPort .A fun t => { t with assembling := some ⟨bs, 0⟩ }
    ((State.reset.port .A).assembling = none ∧ (166#8 : Byte) ≠ 165#8)
    ∧ ((s [165#8]).port .A).assembling = some ⟨[165#8], 0⟩ ∧ (s [165#8]).now ≤ 0 + 50
    ∧ ((0#8 : Byte).toNat < 1 ∧ 32 < (33#8 : Byte).toNat)
    ∧ ([165#8, 1#8, 29#8] ++ [62#8] : List Byte).foldl (· + ·) 0#8 ≠ 0#8
    ∧ 0 + 50 < (onLine 0 LineRecord.reset 51).now
    ∧ 4 ≤ heldCount (List.replicate 4 (.held 1#8 [0#8]))
    ∧ (∀ n, n < 255 → [ReplyItem.mark .overrun 255].getLast? ≠ some (.mark .overrun n)) := by
  refine ⟨by decide, by decide, by decide, by decide, by decide, by decide, by decide, ?_⟩
  intro n h e
  simp at e
  omega

theorem test_met_MarksAndUnknownKindsAreAnswered :
    ((State.reset.modPort .B fun t => { t with reply := [.mark .frameError 255] }).port .B).reply = .mark .frameError 255 :: []
    ∧ Asks (asked State.reset .B 0 []) .B 0 [] [] ∧ Asks (asked State.reset .B 33 []) .B 33 [] []
    ∧ ((byteOf 0).toNat = 0 ∧ 32 < (byteOf 33).toNat) :=
  ⟨rfl, rfl, rfl, by decide, by decide⟩

theorem test_met_FramesAndRecordsAreLaidOut : (Reply.okWith (List.replicate 10 0#8)).data.length < 65534 := by decide

theorem test_met_TakingARequestRefreshesPresence :
    (State.reset.port .A).state ≠ .absent
    ∧ ((State.reset.modPort .A fun t => { t with state := .absent }).port .A).state = .absent := by decide

theorem test_met_BadBodiesAndForeignPortsAreRefused :
    (Settled (asked State.reset .A 3 []) ∧ requestCommand .A 3 = some (.claim .A) ∧ Asks (asked State.reset .A 3 []) .A 3 [] []
      ∧ fixedBody 3 = some 2 ∧ ([] : List Byte).length ≠ 2)
    ∧ (Asks (asked State.reset .B 18 [0#8]) .B 18 [0#8] [] ∧ fixedBody 18 = some 1)
    ∧ (Asks (asked State.reset .A 9 [0#8, 1#8, 0#8, 1#8, 3#8]) .A 9 [0#8, 1#8, 0#8, 1#8, 3#8] []
        ∧ ([0#8, 1#8, 0#8, 1#8, 3#8] : List Byte)[4]? = some 3#8)
    ∧ ([0#8, 0#8, 1#8] : List Byte).length < 4
    ∧ ([0#8, 0#8, 1#8, 1#8, 0#8] : List Byte)[3]? = some 1#8 ∧ ([0#8, 0#8, 1#8, 1#8, 0#8] : List Byte).length ≠ 4 + 2 * (1#8 : Byte).toNat
    ∧ ([0#8] : List Byte).length < 2
    ∧ ([0#8, 1#8, 1#8] : List Byte)[1]? = some 1#8 ∧ ([0#8, 1#8, 1#8] : List Byte).length ≠ 2 + 3 * (1#8 : Byte).toNat
    ∧ (Asks (asked State.reset .B 1 [64#8]) .B 1 [64#8] [] ∧ 64 ≤ (64#8 : Byte).toNat)
    ∧ (Asks (asked State.reset .M 18 [255#8]) .M 18 [255#8] [] ∧ requestCommand .M 18 = some (.forceRelease .M)) := by
  refine ⟨⟨⟨rfl, rfl⟩, rfl, rfl, rfl, by decide⟩, ⟨rfl, rfl⟩, ⟨rfl, rfl⟩, by decide, rfl, by decide, by decide, rfl, by decide,
    ⟨rfl, by decide⟩, rfl, rfl⟩

/-- Line 64 in the requests that carry a line and more: CLAIM, GIVE TONE, RING (of M with TEST priority, of A without) and SET
LINE. -/
theorem test_met_LineNumbersOutside :
    (Settled (asked State.reset .A 3 [64#8, 0#8]) ∧ Asks (asked State.reset .A 3 [64#8, 0#8]) .A 3 [64#8, 0#8] []
      ∧ 64 ≤ (64#8 : Byte).toNat ∧ requestCommand .A 3 = some (.claim .A))
    ∧ requestCommand .B 6 = some (.giveTone .B) ∧ requestCommand .M 9 = some (.ring .M)
    ∧ ([1#8, 0#8, 1#8, 1#8] : List Byte)[3]? ≠ some 3#8
    ∧ (Asks (asked State.reset .A 12 [255#8, 0#8, 1#8, 1#8, 0#8, 2#8]) .A 12 [255#8, 0#8, 1#8, 1#8, 0#8, 2#8] []
        ∧ requestCommand .A 12 = some (.setLine .A)) :=
  ⟨⟨⟨rfl, rfl⟩, rfl, by decide, rfl⟩, rfl, rfl, by decide, rfl, rfl⟩

theorem test_met_SetPortWritesTheWindow :
    (Settled (asked State.reset .A 30 [60#8]) ∧ Asks (asked State.reset .A 30 [60#8]) .A 30 [60#8] [] ∧ (60#8 : Byte).toNat ≤ 60)
    ∧ (0#8 : Byte).toNat = 0 ∧ 60 < (61#8 : Byte).toNat :=
  ⟨⟨⟨rfl, rfl⟩, rfl, by decide⟩, rfl, by decide⟩

theorem test_met_AbsentAndRestartedPortsAreLeftWithNothing :
    (Consistent deadlineNow ∧ (deadlineNow.port .A).state = .present ∧ (deadlineNow.port .A).deadline = some 10000
      ∧ 10000 ≤ deadlineNow.now ∧ (deadlineNow.line 0).holder = some .A ∧ (deadlineNow.line 0).state = .held)
    ∧ Met 0 (held .recalling) 0 .A 31 [] :=
  ⟨⟨consistent_of_eq (consistent_onLine (l := 0) (r := held .held) (now := 10000) (by decide)) rfl rfl rfl rfl rfl rfl rfl,
    rfl, rfl, by decide, rfl, rfl⟩, met (by decide)⟩

/-- A line in each row of R157, with the records that the statement gives: nobody else PRESENT, or port B. -/
theorem test_met_LinesOfAnAbsentPort :
    (Met 0 (claimed .digits) 0 .A 31 [] ∧ Met 0 (claimed .toneWait) 0 .A 31 [] ∧ Met 63 (unclaimed .dialTone) 0 .A 31 []
      ∧ Met 0 { held .cleared with reorigination := some true } 0 .A 31 [] ∧ Met 0 (held .cleared) 0 .A 31 []
      ∧ MetRinging 63 (held .ringing) anEntry .A 31 [] ∧ MetWaiting 0 (held .ringWait) 0 .A 31 [])
    ∧ (let s := (onLine 0 (claimed .toneWait)).modPort .B fun t => { t with state := .present }
       offerWithout s .A 0 = some (.alternate, .B) ∧ (absentRecord s .A 0).state = .toneWait
       ∧ (absentRecord s .A 0).holder = none ∧ (absentRecord s .A 0).offeredPort = some .B)
    ∧ (let s := onLine 0 (claimed .digits)
       offerWithout s .A 0 = none ∧ absentRecord s .A 0 = { record .parked with hook := .off, parkReason := some .noController })
    ∧ absentRecord (onLine 0 (held .ringing)) .A 0 = { record .idle with hook := .off } :=
  ⟨⟨met (by decide), met (by decide), met (by decide), met (by decide), met (by decide), metRinging (by decide),
    metWaiting (by decide)⟩, by decide, ⟨by decide, rfl⟩, rfl⟩

/-- The bodies that an owner refuses BAD VALUE, each field at its first value outside: SET LINE (R13), SET CLASS (R11), WRITE STEPS
(R91), COMMIT PROGRAM (R92), ERASE and READ PROGRAM (R94, R99), RING (R110). -/
theorem test_met_BadValueRows :
    (∀ (p : Port) (kind : Nat) (body : List Byte),
      Settled (asked State.reset p kind body) ∧ Asks (asked State.reset p kind body) p kind body [])
    ∧ (63 < (64#8 : Byte).toNat ∧ 7 < (8#8 : Byte).toNat ∧ 4 < (5#8 : Byte).toNat ∧ (0#8 : Byte).toNat < 1 ∧ 15 < (16#8 : Byte).toNat)
    ∧ (let es : List (Byte × Byte) := [(1#8, 2#8), (0#8, 2#8)]
       es.length < 256 ∧ (1#8 : Byte).toNat ≠ es.length ∧ 1 < es.length ∧ ∃ e ∈ es, e.1 = 0#8)
    ∧ (let es : List (Byte × Byte) := [(7#8, 1#8), (1#8, 9#8), (1#8, 0#8)]
       ∀ e ∈ es, 6 < e.1.toNat ∨ e.2.toNat < 1 ∨ 8 < e.2.toNat)
    ∧ ((List.replicate 22 (0#8 : Byte)).length = 22 ∧ 2 < (3#8 : Byte).toNat ∧ 3 < (4#8 : Byte).toNat)
    ∧ (let es : List (Byte × Byte × Byte) := [(2#8, 1#8, 0#8), (1#8, 0#8, 0#8), (1#8, 31#8, 0#8), (1#8, 30#8, 2#8)]
       es.length < 256 ∧ 8 < (es ++ es ++ es).length
       ∧ ∀ e ∈ es, 1 < e.1.toNat ∨ e.2.1.toNat < 1 ∨ 30 < e.2.1.toNat ∨ 1 < e.2.2.toNat)
    ∧ (15 < (254#8 : Byte).toNat ∧ (254#8 : Byte).toNat ≠ 255 ∧ (0#8 : Byte).toNat ≠ 255)
    ∧ ((4#8 : Byte) ≠ 3#8 ∧ 3 < (4#8 : Byte).toNat) :=
  ⟨fun p _ _ => ⟨by cases p <;> exact ⟨rfl, rfl⟩, asks_asked _ _ _ _⟩, by decide, by decide, by simp, by decide,
   ⟨by decide, by decide, by simp⟩, by decide, by decide⟩

theorem test_met_ReportsAreRoutedAndQueued :
    (State.reset.port .A).state ≠ .present
    ∧ (State.reset.setMark .A (some 63) true).marked .A (some 63) = true
    ∧ (State.reset.setMark .A none true).marked .A none = true
    ∧ (((fullQueue 47).port .A).state = .present ∧ (fullQueue 47).marked .A (some 0) = false
        ∧ ((fullQueue 47).queue .A).records.length < 48)
    ∧ (((fullQueue 48).port .A).state = .present ∧ (fullQueue 48).marked .A none = false
        ∧ 48 ≤ ((fullQueue 48).queue .A).records.length)
    ∧ ((ReportBody.digit 0 false).kind = 66 + (0 : Fin 22).val ∧ State.reset.routes[(0 : Fin 22)] = .holder)
    ∧ ((ReportBody.toneDelay 0 1 0 12).kind = 66 + (21 : Fin 22).val ∧ State.reset.routes[(21 : Fin 22)] = .m)
    ∧ ((ReportBody.unclassifiedBreak 0 0).kind = 66 + (7 : Fin 22).val ∧ State.reset.routes[(7 : Fin 22)] = .none)
    ∧ ((ReportBody.releaseForced).kind = 66 + (9 : Fin 22).val ∧ State.reset.routes[(9 : Fin 22)] = .holderAndM)
    ∧ ((onLine 0 (held .held)).line 0).holder = some .A ∧ (Port.A ≠ .M)
    ∧ ((onLine 0 { held .held with holder := some .M }).line 0).holder = some .M
    ∧ (State.reset.line 0).holder = none := by decide

theorem test_met_SetRouteWritesOneRoute :
    (Settled (asked State.reset .B 27 [byteOf (66 + (0 : Fin 22).val), byteOf (reportRouteCode .none)])
      ∧ Asks (asked State.reset .B 27 [byteOf (66 + (21 : Fin 22).val), byteOf (reportRouteCode .m)]) .B 27
          [byteOf (66 + (21 : Fin 22).val), byteOf (reportRouteCode .m)] [])
    ∧ ((65#8 : Byte).toNat < 66 ∧ 87 < (88#8 : Byte).toNat ∧ 3 < (4#8 : Byte).toNat) :=
  ⟨⟨⟨rfl, rfl⟩, rfl⟩, by decide⟩

/-- A queue of n records at port A, with marks for the lines below m and the shelf mark, and a FETCH of 1 at the head. -/
def fetching (n m : Nat) (shelf : Bool) : State :=
  asked (State.reset.setQueue .A ⟨List.replicate n ⟨some 0, 0, .orphaned⟩, Vector.ofFn fun l => decide (l.val < m), shelf⟩)
    .A 28 [1#8]

theorem test_met_FetchTakesRecordsAndIssuesSnapshots :
    (Settled (fetching 26 1 true) ∧ Asks (fetching 26 1 true) .A 28 [1#8] []
      ∧ 24 < (((taken (fetching 26 1 true) .A []).queue .A).records.drop 1).length)
    ∧ ((∀ l, (taken (fetching 1 0 false) .A []).marked .A (some l) = false)
        ∧ (taken (fetching 1 0 false) .A []).marked .A none = false)
    ∧ ((0#8 : Byte).toNat < 1 ∧ 8 < (9#8 : Byte).toNat ∧ 1 ≤ (8#8 : Byte).toNat ∧ (8#8 : Byte).toNat ≤ 8)
    ∧ (let owed (m : Nat) := allLines.filter fun l => (taken (fetching 25 m true) .A []).marked .A (some l)
       (Settled (fetching 25 64 true) ∧ Asks (fetching 25 64 true) .A 28 [1#8] [])
       ∧ (((taken (fetching 25 64 true) .A []).queue .A).records.drop 1).length = 24
       ∧ (24 + (owed 23).length < 48 ∧ 24 + (owed 24).length = 48 ∧ 48 - 24 < (owed 64).length)) := by
  refine ⟨⟨⟨rfl, rfl⟩, rfl, by decide⟩, ⟨by decide, by decide⟩, by decide, ⟨⟨rfl, rfl⟩, rfl⟩, by decide, by decide⟩

/-! ### Line records -/

theorem test_met_QueriesAnswerAndChangeNothing :
    Met 63 LineRecord.reset 0 .B 1 [byteOf (63 : LineNo).val] ∧ Met 0 LineRecord.reset 0 .A 29 [] :=
  ⟨met (by decide), met (by decide)⟩

/-- An orphan in HELD. -/
def anOrphan : LineRecord := { held .held with holder := none, orphan := true }

theorem test_met_AdoptTakesAnOrphan :
    (Met 0 anOrphan 0 .B 2 [byteOf (0 : LineNo).val] ∧ anOrphan.orphan = true)
    ∧ (Met 63 (held .held) 0 .B 2 [byteOf (63 : LineNo).val] ∧ (held .held).orphan = false ∧ (held .held).holder.isSome)
    ∧ (Met 0 (record .idle) 0 .B 2 [byteOf (0 : LineNo).val] ∧ (record .idle).orphan = false ∧ (record .idle).holder = none) :=
  ⟨⟨met (by decide), rfl⟩, ⟨met (by decide), rfl, rfl⟩, met (by decide), rfl, rfl⟩

/-- Four parties with the greatest load. -/
def fourParties : List Party := [⟨.loop1, 8⟩, ⟨.loop2, 8⟩, ⟨.tip1, 8⟩, ⟨.ring2, 8⟩]

theorem test_met_SetLineReplacesTheConfiguration :
    (Met 0 (record .parked) 0 .A 12
        ([byteOf (0 : LineNo).val, byteOf (7 : ClassNo).val, byteOf fourParties.length, byteOf fourParties.length]
          ++ partyBytes fourParties)
      ∧ (∀ q ∈ fourParties, 1 ≤ q.load ∧ q.load ≤ 8) ∧ fourParties.length = 4
      ∧ ∀ q ∈ fourParties, q.route ≠ .loopAny)
    ∧ Met 63 (record .idle) 0 .A 12 ([63#8, 0#8, 1#8, 1#8] ++ partyBytes [⟨.loopAny, 1⟩])
    ∧ Met 0 (held .held) 0 .A 12 ([0#8, 0#8, 1#8, 1#8] ++ partyBytes [⟨.loopAny, 1⟩])
    ∧ ¬((held .held).state = .idle ∨ (held .held).state = .parked ∨ (held .held).state = .outOfService) :=
  ⟨⟨met (by decide), by decide, rfl, by decide⟩, met (by decide), met (by decide), by decide⟩

theorem test_met_SetClassReplacesTheClassOrRefuses :
    (Settled (asked State.reset .A 13 (classBytes 7 LineClass.default)) ∧ ClassFits LineClass.default
      ∧ Asks (asked State.reset .A 13 (classBytes 7 LineClass.default)) .A 13 (classBytes 7 LineClass.default) []
      ∧ ClassValid LineClass.default)
    ∧ (ClassFits { LineClass.default with hitLimit := 55 } ∧ ¬ClassValid { LineClass.default with hitLimit := 55 })
    ∧ (ClassFits { LineClass.default with parkRelease := 10100 } ∧ ¬ClassValid { LineClass.default with parkRelease := 10100 })
    ∧ ClassValid { LineClass.default with flashMin := 100 } :=
  ⟨⟨⟨rfl, rfl⟩, by unfold ClassFits InSteps; decide, rfl, by unfold ClassValid InSteps; decide⟩,
   ⟨by unfold ClassFits InSteps; decide, by unfold ClassValid InSteps; decide⟩,
   ⟨by unfold ClassFits InSteps; decide, by unfold ClassValid InSteps; decide⟩, by unfold ClassValid InSteps; decide⟩

theorem test_met_ParkAndRemoveTearTheLineDown :
    Met 0 (unclaimed .toneWait) 0 .M 14 [byteOf (0 : LineNo).val]
    ∧ MetRinging 63 (held .ringing) anEntry .M 14 [byteOf (63 : LineNo).val]
    ∧ Met 0 (record .parked) 0 .M 14 [byteOf (0 : LineNo).val]
    ∧ Met 0 LineRecord.reset 0 .M 14 [byteOf (0 : LineNo).val]
    ∧ Met 0 (held .held) 0 .M 16 [byteOf (0 : LineNo).val]
    ∧ Met 63 LineRecord.reset 0 .M 16 [byteOf (63 : LineNo).val] :=
  ⟨met (by decide), metRinging (by decide), met (by decide), met (by decide), met (by decide), met (by decide)⟩

/-- A line out of service by its admin flag. -/
def adminOut : LineRecord := { LineRecord.reset with admin := true, oosReason := some .admin }

theorem test_met_RestoreAndUnparkReturnTheLine :
    (Met 0 adminOut 0 .M 17 [byteOf (0 : LineNo).val] ∧ adminOut.admin = true ∧ adminOut.oosReason = some .admin)
    ∧ (Met 0 { LineRecord.reset with admin := true } 0 .M 17 [byteOf (0 : LineNo).val])
    ∧ (Met 0 LineRecord.reset 0 .M 17 [byteOf (0 : LineNo).val] ∧ LineRecord.reset.admin = false)
    ∧ (Met 63 (record .parked) 0 .M 15 [byteOf (63 : LineNo).val] ∧ (record .parked).hook = .on)
    ∧ (Met 63 { record .parked with hook := .off } 0 .M 15 [byteOf (63 : LineNo).val])
    ∧ Met 63 (record .idle) 0 .M 15 [byteOf (63 : LineNo).val] :=
  ⟨⟨met (by decide), rfl, rfl⟩, met (by decide), ⟨met (by decide), rfl⟩, ⟨met (by decide), rfl⟩, met (by decide),
   met (by decide)⟩

theorem test_met_ForceReleaseFreesTheLine :
    Met 0 (held .cleared) 0 .M 18 [byteOf (0 : LineNo).val] ∧ Met 0 anOrphan 0 .M 18 [byteOf (0 : LineNo).val]
    ∧ (Met 63 (record .idle) 0 .M 18 [byteOf (63 : LineNo).val] ∧ (record .idle).holder = none ∧ (record .idle).orphan = false) :=
  ⟨met (by decide), met (by decide), met (by decide), rfl, rfl⟩

/-- Each line of a card with one event, the other lines as they are. -/
def cardEvent (s : State) (c : CardNo) (e : ScanEvent) : State :=
  { s with scanEvents := Vector.ofFn fun l => if cardOf l = c then [e] else [] }

theorem test_met_CardEventsMoveTheCardsLines :
    (Consistent (cardEvent (onLine 63 (held .held)) 7 (.cardLoss 0))
      ∧ ∀ l : LineNo, cardOf l = 7 → (cardEvent (onLine 63 (held .held)) 7 (.cardLoss 0)).eventsOf l = [.cardLoss 0])
    ∧ (Consistent (cardEvent State.reset 0 (.cardPresent 0))
      ∧ ∀ l : LineNo, cardOf l = 0 → (cardEvent State.reset 0 (.cardPresent 0)).eventsOf l = [.cardPresent 0])
    ∧ (Consistent (cardEvent State.reset 0 (.cardSettled 0))
      ∧ ∀ l : LineNo, cardOf l = 0 → (State.reset.line l).state = .outOfService
          ∧ (cardEvent State.reset 0 (.cardSettled 0)).eventsOf l = [.cardSettled 0]) := by
  have reset : Consistent State.reset :=
    consistent_of_eq (consistent_onLine (l := 0) (r := LineRecord.reset) (now := 0) (by decide)) rfl rfl (by decide) (by decide)
      rfl rfl rfl
  refine ⟨⟨?_, ?_⟩, ⟨?_, ?_⟩, ?_, ?_⟩
  · exact consistent_of_eq (consistent_onLine (l := 63) (r := held .held) (now := 0) (by decide)) rfl rfl rfl rfl rfl rfl rfl
  · intro l h
    simp [cardEvent, State.eventsOf, h]
  · exact consistent_of_eq reset rfl rfl rfl rfl rfl rfl rfl
  · intro l h
    simp [cardEvent, State.eventsOf, h]
  · exact consistent_of_eq reset rfl rfl rfl rfl rfl rfl rfl
  · intro l h
    refine ⟨?_, by simp [cardEvent, State.eventsOf, h]⟩
    simp [State.reset, State.line, LineRecord.reset]

/-! ### Scanner -/

/-- A sample of a shelf with every card in place and every sense idle. -/
def quietShelf : ShelfSample := ⟨Vector.replicate 8 true, Vector.replicate 64 ⟨false, false, false, false⟩⟩

theorem test_met_ScanInstantSamplesTheShelf :
    (((onLine 0 (record .idle)).card (cardOf 63)).state = .inService
      ∧ (((onLine 0 (record .idle)).card (cardOf 63)).sample true 0).state = .inService)
    ∧ ((State.reset.card 0).state = .settling ∧ ((State.reset.card 0).sample true 0).state = .settling)
    ∧ ((⟨.absent, none, true⟩ : CardRecord).sample false 0).state = .absent
    ∧ ((⟨.absent, none, true⟩ : CardRecord).sample true 0).state = .settling
    ∧ ((⟨.settling, some 0, true⟩ : CardRecord).sample false 0).state = .absent
    ∧ ((⟨.inService, none, true⟩ : CardRecord).sample false 0).state = .absent
    ∧ ((ScanMode.ringOn none false).sample ⟨false, false, true, false⟩ 0 LineClass.default).2.2 = true
    ∧ ((after (.scanInstant quietShelf) State.reset).card 0).state = .settling := by decide

theorem test_met_CardsAreQualifiedAndSettle :
    (true = true ↔ CardState.settling ≠ .absent) ∧ ¬(false = true ↔ CardState.inService ≠ .absent)
    ∧ ((State.reset.card 7).state = .settling ∧ (State.reset.card 7).settleStart = some 0
        ∧ 0 + 2000 ≤ ({ State.reset with clock := ⟨2000, 0, 200, 0⟩ } : State).now) := by decide

theorem test_met_RunsQualifyAtTheirLatchedTime :
    let r : OffHookRun := ⟨⟨5, 60⟩, 240⟩
    onHookSample.offHook = false ∧ offHookSample.offHook = true ∧ (⟨false, true, true, false⟩ : LineSenses).ringTrip = true
    ∧ 55 + 5 - r.start < r.qualify ∧ r.qualify ≤ 60 + 5 - r.start ∧ 5 < LineClass.default.originationQualify
    ∧ ((⟨5, 60⟩ : Run).qualify ≤ 60 + 5 - (⟨5, 60⟩ : Run).start ∧ 55 + 5 - (⟨5, 60⟩ : Run).start < (⟨5, 60⟩ : Run).qualify)
    ∧ onHookSample.ringTrip = false ∧ 5 < LineClass.default.ringTripQualify := by decide

theorem test_met_LongBreaksDisconnectAndMakesEndDigits :
    let b := LineClass.default.beginBreak 100
    onHookSample.offHook = false
    ∧ ((breaking 10).ringLatch = false ∧ (breaking 10).breakRun = some b ∧ b.flashMax ≤ 995 + 5 - b.start)
    ∧ (990 + 5 - b.start < b.flashMax ∧ b.hitLimit ≤ 110 + 5 - b.start ∧ 105 + 5 - b.start < b.hitLimit)
    ∧ ((OffHookScan.fresh 0 240 false).breakRun = none ∧ 5 < LineClass.default.hitLimit ∧ 5 < LineClass.default.flashMax)
    ∧ ({ LineClass.default with hitLimit := 5 } : LineClass).hitLimit ≤ 5
    ∧ ((OffHookScan.fresh 0 240 true).ringLatch = true ∧ (OffHookScan.fresh 0 240 true).pulses = 0)
    ∧ (let f : OffHookScan := ⟨100, 240, none, 10, true, false, false⟩
       f.breakRun = none ∧ 0 < f.pulses ∧ f.pulses ≤ 10 ∧ (f.overlong = true → f.pulses = 10)
       ∧ 330 + 5 - f.makeStart < f.interdigitMake ∧ f.interdigitMake ≤ 335 + 5 - f.makeStart
       ∧ 335 - f.makeStart < f.interdigitMake ∧ f.interdigitMake ≤ 340 - f.makeStart)
    ∧ (let f : OffHookScan := { breaking 3 with interdigitMake := 110 }
       0 < f.pulses ∧ f.interdigitMake ≤ 105 + 5 - f.makeStart ∧ 105 - b.start < b.hitLimit)
    ∧ (offHookSample.offHook = true
       ∧ b.hitLimit < b.pulseBreakMin ∧ b.pulseBreakMin ≤ b.pulseBreakMax ∧ b.pulseBreakMax < b.flashMin ∧ b.flashMin < b.flashMax)
    ∧ (110 - b.start < b.hitLimit ∧ 110 + 5 - (breaking 1).makeStart < (breaking 1).interdigitMake)
    ∧ (b.hitLimit ≤ 115 - b.start ∧ 125 - b.start < b.pulseBreakMin)
    ∧ (b.pulseBreakMin ≤ 130 - b.start ∧ 195 - b.start ≤ b.pulseBreakMax ∧ (breaking 9).pulses < 10 ∧ 10 ≤ (breaking 10).pulses)
    ∧ (b.pulseBreakMax < 200 - b.start ∧ 295 - b.start < b.flashMin)
    ∧ (b.flashMin ≤ 300 - b.start ∧ 995 - b.start < b.flashMax ∧ 995 - b.start = b.flashMax - 5) := by decide

theorem test_met_IndicationsMoveTheScannerRecord :
    (State.reset.indicate 63 .stepOn).indicationsOf 63 = .stepOn :: []
    ∧ (State.reset.indicate 0 .stepOff).indicationsOf 0 = .stepOff :: []
    ∧ (State.reset.indicate 0 .ringEnd).indicationsOf 0 = .ringEnd :: [] := by decide

theorem test_met_TableCommandsMoveTheScannerRecord :
    let inService := (onLine 0 (record .idle)).sendCommand 0 .takeAfresh
    (inService.commandsOf 0 = .takeAfresh :: [] ∧ (inService.card (cardOf 0)).state = .inService)
    ∧ ((State.reset.sendCommand 63 .takeAfresh).commandsOf 63 = .takeAfresh :: []
        ∧ ((State.reset.sendCommand 63 .takeAfresh).card (cardOf 63)).state ≠ .inService)
    ∧ (let s := (State.reset.sendCommand 0 .discardPulseCount).setMode 0 (.offHook (breaking 1))
       s.commandsOf 0 = .discardPulseCount :: [] ∧ (s.scan 0).mode = .offHook (breaking 1))
    ∧ (State.reset.scan 0).mode = .out := by decide

/-! ### Origination, digits and calls -/

/-- A port made PRESENT. -/
def withPort (s : State) (p : Port) : State := s.modPort p fun t => { t with state := .present }

theorem test_met_OffHookOriginatesAnIdleLine :
    (MetEvent 63 (record .idle) 0 (.offHook 0 0) ∧ MetEvent 0 (record .idle) 0 (.answer 0 .ringTrip .on 0))
    ∧ (withPort (onLine 0 (record .idle)) .A).present (State.reset.lineClass 0).home = true
    ∧ ((withPort (onLine 0 (record .idle)) .B).present (State.reset.lineClass 0).home = false
        ∧ (State.reset.lineClass 0).alternate = some .B ∧ (withPort (onLine 0 (record .idle)) .B).present .B = true)
    ∧ ∀ p, (State.reset.lineClass 0).alternate = some p → State.reset.present p = false := by
  refine ⟨⟨metEvent (by decide), metEvent (by decide)⟩, by decide, by decide, ?_⟩
  intro p _
  cases p <;> decide

theorem test_met_LiftsOutsideIdleAndRinging :
    MetEvent 0 LineRecord.reset 0 (.offHook 0 0) ∧ MetEvent 0 (unclaimed .digits) 0 (.answer 0 .offHook .off 0)
    ∧ MetEvent 0 { held .cleared with hook := .on } 0 (.offHook 0 0) ∧ MetEvent 63 (record .parked) 0 (.offHook 0 0) :=
  ⟨metEvent (by decide), metEvent (by decide), metEvent (by decide), metEvent (by decide)⟩

theorem test_met_AskingForATap :
    (State.reset.tone.taps[(0 : Fin 12)] = none ∧ State.reset.tone.inUse < State.reset.tone.currentLimit
      ∧ State.reset.tone.queue = [])
    ∧ (let s := onLine 0 (unclaimed .dialTone)
       s.tone.taps[(1 : Fin 12)] = none ∧ (∀ j : Fin 12, j < 1 → s.tone.taps[j] ≠ none)
       ∧ ({ s.tone with currentLimit := 1 } : TonePool).currentLimit ≤ ({ s.tone with currentLimit := 1 } : TonePool).inUse)
    ∧ (onLine 0 (unclaimed .toneWait)).tone.queue ≠ []
    ∧ ∀ k : Fin 12, ({ State.reset.tone with taps := Vector.replicate 12 (some 63) } : TonePool).taps[k] ≠ none := by decide

/-- Line 0 has tap 0, line 63 waits for tone, and the tap limit is 1. -/
def lineWaitsForTone (r : LineRecord) : State :=
  let s := putWaiter (onLine 0 r) 63 (unclaimed .toneWait)
  s.setTone { s.tone with currentLimit := 1 }

theorem consistent_lineWaitsForTone {r : LineRecord} (h : recordRight r = true) (h2 : r.state = .dialTone) :
    Consistent (lineWaitsForTone r) := by
  have c : Consistent (onLine 0 r) := consistent_onLine h (by simp [h2]) (by simp [h2])
  exact consistent_putWaiter c (k := 63) (r := unclaimed .toneWait) rfl rfl (by rw [line_onLine]; rfl)

/-- A free tap for the head of the queue, and the four ways in which line 0 gives its tap back. -/
theorem test_met_GrantsAtTheHead :
    (let s := onLine 63 (unclaimed .toneWait)
     s.tone.queue = [⟨63, 3000⟩] ∧ s.tone.taps[(0 : Fin 12)] = none ∧ ∀ j : Fin 12, j < 0 → s.tone.taps[j] ≠ none)
    ∧ (let s : State := { onLine 63 (unclaimed .toneWait) with tapReturned := true }
       s.tapReturned = true ∧ s.tone.queue ≠ [] ∧ s.tone.inUse < s.tone.currentLimit ∧ s.passDue = false)
    ∧ (let s := lineWaitsForTone (claimed .dialTone)
       (Consistent (asked s .A 4 [0#8]) ∧ Asks (asked s .A 4 [0#8]) .A 4 [byteOf (0 : LineNo).val] [])
       ∧ (Consistent (asked s .A 5 [0#8]) ∧ (s.line 0).holder = some .A ∧ (s.line 0).state = .dialTone)
       ∧ s.tone.queue = [⟨63, 3000⟩] ∧ s.tone.inUse ≤ s.tone.currentLimit ∧ s.tone.taps[(0 : Fin 12)] = some 0)
    ∧ (let s := lineWaitsForTone (unclaimed .dialTone)
       Consistent (s.setEvents 0 [.pulse 0 60 1]) ∧ Consistent (s.setEvents 0 [.disconnect 0 0 0])
       ∧ (s.setEvents 0 [.disconnect 0 0 0]).eventsOf 0 = [.disconnect 0 0 0] ∧ (s.line 0).state = .dialTone) :=
  ⟨by decide, by decide,
   ⟨⟨consistent_asked (consistent_lineWaitsForTone rfl rfl) _ _ _, rfl⟩,
    ⟨consistent_asked (consistent_lineWaitsForTone rfl rfl) _ _ _, by decide, by decide⟩, by decide, by decide, by decide⟩,
   consistent_setEvents (consistent_lineWaitsForTone rfl rfl) _ _, consistent_setEvents (consistent_lineWaitsForTone rfl rfl) _ _,
   by decide, by decide⟩

/-- When line 0 gives tap 0 back by END TONE, line 63 gets it (R57). -/
theorem test_tap_goes_to_the_head :
    let t := after (.endTone .A) (asked (lineWaitsForTone (claimed .dialTone)) .A 4 [0#8])
    (t.line 0).state = .digits ∧ (t.line 63).state = .dialTone ∧ t.tone.taps[(0 : Fin 12)] = some 63 ∧ t.tone.queue = [] := by
  decide

/-- An unclaimed line in DIGITS with sixteen digits, and one with two. -/
def sixteenDigits : LineRecord := { unclaimed .digits with digits := List.replicate 16 7 }

def twoDigits : LineRecord := { unclaimed .digits with digits := [4, 2] }

theorem test_met_ClaimTakesTheLineOrIsRefused :
    (Met 0 twoDigits 0 .B 3 [byteOf (0 : LineNo).val, 3#8] ∧ twoDigits.digits.length < (3#8 : Byte).toNat)
    ∧ Met 63 (unclaimed .dialTone) 0 .A 3 [byteOf (63 : LineNo).val, 0#8]
    ∧ (Met 0 sixteenDigits 0 .A 3 [byteOf (0 : LineNo).val, 16#8] ∧ (16#8 : Byte).toNat ≤ sixteenDigits.digits.length)
    ∧ Met 0 (claimed .digits) 0 .A 3 [byteOf (0 : LineNo).val, 16#8]
    ∧ (Met 0 (claimed .digits) 0 .B 3 [byteOf (0 : LineNo).val, 0#8] ∧ (claimed .digits).holder = some .A ∧ Port.A ≠ .B)
    ∧ (Met 0 (held .held) 0 .A 3 [byteOf (0 : LineNo).val, 0#8] ∧ (held .held).state.originating = false)
    ∧ (Met 0 (record .idle) 0 .A 3 [byteOf (0 : LineNo).val, 17#8] ∧ 16 < (17#8 : Byte).toNat) :=
  ⟨⟨met (by decide), by decide⟩, met (by decide), ⟨met (by decide), by decide⟩, met (by decide),
   ⟨met (by decide), rfl, by decide⟩, ⟨met (by decide), rfl⟩, met (by decide), by decide⟩

theorem test_met_HolderTakesTheLineOffTone :
    (Met 0 (claimed .dialTone) 0 .A 4 [byteOf (0 : LineNo).val] ∧ (claimed .dialTone).holder = some .A)
    ∧ Met 63 { claimed .toneWait with dialling := some .tone } 0 .A 4 [byteOf (63 : LineNo).val]
    ∧ Met 0 (claimed .digits) 0 .A 4 [byteOf (0 : LineNo).val]
    ∧ (Met 0 (claimed .dialTone) 0 .B 4 [byteOf (0 : LineNo).val] ∧ (claimed .dialTone).holder ≠ some .B)
    ∧ (Met 0 (claimed .toneWait) 0 .A 5 [byteOf (0 : LineNo).val] ∧ (claimed .toneWait).state.originating = true)
    ∧ (Met 0 (record .idle) 0 .A 5 [byteOf (0 : LineNo).val] ∧ (record .idle).holder ≠ some .A)
    ∧ (Met 0 (held .held) 0 .A 4 [byteOf (0 : LineNo).val] ∧ (held .held).state.originating = false)
    ∧ (Met 63 (held .recalling) 0 .A 5 [byteOf (63 : LineNo).val] ∧ (held .recalling).holder = some .A) :=
  ⟨⟨met (by decide), rfl⟩, met (by decide), met (by decide), ⟨met (by decide), by decide⟩, ⟨met (by decide), rfl⟩,
   ⟨met (by decide), by decide⟩, ⟨met (by decide), rfl⟩, met (by decide), rfl⟩

theorem test_met_PulsesMoveTheLineToDigits :
    MetEvent 0 (unclaimed .dialTone) 0 (.pulse 0 60 1) ∧ MetEvent 63 (claimed .toneWait) 0 (.pulse 0 60 1)
    ∧ MetEvent 0 (claimed .digits) 0 (.pulse 0 60 10) ∧ MetEvent 0 (unclaimed .digits) 0 (.pulse 0 60 2)
    ∧ MetEvent 0 (held .recalling) 0 (.pulse 0 60 1)
    ∧ (MetEvent 0 (held .held) 0 (.pulse 0 60 1) ∧ (held .held).state.originating = false ∧ (held .held).state ≠ .recalling) :=
  ⟨metEvent (by decide), metEvent (by decide), metEvent (by decide), metEvent (by decide), metEvent (by decide),
   metEvent (by decide), rfl, by decide⟩

theorem test_met_DigitsAndBadBreaksAtALine :
    (MetEvent 0 { sixteenDigits with digits := List.replicate 15 7 } 0 (.digitEnd 0 (.digit 9) 9))
    ∧ (MetEvent 0 sixteenDigits 0 (.digitEnd 0 (.digit 0) 10) ∧ 16 ≤ sixteenDigits.digits.length)
    ∧ (MetEvent 0 { claimed .digits with expected := 2 } 0 (.digitEnd 0 (.digit 1) 1))
    ∧ (MetEvent 0 { claimed .digits with expected := 1, delivered := 255 } 0 (.digitEnd 0 (.digit 1) 1))
    ∧ MetEvent 0 (held .held) 0 (.digitEnd 0 (.digit 1) 1) ∧ MetEvent 0 (held .recalling) 0 (.digitEnd 0 (.digit 1) 1)
    ∧ MetEvent 63 (record .parked) 0 (.digitEnd 0 (.digit 1) 1)
    ∧ MetEvent 0 (held .recalling) 0 (.badBreak 0 0 20) ∧ MetEvent 0 (record .idle) 0 (.badBreak 0 0 20)
    ∧ MetEvent 0 (held .held) 0 (.digitEnd 0 .tooManyPulses 11) ∧ MetEvent 0 (unclaimed .digits) 0 (.digitEnd 0 .badBreak 3)
    ∧ (MetEvent 0 { held .recalling with digits := List.replicate 16 7 } 0 (.digitEnd 0 (.digit 1) 1))
    ∧ MetEvent 0 (claimed .digits) 0 (.digitEnd 0 .tooManyPulses 11) ∧ MetEvent 0 (held .recalling) 0 (.digitEnd 0 .badBreak 3)
    ∧ MetEvent 63 (record .idle) 0 (.digitEnd 0 .badBreak 3) :=
  ⟨metEvent (by decide), ⟨metEvent (by decide), by decide⟩, metEvent (by decide), metEvent (by decide), metEvent (by decide),
   metEvent (by decide), metEvent (by decide), metEvent (by decide), metEvent (by decide), metEvent (by decide),
   metEvent (by decide), metEvent (by decide), metEvent (by decide), metEvent (by decide), metEvent (by decide)⟩

theorem test_met_FlashStartsARecallOrRestartsDialling :
    MetEvent 0 (held .held) 0 (.flash 0 0 200 0) ∧ MetEvent 0 (unclaimed .toneWait) 0 (.flash 0 0 200 0)
    ∧ MetEvent 0 twoDigits 0 (.flash 0 0 895 3) ∧ MetEvent 63 (record .idle) 0 (.flash 0 0 200 0) :=
  ⟨metEvent (by decide), metEvent (by decide), metEvent (by decide), metEvent (by decide)⟩

/-- A parked line off-hook, at the times before and at the park release counted from a break at 0. -/
theorem test_met_DisconnectEndsTheCall :
    MetEvent 0 (unclaimed .dialTone) 0 (.disconnect 0 0 0) ∧ MetEvent 0 (held .held) 0 (.disconnect 0 0 11)
    ∧ MetEvent 0 { held .cleared with reorigination := some true } 0 (.disconnect 0 0 0)
    ∧ (MetEvent 0 { record .parked with hook := .off } 1999 (.disconnect 1999 0 0)
        ∧ 1999 < 0 + (State.reset.lineClass 0).parkRelease)
    ∧ (MetEvent 0 { record .parked with hook := .off } 2000 (.disconnect 2000 0 0)
        ∧ 0 + (State.reset.lineClass 0).parkRelease ≤ 2000)
    ∧ (MetEvent 63 (record .idle) 0 (.disconnect 0 0 0)
        ∧ Consistent ((ringing (onLine 0 (held .ringing)) 0 anEntry).setEvents 0 [.disconnect 0 0 0])
        ∧ Consistent ((waiting (onLine 0 (held .ringWait)) (aRequest 0)).setEvents 0 [.disconnect 0 0 0]))
    ∧ MetEvent 63 LineRecord.reset 0 (.disconnect 0 0 0) :=
  ⟨metEvent (by decide), metEvent (by decide), metEvent (by decide), ⟨metEvent (by decide), by decide⟩,
   ⟨metEvent (by decide), by decide⟩,
   ⟨metEvent (by decide), consistent_setEvents (consistent_ringing (by decide)) _ _,
    consistent_setEvents (consistent_waiting (w := aRequest 0) (by decide)) _ _⟩, metEvent (by decide)⟩

/-- A recall with digits dialled already. -/
def recallWith (ds : List Digit) (inProgress : Bool) : LineRecord :=
  { held .recalling with digits := ds, digitInProgress := some inProgress }

theorem test_met_GiveToneTakesTheCallBackToDialling :
    (Met 0 (recallWith [4, 2] false) 0 .A 6 [byteOf (0 : LineNo).val, 2#8] ∧ (2#8 : Byte).toNat ≤ 2)
    ∧ (Met 0 (recallWith [4, 2] false) 0 .A 6 [byteOf (0 : LineNo).val, 3#8] ∧ 2 < (3#8 : Byte).toNat)
    ∧ Met 63 (recallWith [] true) 0 .A 6 [byteOf (63 : LineNo).val, 16#8]
    ∧ (Met 0 (recallWith [] false) 0 .A 6 [byteOf (0 : LineNo).val, 0#8] ∧ (recallWith [] false).digitInProgress ≠ some true)
    ∧ (Met 0 (recallWith [] false) 0 .A 6 [64#8, 17#8] ∧ 64 ≤ (64#8 : Byte).toNat ∧ 16 < (17#8 : Byte).toNat)
    ∧ (Met 63 (recallWith [] false) 0 .B 6 [byteOf (63 : LineNo).val, 16#8] ∧ (recallWith [] false).holder ≠ some .B)
    ∧ (Met 0 (held .held) 0 .A 6 [byteOf (0 : LineNo).val, 0#8] ∧ (held .held).state ≠ .recalling) :=
  ⟨⟨met (by decide), by decide⟩, ⟨met (by decide), by decide⟩, met (by decide), ⟨met (by decide), by decide⟩,
   ⟨met (by decide), by decide, by decide⟩, ⟨met (by decide), by decide⟩, met (by decide), by decide⟩

theorem test_met_KeepCallKeepsTheCall :
    (Settled (asked State.reset .A 7 [64#8]) ∧ Asks (asked State.reset .A 7 [64#8]) .A 7 [64#8] [] ∧ 64 ≤ (64#8 : Byte).toNat)
    ∧ Met 0 (recallWith [4] false) 0 .A 7 [byteOf (0 : LineNo).val]
    ∧ (Met 0 (recallWith [4] false) 0 .B 7 [byteOf (0 : LineNo).val] ∧ (recallWith [4] false).holder ≠ some .B)
    ∧ (Met 63 (held .held) 0 .A 7 [byteOf (63 : LineNo).val] ∧ (held .held).state ≠ .recalling)
    ∧ MetEvent 0 (held .held) 0 (.digitEnd 0 (.digit 4) 4) :=
  ⟨⟨⟨rfl, rfl⟩, rfl, by decide⟩, met (by decide), ⟨met (by decide), by decide⟩, ⟨met (by decide), by decide⟩,
   metEvent (by decide)⟩

theorem test_met_ReleaseGivesTheLineBack :
    Met 0 { held .cleared with reorigination := some false } 0 .A 8 [byteOf (0 : LineNo).val]
    ∧ Met 0 { held .cleared with reorigination := some true } 0 .A 8 [byteOf (0 : LineNo).val]
    ∧ (Met 0 (claimed .dialTone) 0 .A 8 [byteOf (0 : LineNo).val] ∧ (claimed .dialTone).hook = .off)
    ∧ MetRinging 63 (held .ringing) anEntry .A 8 [byteOf (63 : LineNo).val]
    ∧ MetWaiting 0 (held .ringWait) 0 .A 8 [byteOf (0 : LineNo).val]
    ∧ (Met 0 (held .held) 0 .B 8 [byteOf (0 : LineNo).val] ∧ (held .held).holder ≠ some .B) :=
  ⟨met (by decide), met (by decide), ⟨met (by decide), rfl⟩, metRinging (by decide), metWaiting (by decide),
   met (by decide), by decide⟩

/-- A record with a timer that expires at the time. -/
def timed (r : LineRecord) (p : TimerPurpose) (d : Ms) : LineRecord := { r with timer := some ⟨p, d⟩ }

/-- A state of one line at a time, as the statements about expiries need it. -/
def MetTime (l : LineNo) (r : LineRecord) (now : Ms) : Prop :=
  Consistent (onLine l r now) ∧ (onLine l r now).line l = r ∧ (onLine l r now).now = now

theorem metTime {l : LineNo} {r : LineRecord} {now : Ms} (h : recordRight r = true)
    (h2 : r.state ≠ .ringing := by decide) (h3 : r.state ≠ .ringWait := by decide) : MetTime l r now :=
  ⟨consistent_onLine h h2 h3, by rw [line_onLine, if_pos rfl], rfl⟩

/-- An offer at its alternate stage. -/
def atAlternate : LineRecord := { unclaimed .dialTone with offer := .alternate, offeredPort := some .B }

theorem test_met_TimersAndDeadlinesMoveTheLine :
    (MetTime 0 (timed (claimed .digits) .interdigit 8000) 8000 ∧ (claimed .digits).recallMark = false)
    ∧ MetTime 0 (timed { claimed .digits with recallMark := true } .interdigit 8000) 8000
    ∧ MetTime 0 (timed (held .recalling) .recallWindow 4000) 4000
    ∧ MetTime 0 (timed { held .cleared with reorigination := some false } .releaseWait 20000) 20000
    ∧ MetTime 0 (timed { held .cleared with reorigination := some true } .releaseWait 20000) 20000
    ∧ MetTime 63 (timed (record .parked) .parkRelease 2000) 2000
    ∧ MetTime 0 (timed (unclaimed .dialTone) .firstDigit 12000) 12000
    ∧ MetTime 0 (timed { claimed .toneWait with recallMark := true } .firstDigit 12000) 12000
    ∧ (MetTime 0 (unclaimed .dialTone) 2000 ∧ (unclaimed .dialTone).offerDeadline = some 2000
        ∧ (withPort (onLine 0 (unclaimed .dialTone) 2000) .B).present .B = true)
    ∧ (MetTime 0 atAlternate 2000 ∧ atAlternate.hook = .off)
    ∧ (MetTime 0 { unclaimed .toneWait with toneWaitStart := some 0, toneDelayReported := some false } 3000
        ∧ (⟨0, 3000⟩ : ToneWaiter) ∈ (onLine 0 (unclaimed .toneWait) 3000).tone.queue) :=
  ⟨⟨metTime (by decide), rfl⟩, metTime (by decide), metTime (by decide), metTime (by decide), metTime (by decide),
   metTime (by decide), metTime (by decide), metTime (by decide), ⟨metTime (by decide), rfl, by decide⟩,
   ⟨metTime (by decide), rfl⟩, metTime (by decide), by decide⟩

/-! ### Cadence programs, allocation and ringing -/

/-- A program of two steps, and one of eight at the greatest length. -/
def twoSteps : List StepFields := [⟨.on, 10, false⟩, ⟨.off, 20, true⟩]

def eightSteps : List StepFields := List.replicate 8 ⟨.on, 30, false⟩

theorem test_met_WriteStepsLoadsADraft :
    (Met 0 LineRecord.reset 0 .A 19 ([byteOf (15 : ProgramNo).val, byteOf eightSteps.length] ++ stepBytes eightSteps)
      ∧ (∀ f ∈ eightSteps, 1 ≤ f.length ∧ f.length ≤ 30) ∧ eightSteps.length = 8
      ∧ ¬((State.reset.program 15).state = .ready ∧ 0 < (State.reset.program 15).uses))
    ∧ (let s := State.reset.takeUse 0
       (s.program 0).state = .ready ∧ 0 < (s.program 0).uses) :=
  ⟨⟨met (by decide), by decide, rfl, by decide⟩, by decide⟩

/-- Program 1 a DRAFT of these steps. -/
def draftOf (fs : List StepFields) : State :=
  (State.reset.writeBlock 1 fs).setProgram 1 ⟨.draft, some (shapeOf fs), none, none, 0, none⟩

def drafted : State := draftOf twoSteps

/-- The tests of COMMIT PROGRAM up to the cycle length, as the statement makes them. -/
def commitTests (fs : List StepFields) : List Bool :=
  let s := draftOf fs
  let gs := s.blockFields 1 (s.stepCount 1)
  [(List.range (s.stepCount 1)).all fun i => (s.readStep 1 i).isSome, gs.any (·.kind == .on),
   (gs.filter (·.marker)).length == 1 && gs.getLast?.any (·.marker), 30 % (s.shape 1).cycle == 0]

/-- A draft for each cause of refusal, from the second test on. -/
theorem test_met_drafts_that_fail :
    commitTests [⟨.off, 30, true⟩] = [true, false, true, true] ∧ commitTests [⟨.on, 30, false⟩] = [true, true, false, true]
    ∧ commitTests [⟨.on, 15, true⟩, ⟨.off, 15, true⟩] = [true, true, false, true]
    ∧ commitTests [⟨.on, 7, true⟩] = [true, true, true, false] ∧ commitTests twoSteps = [true, true, true, true]
    ∧ (let s := drafted.setStep 9 { drafted.step 9 with contents := some ⟨.off, 21, true⟩ }
       (s.program 1).state = .draft ∧ 1 < s.stepCount 1 ∧ s.readStep 1 1 = none ∧ (s.readStep 1 0).isSome) := by decide

theorem test_met_CommitValidatesADraft :
    (Settled (asked drafted .A 20 [1#8, 255#8, 0#8])
      ∧ Asks (asked drafted .A 20 [byteOf (1 : ProgramNo).val, byteOf (((none : Option ProgramNo).map (·.val)).getD 255), 0#8]) .A 20
          [byteOf (1 : ProgramNo).val, byteOf (((none : Option ProgramNo).map (·.val)).getD 255), 0#8] [])
    ∧ ((drafted.program 1).state = .draft ∧ (∀ i, i < drafted.stepCount 1 → (drafted.readStep 1 i).isSome)
        ∧ (∃ f ∈ drafted.blockFields 1 (drafted.stepCount 1), f.kind = .on)
        ∧ (((drafted.blockFields 1 (drafted.stepCount 1)).filter (·.marker)).length = 1
            ∧ ∃ f, (drafted.blockFields 1 (drafted.stepCount 1)).getLast? = some f ∧ f.marker = true)
        ∧ 30 % (drafted.shape 1).cycle = 0 ∧ (drafted.program 0).state = .ready)
    ∧ (drafted.program 2).state ≠ .ready ∧ (State.reset.program 0).state ≠ .draft := by
  refine ⟨⟨⟨rfl, rfl⟩, rfl⟩, ⟨by decide, by decide, ⟨⟨.on, 10, false⟩, by decide, rfl⟩, ⟨by decide, ⟨.off, 20, true⟩, by decide, rfl⟩,
    by decide, by decide⟩, by decide, by decide⟩

theorem test_met_EraseClearsAndReadChangesNothing :
    (Settled (asked State.reset .A 21 [byteOf (0 : ProgramNo).val])
      ∧ Asks (asked State.reset .A 21 [byteOf (0 : ProgramNo).val]) .A 21 [byteOf (0 : ProgramNo).val] []
      ∧ (State.reset.program 0).uses = 0
      ∧ ∀ h : ProgramNo, h ≠ 0 → ¬((State.reset.program h).state = .ready ∧ (State.reset.program h).followOn = some 0))
    ∧ 0 < ((State.reset.takeUse 0).program 0).uses
    ∧ ((State.reset.program 15).state ≠ .ready
        ∧ ∀ i, i < State.reset.stepCount 0 → (State.reset.readStep 0 i).isSome)
    ∧ (State.reset.program 0).shape = some (shapeOf twoSteps)
    ∧ (let s := State.reset.setProgram 15 ⟨.ready, none, some 0, some 1, 0, none⟩
       (15 : ProgramNo) ≠ 0 ∧ (s.program 15).state = .ready ∧ (s.program 15).followOn = some 0) :=
  ⟨⟨⟨rfl, rfl⟩, rfl, by decide, by decide⟩, by decide, ⟨by decide, by decide⟩, by decide, by decide⟩

/-- Program 0 with its second step changed under its code. -/
def corrupted : State := State.reset.setStep 1 { State.reset.step 1 with contents := some ⟨.off, 21, true⟩ }

theorem test_met_IntegrityFaultEndsEveryRingOnTheProgram :
    Consistent (asked corrupted .A 22 [0#8]) ∧ Asks (asked corrupted .A 22 [0#8]) .A 22 [byteOf (0 : ProgramNo).val] []
    ∧ (corrupted.program 0).state = .ready ∧ 1 < corrupted.stepCount 0 ∧ corrupted.readStep 0 1 = none
    ∧ ∀ j, j < 1 → (corrupted.readStep 0 j).isSome := by
  refine ⟨?_, rfl, by decide, by decide, by decide, by decide⟩
  have c : Consistent (onLine 0 LineRecord.reset) := consistent_onLine (by decide)
  exact consistent_asked (s := corrupted) (consistent_of_eq c rfl rfl (by decide) (by decide) rfl rfl rfl) _ _ _

/-- Line 0 rings on program 0, booked, with one of the two steps changed under its code. -/
def ringsOnCorrupted (e : RingEntry) (step : StepNo) : State :=
  let s := book (ringing (onLine 0 (held .ringing)) 0 e) 0 e
  s.setStep step { s.step step with contents := some ⟨.off, 21, true⟩ }

theorem consistent_ringsOnCorrupted (e : RingEntry) (step : StepNo) : Consistent (ringsOnCorrupted e step) := by
  have c : Consistent (ringing (onLine 0 (held .ringing)) 0 e) := consistent_ringing rfl rfl
  match e, c with
  | { sup := .one, .. }, c => exact consistent_of_eq c rfl rfl rfl rfl rfl rfl rfl
  | { sup := .two, .. }, c => exact consistent_of_eq c rfl rfl rfl rfl rfl rfl rfl

/-- The failing step is the first, the next after an ON step, and the first of the next cycle. -/
theorem test_met_StepsThatFailAtAnEntry :
    let onStep : RingEntry := { anEntry with step := some ⟨0, .on, false⟩, fed := true }
    let cycle : RingEntry := { anEntry with step := some ⟨1, .off, true⟩, cycles := 2 }
    (Consistent (ringsOnCorrupted anEntry 0) ∧ (ringsOnCorrupted anEntry 0).entry 0 = some anEntry
      ∧ (ringsOnCorrupted anEntry 0).readStep 0 0 = none ∧ ((ringsOnCorrupted anEntry 0).program 0).state = .ready
      ∧ UsesRight ((ringsOnCorrupted anEntry 0).setEntry 0 (some anEntry)))
    ∧ (Consistent (ringsOnCorrupted onStep 1) ∧ (ringsOnCorrupted onStep 1).readStep 0 (0 + 1) = none)
    ∧ (Consistent (ringsOnCorrupted cycle 0) ∧ (ringsOnCorrupted cycle 0).readStep 0 0 = none ∧ 2 ≤ cycle.cycles
        ∧ cycle.finishing = false ∧ ((ringsOnCorrupted cycle 0).program 0).followOn = none) :=
  ⟨⟨consistent_ringsOnCorrupted _ _, by decide, by decide, by decide, by unfold UsesRight; decide⟩,
   ⟨consistent_ringsOnCorrupted _ _, by decide⟩, consistent_ringsOnCorrupted _ _, by decide, by decide, rfl, by decide⟩

/-- A STEP_END that meets the failing step ends the ring and faults the program (R97). -/
theorem test_fault_at_step_end :
    let t := after (.stepEnd 0) (ringsOnCorrupted anEntry 0)
    (t.program 0).state = .faulted ∧ (t.program 0).faultedAt = some 0 ∧ (t.program 0).uses = 0 ∧ t.entry 0 = none
    ∧ (t.line 0).state = .idle ∧ t.indicationsOf 0 = [.ringEnd] := by decide

/-- Two candidates: on equal sums Supply 1 is taken, with load on it Supply 2; another's turn takes a candidate away, the line's
own does not; the line may be grounded, and no candidate may fit. -/
theorem test_met_SupplyOrder :
    let s := onLine 0 (held .ringWait)
    let loaded : State := s.setSupply .one { s.supply .one with map := Vector.replicate 30 1 }
    let turn (l : LineNo) : State := s.setSupply .one { s.supply .one with turn := some l }
    let fit (s : State) (u : Supply) : Option Nat := (s.supply u).findOffset (s.shape 0) (s.partyLoad 0 1)
    let sum (s : State) (u : Supply) : Nat := (s.supply u).map.toList.sum
    (s.party 0 1 = some ⟨.loopAny, 2⟩ ∧ s.candidates 0 1 = [.one, .two] ∧ fit s .one = some 0 ∧ fit s .two = some 0
      ∧ sum s .one = sum s .two ∧ (s.scan 0).ground = false)
    ∧ (fit loaded .two = some 0 ∧ sum loaded .two < sum loaded .one ∧ loaded.attempt (aRequest 0) = .placed .two 0)
    ∧ ((turn 1).candidates 0 1 = [.two] ∧ (turn 0).candidates 0 1 = [.one, .two])
    ∧ (s.setScan 0 ⟨.out, true⟩).attempt (aRequest 0) = .grounded
    ∧ (let low := (s.setSupply .one { s.supply .one with current := 1 }).setSupply .two { s.supply .two with current := 1 }
       fit low .one = none ∧ fit low .two = none) := by decide

theorem test_met_AttemptTakesTheFirstFittingOffset :
    (SupplyRecord.reset.findOffset (shapeOf twoSteps) 2 = some 0 ∧ SupplyRecord.reset.findOffset (shapeOf twoSteps) 24 = some 0
      ∧ SupplyRecord.reset.findOffset (shapeOf twoSteps) 25 = none)
    ∧ (onLine 0 (held .ringWait)).attempt (aRequest 0) = .placed .one 0
    ∧ (let s (n : Nat) := waiting (onLine 0 (held .ringWait)) { aRequest 0 with passOvers := n }
       ((s 254).request 0 = some { aRequest 0 with passOvers := 254 } ∧ (s 255).request 0 = some { aRequest 0 with passOvers := 255 }))
    ∧ (let s : State := { waiting (onLine 0 (held .ringWait)) (aRequest 0) with passDue := true }
       let low (n : Nat) := (s.setSupply .one { s.supply .one with current := n }).setSupply .two { s.supply .two with current := n }
       s.passDue = true ∧ s.tapReturned = false ∧ s.alloc.queue = [aRequest 0] ∧ s.attempt (aRequest 0) = .placed .one 0
       ∧ (s.setScan 0 ⟨.out, true⟩).attempt (aRequest 0) = .grounded
       ∧ (∀ w ∈ (low 1).alloc.queue, (low 1).attempt w = .failed)) := by decide

/-- A RING on party 1 of a line with program 0. -/
def ringBody (l : LineNo) (g : ProgramNo) (n : Byte) : List Byte :=
  [byteOf l.val, byteOf ((0 : Fin 4).val + 1), byteOf g.val, n, byteOf (Priority.normal).code]

/-- A line with a party on Supply 1 alone. -/
def oneSupply (load : Nat) : LineRecord := { record .idle with parties := [⟨.loop1, load⟩] }

theorem test_met_RingChecksInOrder :
    (Met 0 (record .idle) 0 .A 9 [byteOf (0 : LineNo).val, byteOf ((3 : Fin 4).val + 1), 0#8, 1#8, byteOf (Priority.normal).code]
      ∧ (record .idle).parties.length < (3 : Fin 4).val + 1)
    ∧ (Met 0 (record .idle) 0 .A 9 (ringBody 0 15 1#8) ∧ (State.reset.program 15).state ≠ .ready)
    ∧ ((onLine 0 (oneSupply 25)).partySupplies 0 1 = [.one] ∧ ((onLine 0 (oneSupply 25)).supply .one).normal
        < (onLine 0 (oneSupply 25)).partyLoad 0 1)
    ∧ (Met 0 (record .parked) 0 .A 9 (ringBody 0 0 255#8) ∧ ¬((State.reset.supply .one).normal < 2))
    ∧ Met 0 { held .cleared with holder := some .B } 0 .A 9 (ringBody 0 0 1#8)
    ∧ Met 0 { held .cleared with reorigination := some true } 0 .A 9 (ringBody 0 0 1#8)
    ∧ Met 63 (unclaimed .digits) 0 .A 9 (ringBody 63 0 1#8)
    ∧ MetRinging 0 (held .ringing) anEntry .A 9 (ringBody 0 0 1#8) :=
  ⟨⟨met (by decide), by decide⟩, ⟨met (by decide), by decide⟩, by decide, ⟨met (by decide), by decide⟩, met (by decide),
   met (by decide), met (by decide), metRinging (by decide)⟩

/-- In ECONOMY with a budget of 7 on Supply 1 and none on Supply 2, line 0 waits with a party of load 8, and line 5 is IDLE. -/
def othersWait (x : Party) (y : Party) : State :=
  let s := (onLine 0 { held .ringWait with parties := [x] }).takeUse 0
  let s := (s.setSupply .one { SupplyRecord.reset with economy := 7, current := 7 }).setSupply .two
    { SupplyRecord.reset with economy := 0, current := 0 }
  put (waiting { s with alloc := { s.alloc with plant := .economy } } (aRequest 0)) 5 { record .idle with parties := [y] } none

theorem consistent_othersWait (x y : Party) : Consistent (othersWait x y) := by
  have c : Consistent (waiting (onLine 0 { held .ringWait with parties := [x] }) (aRequest 0)) :=
    consistent_waiting (w := aRequest 0) rfl rfl rfl
  exact consistent_put (consistent_of_eq c rfl rfl rfl rfl rfl rfl rfl) rfl ⟨nofun, nofun⟩ ⟨nofun, nofun, nofun⟩ rfl

/-- A party that waits for Supply 1, and one that waits for Supply 2. -/
def waiter (far : Bool) : Party := ⟨if far then .loop2 else .loop1, 8⟩

theorem accounts_othersWait (far : Bool) : RingAccountsRight (othersWait (waiter far) ⟨.loopAny, 2⟩) := by
  refine ⟨?_, ?_, ?_, ⟨?_, ?_⟩, ?_⟩ <;> cases far
  iterate 4
    · intro sup
      cases sup <;> decide
  iterate 2
    · unfold UsesRight
      decide
  iterate 4
    · decide
  iterate 2
    · intro sup l h
      cases sup <;> cases (show none = some l from h)

/-- The new request waits behind the one that waits already and fails; it is placed past it, on a supply that is its candidate or
one that is not. -/
theorem test_met_RingsThatFindOthersWaiting :
    (let s := othersWait (waiter false) ⟨.loop1, 8⟩
     let w := ringRequest s .A 5 1 0 1 .normal
     Consistent (asked s .A 9 (ringBody 5 0 1#8)) ∧ Asks (asked s .A 9 (ringBody 5 0 1#8)) .A 9 (ringBody 5 0 1#8) []
     ∧ s.alloc.queue ≠ [] ∧ (∀ x ∈ s.alloc.queue, s.attempt x = .failed) ∧ s.attempt w = .failed
     ∧ s.partyLoad 5 1 ≤ (s.supply .one).normal ∧ (s.line 5).state = .idle)
    ∧ ∀ far : Bool,
        let s := othersWait (waiter far) ⟨.loopAny, 2⟩
        let w := ringRequest s .A 5 1 0 1 .normal
        (Consistent (asked s .A 9 (ringBody 5 0 1#8)) ∧ RingAccountsRight s)
        ∧ s.alloc.queue = [aRequest 0] ∧ w.before (aRequest 0) = false ∧ s.attempt (aRequest 0) = .failed
        ∧ s.attempt w = .placed .one 0 ∧ (aRequest 0).passOvers < 255
        ∧ (Supply.one ∈ s.candidates 0 1 ↔ far = false) := by
  refine ⟨⟨consistent_asked (consistent_othersWait _ _) _ _ _, asks_asked _ _ _ _, by decide, by decide, by decide, by decide,
    by decide⟩, fun far => ⟨⟨consistent_asked (consistent_othersWait _ _) _ _ _, accounts_othersWait far⟩, ?_⟩⟩
  cases far <;> decide

theorem test_met_RingIsAttemptedAtOnce :
    (Met 0 (record .idle) 0 .A 9 (ringBody 0 0 255#8)
      ∧ (onLine 0 (record .idle)).attempt (ringRequest (onLine 0 (record .idle)) .A 0 1 0 255 .normal) = .placed .one 0)
    ∧ (Met 63 { held .cleared with reorigination := some false } 0 .A 9 (ringBody 63 0 1#8))
    ∧ (let s := (onLine 0 (record .idle)).setScan 0 ⟨.onHook none, true⟩
       s.attempt (ringRequest s .A 0 1 0 1 .normal) = .grounded)
    ∧ (let s := ((onLine 0 (oneSupply 8)).setSupply .one { SupplyRecord.reset with current := 7 })
       s.attempt (ringRequest s .A 0 1 0 1 .normal) = .failed ∧ 8 ≤ (s.supply .one).normal)
    ∧ ((onLine 0 (record .idle)).alloc.queue = [] ∧ (onLine 0 (record .idle)).alloc.one.turn = none
        ∧ (onLine 0 (record .idle)).alloc.two.turn = none) :=
  ⟨⟨met (by decide), by decide⟩, met (by decide), by decide, by decide, by decide⟩

theorem test_met_LimitRequestsWriteTheirValues :
    (Met 0 LineRecord.reset 0 .A 23 [40#8, 40#8, 40#8, 0#8])
    ∧ (Met 0 LineRecord.reset 0 .A 23 [41#8, 0#8, 0#8, 1#8] ∧ 40 < (41#8 : Byte).toNat ∧ (0#8 : Byte).toNat < (1#8 : Byte).toNat)
    ∧ (Met 0 LineRecord.reset 0 .A 24 [120#8, 6#8] ∧ State.reset.alloc.turnThreshold ≤ (6#8 : Byte).toNat)
    ∧ (Met 0 LineRecord.reset 0 .A 24 [1#8, 5#8] ∧ (5#8 : Byte).toNat < State.reset.alloc.turnThreshold)
    ∧ (let s := waiting (onLine 0 (held .ringWait)) { aRequest 0 with passOvers := 5 }
       let w := (5#8 : Byte).toNat
       (s.alloc.queue.find? fun q => decide (Supply.two ∈ s.partySupplies q.line q.party) && decide (w ≤ q.passOvers)).map (·.line)
         = some 0)
    ∧ (Met 0 LineRecord.reset 0 .A 24 [121#8, 0#8] ∧ 120 < (121#8 : Byte).toNat)
    ∧ Met 0 LineRecord.reset 0 .A 26 [12#8, 12#8, 30#8]
    ∧ (Met 0 LineRecord.reset 0 .A 26 [13#8, 0#8, 31#8] ∧ 12 < (13#8 : Byte).toNat ∧ 30 < (31#8 : Byte).toNat)
    ∧ (Met 0 LineRecord.reset 0 .A 25 (plantBytes ⟨560, 559, 50, 300, 300, 600⟩) ∧ PlantLimitsValid ⟨560, 559, 50, 300, 300, 600⟩)
    ∧ (Met 0 LineRecord.reset 0 .A 25 (plantBytes ⟨400, 400, 2, 1, 1, 5⟩) ∧ ¬PlantLimitsValid ⟨400, 400, 2, 1, 1, 5⟩) :=
  ⟨met (by decide), ⟨met (by decide), by decide, by decide⟩, ⟨met (by decide), by decide⟩, ⟨met (by decide), by decide⟩,
   by decide, ⟨met (by decide), by decide⟩,
   met (by decide), ⟨met (by decide), by decide, by decide⟩, ⟨met (by decide), by unfold PlantLimitsValid; decide⟩,
   met (by decide), by unfold PlantLimitsValid; decide⟩

theorem test_met_AnswerTakesTheLineToHeld :
    (let s := (ringing (onLine 0 (held .ringing)) 0 anEntry).setEvents 0 [.answer 0 .ringTrip .on 0]
     Consistent s ∧ s.eventsOf 0 = [.answer 0 .ringTrip .on 0] ∧ s.entry 0 = some anEntry)
    ∧ (let s := (waiting (onLine 63 (held .ringWait)) (aRequest 63)).setEvents 63 [.offHook 0 0]
       Consistent s ∧ s.eventsOf 63 = [.offHook 0 0] ∧ s.request 63 = some (aRequest 63)) :=
  ⟨⟨consistent_setEvents (consistent_ringing (by decide)) _ _, by simp, by simp [ringing]⟩,
   consistent_setEvents (consistent_waiting (w := aRequest 63) (by decide)) _ _, by simp, by decide⟩

theorem test_met_RingStopAndRingFinish :
    (MetRinging 0 (held .ringing) anEntry .A 10 [byteOf (0 : LineNo).val] ∧ (held .ringing).holder = some .A)
    ∧ MetWaiting 63 { held .ringWait with returnState := some .cleared } 0 .A 10 [byteOf (63 : LineNo).val]
    ∧ MetRinging 0 (held .ringing) anEntry .A 11 [byteOf (0 : LineNo).val]
    ∧ MetWaiting 0 (held .ringWait) 0 .A 11 [byteOf (0 : LineNo).val]
    ∧ (MetRinging 0 (held .ringing) anEntry .B 10 [byteOf (0 : LineNo).val] ∧ (held .ringing).holder ≠ some .B)
    ∧ (Met 0 (held .held) 0 .A 10 [byteOf (0 : LineNo).val] ∧ (held .held).state ≠ .ringing ∧ (held .held).state ≠ .ringWait)
    ∧ MetRinging 0 (held .ringing) anEntry .B 11 [byteOf (0 : LineNo).val]
    ∧ (Met 63 (held .cleared) 0 .A 11 [byteOf (63 : LineNo).val] ∧ (held .cleared).holder = some .A) :=
  ⟨⟨metRinging (by decide), rfl⟩, metWaiting (by decide), metRinging (by decide), metWaiting (by decide),
   ⟨metRinging (by decide), by decide⟩, ⟨met (by decide), by decide, by decide⟩, metRinging (by decide), met (by decide), rfl⟩

theorem test_met_SlotsBurstsAndSteps :
    (let s := (ringing State.reset 0 { anEntry with step := some ⟨0, .on, false⟩ }).setBursts 0 [5]
     s.burstsOf 0 = [5] ∧ s.entry 0 = some { anEntry with step := some ⟨0, .on, false⟩ })
    ∧ (State.reset.setBursts 63 [5]).burstsOf 63 = [5]
    ∧ (let s := ringing State.reset 0 anEntry
       Settled s ∧ s.entry 0 = some anEntry ∧ anEntry.slotsLeft = 0 ∧ s.party 0 anEntry.party = some ⟨.loopAny, 2⟩
       ∧ anEntry.step = none ∧ s.readStep anEntry.program 0 = some ⟨.on, 10, false⟩ ∧ s.readStep anEntry.program 1 = some ⟨.off, 20, true⟩) :=
  ⟨by decide, by decide, ⟨rfl, rfl⟩, by decide, rfl, by decide, rfl, by decide, by decide⟩

/-- An entry at the end of its last OFF step, and one at the end of a second unfed ON step. -/
def lastOff : RingEntry := { anEntry with step := some ⟨1, .off, true⟩ }

def unfed : RingEntry := { anEntry with step := some ⟨0, .on, false⟩, missed := 1 }

theorem test_met_RingsEndInTheReturnState :
    (MetWaiting 0 (held .ringWait) 10000 .A 1 [0#8] ∧ (aRequest 0).deadline ≤ 10000)
    ∧ (MetRinging 0 (held .ringing) lastOff .A 1 [0#8] ∧ lastOff.slotsLeft = 0 ∧ lastOff.cycles = 1)
    ∧ (MetRinging 63 { held .ringing with returnState := some .cleared } unfed .A 1 [0#8] ∧ unfed.fed = false ∧ 1 ≤ unfed.missed) :=
  ⟨⟨metWaiting (by decide), by decide⟩, ⟨metRinging (by decide), rfl, rfl⟩, metRinging (by decide), rfl, by decide⟩

/-- Program 0 switches to `f` after one cycle, and the last step of a first cycle of two ends. -/
def switching (f : ProgramNo) (finishing : Bool := false) : State :=
  (ringing (onLine 0 (held .ringing)) 0 { lastOff with cycles := 2, finishing := finishing }).setProgram 0
    { State.reset.program 0 with followOn := some f, switchAfter := some 1 }

theorem consistent_switching (f : ProgramNo) (finishing : Bool) : Consistent (switching f finishing) :=
  consistent_of_eq (consistent_ringing (l := 0) (r := held .ringing) (n := { lastOff with cycles := 2, finishing := finishing }) (by decide))
    rfl rfl rfl rfl rfl rfl rfl

/-- The attempt of a follow-on switch to program 0, as the statement makes it. -/
def switchAttempt (s : State) : Attempt :=
  (s.setSupply .one ((s.supply .one).lower (s.shape 0) 0 (s.partyLoad 0 1))).attempt
    ⟨0, 1, 0, 1, .A, .normal, 0, 0, s.now, s.now + 1000 * s.alloc.waitLimit⟩

/-- Entries that go on, that finish and that switch. -/
theorem test_met_EntriesThatGoOn :
    (let on (fed : Bool) (missed : Nat) : RingEntry := { anEntry with step := some ⟨0, .on, false⟩, fed := fed, missed := missed }
     MetRinging 0 (held .ringing) (on true 1) .A 1 [0#8] ∧ MetRinging 0 (held .ringing) (on false 0) .A 1 [0#8]
     ∧ (onLine 0 (held .ringing)).readStep 0 1 = some ⟨.off, 20, true⟩)
    ∧ (MetRinging 0 (held .ringing) { lastOff with cycles := 2 } .A 1 [0#8]
        ∧ ((onLine 0 (held .ringing)).program 0).followOn = none ∧ (onLine 0 (held .ringing)).readStep 0 0 = some ⟨.on, 10, false⟩
        ∧ (onLine 0 (held .ringing)).party 0 1 = some ⟨.loopAny, 2⟩)
    ∧ (Consistent (switching 0 true) ∧ (switching 0 true).entry 0 = some { lastOff with cycles := 2, finishing := true })
    ∧ (Consistent (switching 2) ∧ ((switching 2).program 0).followOn = some 2 ∧ ((switching 2).program 2).state ≠ .ready)
    ∧ (((switching 0).program 0).switchAfter = some (lastOff.cyclesInProgram + 1) ∧ ((switching 0).program 0).state = .ready
        ∧ switchAttempt (switching 0) = .placed .one 0
        ∧ switchAttempt ((switching 0).setScan 0 ⟨.out, true⟩) = .grounded
        ∧ switchAttempt (((switching 0).setSupply .one { SupplyRecord.reset with current := 0 }).setSupply .two
            { SupplyRecord.reset with current := 0 }) = .failed
        ∧ (switching 0).alloc.queue = [] ∧ (switching 0).alloc.one.turn = none ∧ (switching 0).alloc.two.turn = none) :=
  ⟨⟨metRinging (by decide), metRinging (by decide), by decide⟩, ⟨metRinging (by decide), by decide, by decide, by decide⟩,
   ⟨consistent_switching _ _, by decide⟩, ⟨consistent_switching _ _, by decide, by decide⟩, by decide⟩

/-! ### Plant and resets -/

theorem test_met_PlantFollowsItsLevelWords :
    ((1022#10 : LevelWord) ≠ 1023#10 ∧ State.reset.plant.senseLost = false ∧ State.reset.plant.state = .normal)
    ∧ (let s := ({ State.reset with clock := ⟨4999, 0, 200, 0⟩ } : State).setPlant { State.reset.plant with shedRun := some 0 }
       s.now < 0 + 1000 * s.plant.limits.shedQualify ∧ (429#10 : LevelWord).toNat < s.plant.limits.shedLevel)
    ∧ (let s := ({ State.reset with clock := ⟨5000, 0, 200, 0⟩ } : State).setPlant { State.reset.plant with shedRun := some 0 }
       0 + 1000 * s.plant.limits.shedQualify ≤ s.now)
    ∧ (State.reset.plant.senseDeadline = some 1000 ∧ 1000 ≤ ({ State.reset with clock := ⟨1000, 0, 200, 0⟩ } : State).now)
    ∧ (State.reset.setPlant { State.reset.plant with senseLost := true }).plant.senseLost = true := by decide

/-- A monitor in a state with its three runs begun at 0, at a time. -/
def runsAt (st : PlantState) (now : Ms) : State :=
  ({ State.reset with clock := ⟨now, 0, 200, 0⟩ } : State).setPlant
    { State.reset.plant with state := st, economyRun := some 0, shedRun := some 0, recoveryRun := some 0 }

/-- The levels and the times at which the runs of the three states are begun, extended and complete. -/
theorem test_met_PlantRunsInEveryState :
    let k := State.reset.plant.limits
    ((runsAt .economy 0).plant.state = .economy ∧ (runsAt .shed 0).plant.senseLost = false)
    ∧ (k.shedLevel ≤ (430#10 : LevelWord).toNat ∧ (430#10 : LevelWord).toNat < k.economyLevel
        ∧ 0 + 1000 * k.economyQualify ≤ (runsAt .normal (1000 * k.economyQualify)).now)
    ∧ ((429#10 : LevelWord).toNat < k.shedLevel ∧ 0 + 1000 * k.shedQualify ≤ (runsAt .economy (1000 * k.shedQualify)).now)
    ∧ (k.economyLevel + k.hysteresis ≤ (1022#10 : LevelWord).toNat
        ∧ 0 + 1000 * k.recoveryTime ≤ (runsAt .economy (1000 * k.recoveryTime)).now
        ∧ (runsAt .shed (1000 * k.recoveryTime - 1)).now < 0 + 1000 * k.recoveryTime) := by decide

theorem test_met_BlocksTakeThePlantState :
    (Settled { State.reset with allocPlant := [.shed] } ∧ ({ State.reset with allocPlant := [.shed] } : State).allocPlant = .shed :: [])
    ∧ (let budget (u : Supply) : Nat := (State.reset.supply u).normal
       budget .one = (State.reset.supply .one).current ∧ budget .two = (State.reset.supply .two).current)
    ∧ Settled { State.reset with tonePlant := [.economy] } := ⟨⟨⟨rfl, rfl⟩, rfl⟩, ⟨rfl, rfl⟩, rfl, rfl⟩

/-- The tap limit rises from 1 to 12 while line 63 waits and tap 1 is the lowest free one. -/
theorem test_met_TapLimitRises :
    let s : State := { lineWaitsForTone (claimed .dialTone) with tonePlant := [.normal] }
    (Settled s ∧ s.tonePlant = .normal :: []) ∧ (s.tone.currentLimit < 12 ∧ s.tone.queue = [⟨63, 3000⟩] ∧ s.tone.inUse < 12)
    ∧ (s.tone.taps[(1 : Fin 12)] = none ∧ ∀ j : Fin 12, j < 1 → s.tone.taps[j] ≠ none)
    ∧ ((after .tapLimitChange s).tone.taps[(1 : Fin 12)] = some 63 ∧ ((after .tapLimitChange s).line 63).state = .dialTone) :=
  ⟨⟨⟨rfl, rfl⟩, rfl⟩, by decide, by decide, by decide⟩

/-- Two rings on a supply whose budget has fallen: line 1 has the younger entry. -/
theorem test_met_Evictions :
    let fallen (finishing : Bool) (n : Nat) : State :=
      (twoRinging finishing).setSupply .one { (twoRinging finishing).supply .one with current := n }
    (RingAgrees (fallen true 3) ∧ LoadMapsAddUp (fallen false 3))
    ∧ (∀ x : Fin 30, ((fallen false 4).supply .one).map[x] ≤ ((fallen false 4).supply .one).current)
    ∧ (((fallen false 3).supply .one).current < ((fallen false 3).supply .one).map[(0 : Fin 30)]
        ∧ (((fallen false 3).entry 0).map (·.stamp), ((fallen false 3).entry 1).map (·.stamp)) = (some 1, some 2))
    ∧ (((fallen false 1).evict .one).entry 0 = none ∧ ((fallen false 3).evict .one).entry 1 = none)
    ∧ ((fallen true 3).evict .one).entry 1 = none := by
  refine ⟨⟨(consistent_of_eq (consistent_twoRinging true) rfl rfl rfl rfl rfl rfl rfl).2.2.1, ?_⟩, by decide, by decide, by decide, by decide⟩
  intro sup
  cases sup
  · exact loadMaps_twoRinging .one
  · exact loadMaps_twoRinging .two

theorem test_met_ResetsSetTheBlocks :
    (Settled (asked State.reset .M 32 []) ∧ Asks (asked State.reset .M 32 []) .M 32 [] [])
    ∧ ({ State.reset with shelfResetDue := true } : State).shelfResetDue = true ∧ State.reset.shelfResetDue = false
    ∧ ReportBody.releaseForced.kind = 66 + (9 : Fin 22).val := ⟨⟨⟨rfl, rfl⟩, rfl⟩, rfl, rfl, rfl⟩

end Sys2Proof.Tests
end

section
/-! PROOFS. What the structure of the part says of one line: the line's view gathers its record and what it holds of tone and
ringing, and `Loose s ls` says that every line's view is right but for the lines `ls`, which hold nothing. An event opens a line
(it gives up what it holds), changes its record, and closes it again in a state that fits what it holds then. -/

namespace Sys2Proof.Machine

open Sys2Proof.Safety

/-- A line's record with what the line holds: a place in the tone wait queue, a tap, a waiting request, a ring entry, or, with no
entry, a relay that is not RELEASED. -/
structure LineView where
  record : LineRecord
  waits : Prop
  tapped : Prop
  queued : Prop
  rung : Prop
  stray : Prop

/-- The line holds nothing. -/
structure LineView.Bare (v : LineView) : Prop where
  waits : ¬v.waits
  tapped : ¬v.tapped
  queued : ¬v.queued
  rung : ¬v.rung
  stray : ¬v.stray

/-- The view with another record. -/
def LineView.withRecord (v : LineView) (r : LineRecord) : LineView := { v with record := r }

@[simp] theorem LineView.withRecord_record (v : LineView) (r : LineRecord) : (v.withRecord r).record = r := rfl

theorem LineView.Bare.withRecord {v : LineView} (b : v.Bare) (r : LineRecord) : (v.withRecord r).Bare :=
  ⟨b.waits, b.tapped, b.queued, b.rung, b.stray⟩

/-- What the line holds is what its state calls for (R55, R112, R123), and its record keeps its rules. -/
structure LineView.Right (v : LineView) : Prop where
  waits : v.waits ↔ v.record.state = .toneWait
  tapped : v.tapped ↔ v.record.state = .dialTone
  queued : v.queued ↔ v.record.state = .ringWait
  rung : v.rung ↔ v.record.state = .ringing
  stray : ¬v.stray
  record : LineRecordRight v.record

/-- A state in which a line holds nothing of tone and ringing (R55, R112). -/
def LineState.holdsNothing : LineState → Bool
  | .toneWait | .dialTone | .ringWait | .ringing => false
  | _ => true

theorem LineState.holdsNothing_iff {st : LineState} :
    st.holdsNothing = true ↔ st ≠ .toneWait ∧ st ≠ .dialTone ∧ st ≠ .ringWait ∧ st ≠ .ringing := by
  cases st <;> simp [holdsNothing]

/-- A bare line in a state that holds nothing is right when its record is. -/
theorem LineView.Bare.right {v : LineView} (b : v.Bare) (h : v.record.state.holdsNothing = true) (r : LineRecordRight v.record) :
    v.Right := by
  obtain ⟨h1, h2, h3, h4⟩ := LineState.holdsNothing_iff.1 h
  exact ⟨iff_of_false b.waits h1, iff_of_false b.tapped h2, iff_of_false b.queued h3, iff_of_false b.rung h4, b.stray, r⟩

/-- A right line in a state that holds nothing is bare. -/
theorem LineView.Right.bare {v : LineView} (h : v.Right) (e : v.record.state.holdsNothing = true) : v.Bare := by
  obtain ⟨h1, h2, h3, h4⟩ := LineState.holdsNothing_iff.1 e
  exact ⟨fun c => h1 (h.waits.1 c), fun c => h2 (h.tapped.1 c), fun c => h3 (h.queued.1 c), fun c => h4 (h.rung.1 c), h.stray⟩

/-- A right line whose record takes right values in the same state. -/
theorem LineView.Right.withRecord {v : LineView} (h : v.Right) {r : LineRecord} (e : r.state = v.record.state)
    (hr : LineRecordRight r) : (v.withRecord r).Right := by
  obtain ⟨waits, tapped, queued, rung, stray, _⟩ := h
  rw [← e] at waits tapped queued rung
  exact ⟨waits, tapped, queued, rung, stray, hr⟩

namespace State

/-- The view of a line. -/
def view (s : State) (l : LineNo) : LineView where
  record := s.line l
  waits := ∃ w ∈ s.tone.queue, w.line = l
  tapped := ∃ k : Fin 12, s.tone.taps[k] = some l
  queued := (s.request l).isSome
  rung := (s.entry l).isSome
  stray := s.entry l = none ∧ s.relay l ≠ .released

@[simp] theorem view_record (s : State) (l : LineNo) : (s.view l).record = s.line l := rfl

theorem bare_iff {s : State} {l : LineNo} : (s.view l).Bare ↔ HoldsNothing s l := by
  constructor
  · rintro ⟨hw, ht, hq, he, hr⟩
    have entry : s.entry l = none := by simpa [view] using he
    exact ⟨entry, by simpa [view] using hq, by simpa [view, entry] using hr, fun k hk => ht ⟨k, hk⟩, fun w hm hl => hw ⟨w, hm, hl⟩⟩
  · rintro ⟨he, hq, hr, ht, hw⟩
    exact ⟨fun ⟨w, hm, hl⟩ => hw w hm hl, fun ⟨k, hk⟩ => ht k hk, by simp [view, hq], by simp [view, he], by simp [view, hr]⟩

/-- The tone wait queue holds no line twice, every line outside `ls` is right, and the lines `ls` hold nothing. -/
structure Loose (s : State) (ls : List LineNo) : Prop where
  nodup : (s.tone.queue.map (·.line)).Nodup
  right : ∀ k, k ∉ ls → (s.view k).Right
  bare : ∀ k, k ∈ ls → (s.view k).Bare

/-- The structure of the part: what `Consistent` asks beside `Settled`. -/
abbrev Agreed (s : State) : Prop := Loose s []

theorem right_iff {s : State} {l : LineNo} :
    (s.view l).Right ↔
      (((∃ w ∈ s.tone.queue, w.line = l) ↔ (s.line l).state = .toneWait)
        ∧ ((∃ k : Fin 12, s.tone.taps[k] = some l) ↔ (s.line l).state = .dialTone))
      ∧ (((s.request l).isSome ↔ (s.line l).state = .ringWait) ∧ ((s.entry l).isSome ↔ (s.line l).state = .ringing)
        ∧ (s.entry l = none → s.relay l = .released))
      ∧ LineRecordRight (s.line l) := by
  constructor
  · rintro ⟨hw, ht, hq, hr, hs, record⟩
    exact ⟨⟨hw, ht⟩, ⟨hq, hr, fun e => by simpa [view, e] using hs⟩, record⟩
  · rintro ⟨⟨hw, ht⟩, ⟨hq, hr, hs⟩, record⟩
    exact ⟨hw, ht, hq, hr, fun h => h.2 (hs h.1), record⟩

theorem consistent_iff {s : State} : Consistent s ↔ Settled s ∧ Agreed s := by
  constructor
  · rintro ⟨settled, ⟨nodup, tone⟩, ring, record⟩
    exact ⟨settled, nodup, fun k _ => right_iff.2 ⟨tone k, ring k, record k⟩, fun k h => by simp at h⟩
  · rintro ⟨settled, nodup, right, _⟩
    have at_ (k : LineNo) := right_iff.1 (right k (by simp))
    exact ⟨settled, ⟨nodup, fun k => (at_ k).1⟩, fun k => (at_ k).2.1, fun k => (at_ k).2.2⟩

theorem Loose.at_ {s : State} (h : Agreed s) (l : LineNo) : (s.view l).Right := h.right l (by simp)

theorem Loose.recordRight {s : State} (h : Agreed s) (l : LineNo) : LineRecordRight (s.line l) := (h.at_ l).record

theorem Loose.toneAgrees {s : State} (h : Agreed s) : ToneAgrees s := ⟨h.nodup, fun l => (right_iff.1 (h.at_ l)).1⟩

/-! ## Parts with the same views -/

/-- Two parts show every line in the same way. -/
structure SameViews (s t : State) : Prop where
  order : t.tone.queue.map (·.line) = s.tone.queue.map (·.line)
  view : ∀ k, t.view k = s.view k

theorem sameViews_of_eq {s t : State} (hl : t.lines = s.lines) (ht : t.tone.queue = s.tone.queue) (hp : t.tone.taps = s.tone.taps)
    (hq : t.alloc.queue = s.alloc.queue) (he : t.entries = s.entries) (hr : t.relays = s.relays) : SameViews s t :=
  ⟨by rw [ht], fun k => by simp only [State.view, line, ht, hp, request, hq, entry, he, relay, hl, hr]⟩

theorem SameViews.loose {s t : State} (e : SameViews s t) {ls : List LineNo} (h : Loose s ls) : Loose t ls :=
  ⟨e.order ▸ h.nodup, fun k hk => e.view k ▸ h.right k hk, fun k hk => e.view k ▸ h.bare k hk⟩

/-- The views read these six fields alone. -/
theorem Loose.of_eq {s t : State} {ls : List LineNo} (h : Loose s ls) (hl : t.lines = s.lines := by rfl)
    (ht : t.tone.queue = s.tone.queue := by rfl) (hp : t.tone.taps = s.tone.taps := by rfl)
    (hq : t.alloc.queue = s.alloc.queue := by rfl) (he : t.entries = s.entries := by rfl)
    (hr : t.relays = s.relays := by rfl) : Loose t ls :=
  (sameViews_of_eq hl ht hp hq he hr).loose h

/-! ## Parts that differ at one line -/

/-- `t` shows every line but `l` as `s` does, and its tone wait queue holds no line twice if that of `s` does not. -/
structure SameBut (l : LineNo) (s t : State) : Prop where
  nodup : (s.tone.queue.map (·.line)).Nodup → (t.tone.queue.map (·.line)).Nodup
  view : ∀ k, k ≠ l → t.view k = s.view k

theorem SameBut.trans {l : LineNo} {s t u : State} (a : SameBut l s t) (b : SameBut l t u) : SameBut l s u :=
  ⟨fun h => b.nodup (a.nodup h), fun k hk => (b.view k hk).trans (a.view k hk)⟩

theorem SameViews.but {s t : State} (e : SameViews s t) (l : LineNo) : SameBut l s t :=
  ⟨fun h => e.order ▸ h, fun k _ => e.view k⟩

/-- A line gives up what it holds. -/
theorem SameBut.opens {l : LineNo} {s t : State} (e : SameBut l s t) {ls : List LineNo} (h : Loose s ls) (b : (t.view l).Bare) :
    Loose t (l :: ls) := by
  refine ⟨e.nodup h.nodup, ?_, ?_⟩
  · intro k hk
    rw [List.mem_cons, not_or] at hk
    rw [e.view k hk.1]
    exact h.right k hk.2
  · intro k hk
    by_cases eq : k = l
    · exact eq ▸ b
    · rw [e.view k eq]
      exact h.bare k ((List.mem_cons.1 hk).resolve_left eq)

/-- A line that held nothing comes to hold what its state calls for. -/
theorem SameBut.closes {l : LineNo} {s t : State} (e : SameBut l s t) {ls : List LineNo} (h : Loose s (l :: ls)) (hl : l ∉ ls)
    (r : (t.view l).Right) : Loose t ls := by
  refine ⟨e.nodup h.nodup, ?_, ?_⟩
  · intro k hk
    by_cases eq : k = l
    · exact eq ▸ r
    · rw [e.view k eq]
      exact h.right k (by simp [eq, hk])
  · intro k hk
    have eq : k ≠ l := fun eq => hl (eq ▸ hk)
    rw [e.view k eq]
    exact h.bare k (List.mem_cons_of_mem _ hk)

/-- A line goes from one right view to another. -/
theorem SameBut.keeps {l : LineNo} {s t : State} (e : SameBut l s t) (h : Agreed s) (r : (t.view l).Right) : Agreed t := by
  refine ⟨e.nodup h.nodup, ?_, fun k hk => by simp at hk⟩
  intro k hk
  by_cases eq : k = l
  · exact eq ▸ r
  · rw [e.view k eq]
    exact h.right k hk

/-! ## The record of a line -/

@[simp] theorem view_setLine_same (s : State) (l : LineNo) (r : LineRecord) :
    (s.setLine l r).view l = (s.view l).withRecord r := by
  simp [view, LineView.withRecord]

@[simp] theorem view_setLine_other (s : State) {l k : LineNo} (r : LineRecord) (h : k ≠ l) :
    (s.setLine l r).view k = s.view k := by
  simp [view, h]

theorem sameBut_setLine (s : State) (l : LineNo) (r : LineRecord) : SameBut l s (s.setLine l r) :=
  ⟨fun h => h, fun _ hk => s.view_setLine_other r hk⟩

/-- The record of an open line may take any value. -/
theorem Loose.setLine_open {s : State} {l : LineNo} {ls : List LineNo} (h : Loose s (l :: ls)) (r : LineRecord) :
    Loose (s.setLine l r) (l :: ls) := by
  refine ⟨h.nodup, ?_, ?_⟩
  · intro k hk
    rw [s.view_setLine_other r (fun e => hk (by simp [e]))]
    exact h.right k hk
  · intro k hk
    by_cases eq : k = l
    · subst eq
      rw [view_setLine_same]
      exact (h.bare k hk).withRecord r
    · rw [s.view_setLine_other r eq]
      exact h.bare k hk

/-- An open line is closed by a right record in a state that holds nothing. -/
theorem Loose.setLine_close {s : State} {l : LineNo} {ls : List LineNo} (h : Loose s (l :: ls)) (hl : l ∉ ls) {r : LineRecord}
    (e : r.state.holdsNothing = true) (hr : LineRecordRight r) : Loose (s.setLine l r) ls := by
  refine (s.sameBut_setLine l r).closes h hl ?_
  rw [view_setLine_same]
  exact ((h.bare l (by simp)).withRecord r).right e hr

/-- A line takes a right record in the state it is in. -/
theorem Loose.setLine {s : State} {l : LineNo} (h : Agreed s) {r : LineRecord} (e : r.state = (s.line l).state)
    (hr : LineRecordRight r) : Agreed (s.setLine l r) := by
  refine (s.sameBut_setLine l r).keeps h ?_
  rw [view_setLine_same]
  exact (h.at_ l).withRecord e hr

/-- A line in a state that holds nothing is open as it stands. -/
theorem Loose.opened {s : State} {l : LineNo} (h : Agreed s) (e : (s.line l).state.holdsNothing = true) : Loose s [l] :=
  (SameViews.but ⟨rfl, fun _ => rfl⟩ l : SameBut l s s).opens h ((h.at_ l).bare e)

end State

end Sys2Proof.Machine
end

section
/-! PROOFS. Which records are right (R1, R4, R5, R6): the record a line has on entering a state, and records that differ in fields
the rules do not speak of. -/

namespace Sys2Proof.Safety

open Sys2Proof.Machine

/-- What an originating line needs of its holder and its offer (R1, 1.2). -/
structure Offered (r : LineRecord) : Prop where
  offer : (r.holder = none ∧ r.offer.open = true) ∨ (r.holder.isSome ∧ r.offer = .claimed)
  mark : r.recallMark = true → r.holder.isSome
  port : r.offeredPort.isSome → r.offer.open = true

namespace LineRecordRight

variable {r q : LineRecord}

theorem holder_none (h : LineRecordRight r) (e : r.state.unheld = true) : r.holder = none := h.1 e

theorem holder_isSome (h : LineRecordRight r) (e : r.state = .ringWait ∨ r.state = .ringing ∨ r.state = .cleared) :
    r.holder.isSome := h.2.1 e

theorem orphan_iff (h : LineRecordRight r) (e : r.state = .held ∨ r.state = .recalling) : r.holder = none ↔ r.orphan = true :=
  h.2.2.1 e

theorem held_of_orphan (h : LineRecordRight r) (e : r.orphan = true) : r.state = .held ∨ r.state = .recalling := h.2.2.2.1 e

theorem originating_of_mark (h : LineRecordRight r) (e : r.recallMark = true) : r.state.originating = true ∧ r.holder.isSome :=
  h.2.2.2.2.2.1 e

theorem originating_of_port (h : LineRecordRight r) (e : r.offeredPort.isSome) :
    r.state.originating = true ∧ r.offer.open = true := h.2.2.2.2.2.2.1 e

theorem feed_eq (h : LineRecordRight r) : r.feed = r.state.feed := h.2.2.2.2.2.2.2.1

theorem timer_runs (h : LineRecordRight r) : ∀ t, r.timer = some t → t.purpose.runsIn r.state = true := h.2.2.2.2.2.2.2.2

theorem offered (h : LineRecordRight r) (e : r.state.originating = true) : Offered r :=
  ⟨h.2.2.2.2.1 e, fun m => (h.originating_of_mark m).2, fun p => (h.originating_of_port p).2⟩

theorem orphan_false (h : LineRecordRight r) (e : r.state ≠ .held ∧ r.state ≠ .recalling) : r.orphan = false := by
  rw [Bool.eq_false_iff]
  exact fun o => (h.held_of_orphan o).elim e.1 e.2

/-- A line with a holder in a call is no orphan, and one without is. -/
theorem call (h : LineRecordRight r) (e : r.holder.isSome) : r.holder = none ↔ r.orphan = true := by
  refine iff_of_false (by simpa using Option.isSome_iff_ne_none.1 e) fun o => ?_
  have := (h.orphan_iff (h.held_of_orphan o)).2 o
  simp [this] at e

/-- The rules speak of eight fields only, and of the timer only that it may run in the state. -/
theorem withTimer (h : LineRecordRight r) (time : ∀ t, q.timer = some t → t.purpose.runsIn q.state = true)
    (state : q.state = r.state := by rfl) (holder : q.holder = r.holder := by rfl) (orphan : q.orphan = r.orphan := by rfl)
    (offer : q.offer = r.offer := by rfl) (port : q.offeredPort = r.offeredPort := by rfl)
    (mark : q.recallMark = r.recallMark := by rfl) (feed : q.feed = r.feed := by rfl) : LineRecordRight q := by
  simp only [LineRecordRight, state, holder, orphan, offer, port, mark, feed] at h time ⊢
  obtain ⟨h1, h2, h3, h4, h5, h6, h7, h8, _⟩ := h
  exact ⟨h1, h2, h3, h4, h5, h6, h7, h8, time⟩

theorem congr (h : LineRecordRight r) (state : q.state = r.state := by rfl) (holder : q.holder = r.holder := by rfl)
    (orphan : q.orphan = r.orphan := by rfl) (offer : q.offer = r.offer := by rfl)
    (port : q.offeredPort = r.offeredPort := by rfl) (mark : q.recallMark = r.recallMark := by rfl)
    (feed : q.feed = r.feed := by rfl) (timer : q.timer = r.timer := by rfl) : LineRecordRight q :=
  h.withTimer (by rw [timer, state]; exact h.timer_runs) state holder orphan offer port mark feed

/-- A right record whose timer is stopped. -/
theorem stopped (h : LineRecordRight r) (timer : q.timer = none) (state : q.state = r.state := by rfl)
    (holder : q.holder = r.holder := by rfl) (orphan : q.orphan = r.orphan := by rfl) (offer : q.offer = r.offer := by rfl)
    (port : q.offeredPort = r.offeredPort := by rfl) (mark : q.recallMark = r.recallMark := by rfl)
    (feed : q.feed = r.feed := by rfl) : LineRecordRight q :=
  h.withTimer (by simp [timer]) state holder orphan offer port mark feed

/-- A right record whose timer starts with a purpose of the state. -/
theorem started (h : LineRecordRight r) {p : TimerPurpose} {d : Ms} (runs : p.runsIn q.state = true)
    (timer : q.timer = some ⟨p, d⟩ := by rfl) (state : q.state = r.state := by rfl)
    (holder : q.holder = r.holder := by rfl) (orphan : q.orphan = r.orphan := by rfl) (offer : q.offer = r.offer := by rfl)
    (port : q.offeredPort = r.offeredPort := by rfl) (mark : q.recallMark = r.recallMark := by rfl)
    (feed : q.feed = r.feed := by rfl) : LineRecordRight q :=
  h.withTimer (by simp [timer, runs]) state holder orphan offer port mark feed

/-- An originating record with right offer, port and mark. -/
theorem reoffered (h : LineRecordRight r) (e : r.state.originating = true) (o : Offered q)
    (state : q.state = r.state := by rfl) (orphan : q.orphan = r.orphan := by rfl) (feed : q.feed = r.feed := by rfl)
    (timer : q.timer = none ∨ q.timer = r.timer) : LineRecordRight q := by
  have orphan_no : q.orphan = false := by
    rw [orphan]
    exact h.orphan_false (by cases c : r.state <;> simp [c, LineState.originating] at e <;> simp)
  have time : ∀ t, q.timer = some t → t.purpose.runsIn q.state = true := by
    rcases timer with none | same
    · simp [none]
    · rw [same, state]
      exact h.timer_runs
  refine ⟨?_, ?_, ?_, by simp [orphan_no], fun _ => o.offer, fun m => ⟨by rw [state, e], o.mark m⟩,
    fun p => ⟨by rw [state, e], o.port p⟩, by rw [feed, state, h.feed_eq], time⟩
  all_goals
    rw [state]
    cases c : r.state <;> simp [c, LineState.originating] at e <;> simp [LineState.unheld]

end LineRecordRight

section Enter

variable (r : LineRecord)

@[simp] theorem enter_state (st : LineState) : (r.enter st).state = st := rfl
@[simp] theorem enter_timer (st : LineState) : (r.enter st).timer = none := rfl
@[simp] theorem enter_feed (st : LineState) : (r.enter st).feed = st.feed := rfl
@[simp] theorem enter_hook (st : LineState) : (r.enter st).hook = r.hook := rfl
@[simp] theorem enter_cls (st : LineState) : (r.enter st).cls = r.cls := rfl

/-- A line that enters IDLE, PARKED or OUT_OF_SERVICE is right whatever it was. -/
theorem right_enter_unheld {st : LineState} (h : st.unheld = true) : LineRecordRight (r.enter st) := by
  cases st <;> simp [LineState.unheld] at h <;>
    simp [LineRecordRight, LineRecord.enter, LineState.unheld, LineState.originating, LineState.feed]

variable {r}

/-- A held line that enters a ringing state or CLEARED. -/
theorem right_enter_kept {st : LineState} (h : st = .ringWait ∨ st = .ringing ∨ st = .cleared) (e : r.holder.isSome) :
    LineRecordRight (r.enter st) := by
  rcases h with rfl | rfl | rfl <;>
    simp [LineRecordRight, LineRecord.enter, LineState.unheld, LineState.originating, LineState.feed, e]

/-- A line that enters a call is an orphan exactly when it has no holder. -/
theorem right_enter_call {st : LineState} (h : st = .held ∨ st = .recalling) (e : r.holder = none ↔ r.orphan = true) :
    LineRecordRight (r.enter st) := by
  rcases h with rfl | rfl <;>
    simp [LineRecordRight, LineRecord.enter, LineState.unheld, LineState.originating, LineState.feed, e]

/-- A line that enters an originating state with its offer. -/
theorem right_enter_originating {st : LineState} (h : st.originating = true) (o : Offered r) : LineRecordRight (r.enter st) := by
  obtain ⟨offer, mark, port⟩ := o
  cases st <;> simp [LineState.originating] at h <;>
    simpa [LineRecordRight, LineRecord.enter, LineState.unheld, LineState.originating, LineState.feed] using ⟨offer, mark, port⟩

end Enter

end Sys2Proof.Safety
end

section
/-! PROOFS. The Tone Pool and the entries of a line keep the structure (R55 to R58, R18, R80, R132): giving up tone opens a line,
asking for a tap and the grants close one, and so do the entries into IDLE, PARKED, CLEARED and OUT_OF_SERVICE. -/

namespace Sys2Proof.Machine

open Sys2Proof.Safety

namespace State

variable {s : State} {l : LineNo} {ls : List LineNo}

/-! ## Updates that no view shows -/

theorem sameViews_report (s : State) (l : LineNo) (b : ReportBody) : SameViews s (s.report l b) := by
  apply sameViews_of_eq <;> simp

theorem sameViews_abandonOffer (s : State) (l : LineNo) (c : AbandonCause) : SameViews s (s.abandonOffer l c) := by
  apply sameViews_of_eq <;> simp

theorem sameViews_sendOriginate (s : State) (l : LineNo) : SameViews s (s.sendOriginate l) := by
  apply sameViews_of_eq <;> simp

theorem sameViews_sendCommand (s : State) (l : LineNo) (c : ScanCommand) : SameViews s (s.sendCommand l c) :=
  sameViews_of_eq rfl rfl rfl rfl rfl rfl

theorem sameViews_callPass (s : State) : SameViews s s.callPass := sameViews_of_eq rfl rfl rfl rfl rfl rfl

theorem sameViews_markTapReturned (s : State) : SameViews s s.markTapReturned := sameViews_of_eq rfl rfl rfl rfl rfl rfl

theorem sameViews_setProgram (s : State) (g : ProgramNo) (e : ProgramEntry) : SameViews s (s.setProgram g e) :=
  sameViews_of_eq rfl rfl rfl rfl rfl rfl

theorem sameViews_modPort (s : State) (p : Port) (f : PortRecord → PortRecord) : SameViews s (s.modPort p f) := by
  cases p <;> exact sameViews_of_eq rfl rfl rfl rfl rfl rfl

theorem Loose.report (h : Loose s ls) (l : LineNo) (b : ReportBody) : Loose (s.report l b) ls := (sameViews_report s l b).loose h

theorem Loose.abandonOffer (h : Loose s ls) (l : LineNo) (c : AbandonCause) : Loose (s.abandonOffer l c) ls :=
  (sameViews_abandonOffer s l c).loose h

theorem Loose.sendOriginate (h : Loose s ls) (l : LineNo) : Loose (s.sendOriginate l) ls := (sameViews_sendOriginate s l).loose h

theorem Loose.sendCommand (h : Loose s ls) (l : LineNo) (c : ScanCommand) : Loose (s.sendCommand l c) ls :=
  (sameViews_sendCommand s l c).loose h

/-! ## Entries into states that hold nothing -/

theorem Loose.enter_close (h : Loose s (l :: ls)) (hl : l ∉ ls) {st : LineState} (e : st.holdsNothing = true)
    (r : LineRecordRight ((s.line l).enter st)) : Loose (s.enter l st) ls :=
  h.setLine_close hl e r

theorem Loose.enterIdle (h : Loose s (l :: ls)) (hl : l ∉ ls) : Loose (s.enterIdle l) ls :=
  h.enter_close hl rfl (right_enter_unheld _ rfl)

theorem Loose.enterParked (h : Loose s (l :: ls)) (hl : l ∉ ls) (why : ParkReason) : Loose (s.enterParked l why) ls := by
  rw [enterParked_eq]
  refine h.setLine_close hl rfl ((right_enter_unheld (s.line l) (st := .parked) rfl).withTimer ?_)
  dsimp only
  split <;> simp [TimerPurpose.runsIn, LineRecord.enter]

theorem Loose.enterOutOfService (h : Loose s (l :: ls)) (hl : l ∉ ls) (why : OosReason) : Loose (s.enterOutOfService l why) ls :=
  h.setLine_close hl rfl (right_enter_unheld (s.line l) (st := .outOfService) rfl).congr

theorem Loose.enterCleared (h : Loose s (l :: ls)) (hl : l ∉ ls) (e : (s.line l).holder.isSome) : Loose (s.enterCleared l) ls := by
  rw [enterCleared_eq]
  exact h.setLine_close hl rfl ((right_enter_kept (st := .cleared) (by simp) e).started (p := .releaseWait) rfl)

theorem Loose.toReturnState (h : Loose s (l :: ls)) (hl : l ∉ ls) (e : (s.line l).holder.isSome) : Loose (s.toReturnState l) ls := by
  unfold State.toReturnState
  split
  · exact h.enterCleared hl e
  · exact h.enterIdle hl

/-! ## Giving up tone (R57) -/

/-- A change of the pool shows at the lines whose place in the queue or whose tap it changes. -/
theorem sameBut_setTone {t : TonePool} (nodup : (s.tone.queue.map (·.line)).Nodup → (t.queue.map (·.line)).Nodup)
    (waits : ∀ k, k ≠ l → ((∃ w ∈ t.queue, w.line = k) ↔ ∃ w ∈ s.tone.queue, w.line = k))
    (taps : ∀ k, k ≠ l → ((∃ j : Fin 12, t.taps[j] = some k) ↔ ∃ j : Fin 12, s.tone.taps[j] = some k)) :
    SameBut l s (s.setTone t) := by
  refine ⟨nodup, fun k hk => ?_⟩
  simp only [view, setTone_tone, waits k hk, taps k hk]
  rfl

theorem sameBut_giveUpTone (s : State) (l : LineNo) : SameBut l s (s.giveUpTone l) := by
  unfold State.giveUpTone
  split
  · suffices freed : SameBut l s (s.setTone (s.tone.freeTapsOf l)) from freed.trans ((sameViews_markTapReturned _).but l)
    refine sameBut_setTone (fun h => h) (fun _ _ => Iff.rfl) fun k hk => exists_congr fun j => ?_
    simp only [TonePool.freeTapsOf, Fin.getElem_fin, Vector.getElem_ofFn]
    split
    · rename_i e
      have e : s.tone.taps[j.val] = some l := by simpa using e
      simp [e, Ne.symm hk]
    · rfl
  · refine sameBut_setTone (List.filter_sublist.map _).nodup (fun k hk => ?_) fun _ _ => Iff.rfl
    simp only [TonePool.withdraw, List.mem_filter]
    constructor
    · rintro ⟨w, ⟨hw, _⟩, e⟩
      exact ⟨w, hw, e⟩
    · rintro ⟨w, hw, e⟩
      exact ⟨w, ⟨hw, by simp [e, hk]⟩, e⟩
  · exact SameViews.but ⟨rfl, fun _ => rfl⟩ l

/-- A line that has no ring holds nothing after it gives up tone. -/
theorem Loose.giveUpTone (h : Agreed s) (e : (s.line l).state ≠ .ringWait ∧ (s.line l).state ≠ .ringing) :
    Loose (s.giveUpTone l) [l] := by
  refine (sameBut_giveUpTone s l).opens h ?_
  obtain ⟨taps, waits, _⟩ := giveUpTone_clears s l h.toneAgrees
  have view_l := h.at_ l
  have frame := giveUpTone_frame s l
  have ring : ((s.giveUpTone l).view l).queued = (s.view l).queued ∧ ((s.giveUpTone l).view l).rung = (s.view l).rung
      ∧ ((s.giveUpTone l).view l).stray = (s.view l).stray := by
    rw [frame]
    exact ⟨rfl, rfl, rfl⟩
  refine ⟨fun ⟨w, hw, at_l⟩ => waits w hw at_l, fun ⟨k, hk⟩ => taps k hk, ?_, ?_, ?_⟩
  · rw [ring.1]
    exact fun c => e.1 (view_l.queued.1 c)
  · rw [ring.2.1]
    exact fun c => e.2 (view_l.rung.1 c)
  · rw [ring.2.2]
    exact view_l.stray

/-! ## Asking for a tap (R56) -/

theorem sameBut_assignTap {k : Fin 12} (free : s.tone.taps[k] = none) (l : LineNo) : SameBut l s (s.assignTap k l) := by
  refine sameBut_setTone (fun h => h) (fun _ _ => Iff.rfl) fun j hj => exists_congr fun i => ?_
  have free : s.tone.taps[k.val] = none := free
  by_cases e : i = k
  · subst e
    simp [free, Ne.symm hj]
  · simp [Fin.val_ne_of_ne (Ne.symm e)]

theorem tapped_assignTap (s : State) (k : Fin 12) (l : LineNo) : ∃ i : Fin 12, (s.assignTap k l).tone.taps[i] = some l :=
  ⟨k, by simp [State.assignTap]⟩

/-- The pool with a waiter at the tail of its queue. -/
theorem sameBut_joinQueue (s : State) (w : ToneWaiter) (h : ∀ x ∈ s.tone.queue, x.line ≠ w.line) :
    SameBut w.line s (s.setTone { s.tone with queue := s.tone.queue ++ [w] }) := by
  refine sameBut_setTone (fun nodup => ?_) (fun k hk => ?_) fun _ _ => Iff.rfl
  · simp only [List.map_append, List.map_cons, List.map_nil]
    refine List.nodup_append.2 ⟨nodup, by simp, ?_⟩
    simpa using h
  · simp [or_and_right, exists_or, Ne.symm hk]

end State

/-- A line that held nothing and has a tap is right in DIAL_TONE. -/
theorem LineView.Bare.right_dialTone {v u : LineView} (b : v.Bare) (e : u.record.state = .dialTone) (h : LineRecordRight u.record)
    (tapped : u.tapped) (waits : u.waits = v.waits := by rfl) (queued : u.queued = v.queued := by rfl)
    (rung : u.rung = v.rung := by rfl) (stray : u.stray = v.stray := by rfl) : u.Right :=
  ⟨iff_of_false (waits ▸ b.waits) (by simp [e]), iff_of_true tapped e, iff_of_false (queued ▸ b.queued) (by simp [e]),
    iff_of_false (rung ▸ b.rung) (by simp [e]), stray ▸ b.stray, h⟩

/-- A line that held nothing and has joined the queue is right in TONE_WAIT. -/
theorem LineView.Bare.right_toneWait {v u : LineView} (b : v.Bare) (e : u.record.state = .toneWait) (h : LineRecordRight u.record)
    (waits : u.waits) (tapped : u.tapped = v.tapped := by rfl) (queued : u.queued = v.queued := by rfl)
    (rung : u.rung = v.rung := by rfl) (stray : u.stray = v.stray := by rfl) : u.Right :=
  ⟨iff_of_true waits e, iff_of_false (tapped ▸ b.tapped) (by simp [e]), iff_of_false (queued ▸ b.queued) (by simp [e]),
    iff_of_false (rung ▸ b.rung) (by simp [e]), stray ▸ b.stray, h⟩

namespace State

variable {s : State} {l : LineNo} {ls : List LineNo}

theorem Loose.joinToneQueue (h : Loose s [l]) (o : Offered (s.line l)) : Agreed (s.joinToneQueue l) := by
  have b : (s.view l).Bare := h.bare l (by simp)
  unfold State.joinToneQueue
  dsimp only
  generalize hw : (⟨l, s.now + 1000 * s.tone.delayThreshold⟩ : ToneWaiter) = w
  have line : w.line = l := by rw [← hw]
  subst line
  have free : ∀ x ∈ s.tone.queue, x.line ≠ w.line := fun x hx e => b.waits ⟨x, hx, e⟩
  refine ((sameBut_joinQueue s w free).trans (sameBut_setLine _ _ _)).closes h (by simp) ?_
  rw [view_setLine_same]
  exact b.right_toneWait rfl (right_enter_originating (st := .toneWait) rfl o).congr ⟨w, by simp, rfl⟩

/-- A line that holds nothing and has its offer asks for a tap (R56). -/
theorem Loose.askTone (h : Loose s [l]) (o : Offered (s.line l)) : Agreed (s.askTone l) := by
  have b : (s.view l).Bare := h.bare l (by simp)
  unfold State.askTone
  split
  · rename_i k hk
    split
    · refine ((sameBut_assignTap (freeTap_free hk) l).trans (sameBut_setLine _ _ _)).closes h (by simp) ?_
      rw [view_setLine_same]
      exact b.right_dialTone rfl (right_enter_originating (st := .dialTone) rfl o) (tapped_assignTap s k l)
    · exact h.joinToneQueue o
  · exact h.joinToneQueue o

/-- A line that has asked for a tap is in DIAL_TONE or in TONE_WAIT. -/
theorem askTone_state (s : State) (l : LineNo) :
    ((s.askTone l).line l).state = .dialTone ∨ ((s.askTone l).line l).state = .toneWait := by
  unfold State.askTone
  split
  · split
    · exact .inl (by simp [enter_eq])
    · exact .inr (by simp [State.joinToneQueue])
  · exact .inr (by simp [State.joinToneQueue])

/-! ## Grants (R56, R57, R58) -/

theorem Loose.grantHead (h : Agreed s) : Agreed s.grantHead := by
  unfold State.grantHead
  split
  · rename_i w rest k hq hk
    have waits : (s.line w.line).state = .toneWait := (h.at_ w.line).waits.1 ⟨w, by simp [hq], rfl⟩
    have nodup := h.nodup
    rw [hq, List.map_cons, List.nodup_cons] at nodup
    obtain ⟨fresh, nodup⟩ := nodup
    have fresh : ∀ x ∈ rest, x.line ≠ w.line := fun x hx e => fresh (List.mem_map.2 ⟨x, hx, e⟩)
    have others (j : LineNo) (hj : j ≠ w.line) : (∃ x ∈ rest, x.line = j) ↔ ∃ x ∈ s.tone.queue, x.line = j := by
      simp [hq, Ne.symm hj]
    have shorter : SameBut w.line s (s.setTone { s.tone with queue := rest }) :=
      sameBut_setTone (fun _ => nodup) others fun _ _ => Iff.rfl
    have gone : ((s.setTone { s.tone with queue := rest }).view w.line).Bare := by
      obtain ⟨_, tapped, queued, rung, stray, _⟩ := h.at_ w.line
      refine ⟨fun ⟨x, hx, e⟩ => fresh x hx e, fun c => ?_, fun c => ?_, fun c => ?_, stray⟩
      · simpa [waits] using tapped.1 c
      · simpa [waits] using queued.1 c
      · simpa [waits] using rung.1 c
    have right := h.recordRight w.line
    have free : (s.setTone { s.tone with queue := rest }).tone.taps[k] = none := freeTap_free hk
    refine (shorter.trans ((sameBut_assignTap free w.line).trans (sameBut_setLine _ _ _))).keeps h ?_
    refine Eq.mpr (congrArg LineView.Right (view_setLine_same _ _ _)) ?_
    refine gone.right_dialTone rfl ((right_enter_originating (st := .dialTone) rfl (right.offered ?_)).withTimer ?_)
      (tapped_assignTap _ k w.line)
    · exact congrArg LineState.originating waits
    · intro t ht
      have runs : t.purpose.runsIn (s.line w.line).state = true := right.timer_runs t ht
      rw [waits] at runs
      change t.purpose.runsIn .dialTone = true
      cases e : t.purpose <;> simp [e, TimerPurpose.runsIn] at runs ⊢
  · exact h

theorem Loose.grantLoop (n : Nat) (h : Agreed s) : Agreed (grantLoop n s) := by
  induction n generalizing s with
  | zero => exact h
  | succ n ih =>
    unfold State.grantLoop
    split
    · exact ih h.grantHead
    · exact h

theorem Loose.grantAll (h : Agreed s) : Agreed s.grantAll := h.grantLoop _

theorem Loose.settleTone (h : Agreed s) : Agreed s.settleTone := by
  unfold State.settleTone
  split
  · exact h.grantAll.of_eq
  · exact h

theorem Loose.setTapLimit (h : Agreed s) (n : Nat) : Agreed (s.setTapLimit n) := by
  have limit : Agreed (s.setTone { s.tone with currentLimit := n }) := h.of_eq
  unfold State.setTapLimit
  dsimp only
  split
  · exact limit.grantAll
  · exact limit

end State

end Sys2Proof.Machine
end

section
/-! PROOFS. Originations, offers and parking keep the structure (R50 to R52, R18, R83, R157). -/

namespace Sys2Proof.Machine.State

open Sys2Proof.Safety

variable {s : State} {l : LineNo}

/-- An originating line has no ring. -/
theorem not_ring_of_originating {st : LineState} (h : st.originating = true) : st ≠ .ringWait ∧ st ≠ .ringing := by
  cases st <;> simp [LineState.originating] at h ⊢

theorem stage_open {st : OfferStage} (h : st = .home ∨ st = .alternate) : st.open = true := by
  rcases h with rfl | rfl <;> rfl

/-- A new offer goes to the home port or to the alternate. -/
theorem offerPort_open {st : OfferStage} {p : Port} (h : s.offerPort l = some (st, p)) : st.open = true := by
  unfold offerPort at h
  dsimp only at h
  split at h
  · simp only [Option.some.injEq, Prod.mk.injEq] at h
    exact stage_open (.inl h.1.symm)
  · split at h
    · split at h
      · simp only [Option.some.injEq, Prod.mk.injEq] at h
        exact stage_open (.inr h.1.symm)
      · simp at h
    · simp at h

/-- A line that is offered and not claimed has no holder (1.2). -/
theorem Loose.holder_of_open (h : Agreed s) (e : (s.line l).state.originating = true) (o : (s.line l).offer.open = true) :
    (s.line l).holder = none := by
  rcases ((h.recordRight l).offered e).offer with ⟨none, _⟩ | ⟨_, claimed⟩
  · exact none
  · simp [claimed, OfferStage.open] at o

/-- An unheld originating line is offered to a port. -/
theorem Loose.offerTo (h : Agreed s) (e : (s.line l).state.originating = true) (none : (s.line l).holder = none)
    {st : OfferStage} (o : st.open = true) (p : Port) : Agreed (s.offerTo l st p) := by
  have right := h.recordRight l
  have mark : (s.line l).recallMark = false := by
    rw [Bool.eq_false_iff]
    intro m
    simpa [none] using (right.originating_of_mark m).2
  have offered : Offered { s.line l with offer := st, offeredPort := some p, offerDeadline := some (s.now + (s.lineClass l).claimWindow) } :=
    ⟨.inl ⟨none, o⟩, fun m => by simp [mark] at m, fun _ => o⟩
  exact h.setLine rfl (right.reoffered e offered rfl rfl rfl (.inr rfl))

/-- A line that has no ring parks from origination (R52). -/
theorem Loose.parkFromOrigination (h : Agreed s) (e : (s.line l).state.originating = true) (why : ParkReason) (c : AbandonCause) :
    Agreed (s.parkFromOrigination l why c) :=
  (((h.giveUpTone (not_ring_of_originating e)).abandonOffer l c).report l (.lineParked why)).enterParked (by simp) why

/-- A line that holds nothing originates (R50). -/
theorem Loose.originate (h : Loose s [l]) : Agreed (s.originate l) := by
  unfold State.originate
  split
  · exact Loose.report (h.enterParked (by simp) .noController) l _
  · rename_i st p hp
    have o := offerPort_open hp
    dsimp only
    generalize hq : s.modLine l _ = q
    have hold : Loose q [l] := hq ▸ h.setLine_open _
    have record : (q.line l).holder = none ∧ (q.line l).recallMark = false := by simp [← hq]
    have offered : Offered ((q.offerTo l st p).line l) := by
      simp only [State.offerTo, line_modLine_same]
      exact ⟨.inl ⟨record.1, o⟩, by simp [record.2], fun _ => o⟩
    have asked : Agreed ((q.offerTo l st p).askTone l) := Loose.askTone (hold.setLine_open _) offered
    refine Loose.sendOriginate ?_ l
    rw [startTimer_eq]
    refine asked.setLine rfl ((asked.recordRight l).started (p := .firstDigit) ?_)
    rcases askTone_state (q.offerTo l st p) l with e | e <;> simp [e, TimerPurpose.runsIn]

/-- A CLEARED line is released (R83). -/
theorem Loose.releaseCleared (h : Agreed s) (e : (s.line l).state = .cleared) : Agreed (s.releaseCleared l) := by
  have opened : Loose s [l] := h.opened (by rw [e]; rfl)
  unfold State.releaseCleared
  dsimp only
  split
  · exact Loose.originate (opened.setLine_open _)
  · exact Loose.enterIdle (opened.setLine_open _) (by simp)

theorem Loose.unparkToIdle (h : Loose s [l]) : Agreed (s.unparkToIdle l) := Loose.report (h.enterIdle (by simp)) l _

/-- An open offer advances (R51). -/
theorem Loose.advanceOffer (h : Agreed s) (e : (s.line l).state.originating = true) (o : (s.line l).offer.open = true) :
    Agreed (s.advanceOffer l) := by
  unfold State.advanceOffer
  dsimp only
  split
  · exact (h.offerTo e (h.holder_of_open e o) rfl _).sendOriginate l
  · exact h.parkFromOrigination e _ _

end Sys2Proof.Machine.State
end

section
/-! PROOFS. The Ring Allocator and the ring table keep the structure (R106 to R117, R131): the removal of an entry and the deletion
of a request open a line, a placement, a place in the queue and a return state close one. -/

namespace Sys2Proof.Machine.State

open Sys2Proof.Safety

variable {s : State} {l : LineNo} {ls : List LineNo}

/-! ## Updates that no view shows -/

theorem sameViews_setSupply (s : State) (u : Supply) (r : SupplyRecord) : SameViews s (s.setSupply u r) := by
  cases u <;> exact sameViews_of_eq rfl rfl rfl rfl rfl rfl

theorem sameViews_releaseTurn (s : State) (l : LineNo) (u : Supply) : SameViews s (s.releaseTurn l u) := by
  unfold State.releaseTurn
  split
  · cases u <;> exact sameViews_of_eq rfl rfl rfl rfl rfl rfl
  · exact ⟨rfl, fun _ => rfl⟩

theorem SameViews.trans {t u : State} (a : SameViews s t) (b : SameViews t u) : SameViews s u :=
  ⟨b.order.trans a.order, fun k => (b.view k).trans (a.view k)⟩

theorem sameViews_takeTurns (s : State) (w : WaitingRequest) : SameViews s (s.takeTurns w) := by
  unfold State.takeTurns
  generalize s.partySupplies w.line w.party = us
  induction us generalizing s with
  | nil => exact ⟨rfl, fun _ => rfl⟩
  | cons u us ih =>
    refine SameViews.trans ?_ (ih _)
    dsimp only
    split
    · exact sameViews_setSupply s u _
    · exact ⟨rfl, fun _ => rfl⟩

/-! ## One line's entry, relay and request -/

theorem sameBut_setEntry (s : State) (l : LineNo) (e : Option RingEntry) : SameBut l s (s.setEntry l e) :=
  ⟨fun h => h, fun k hk => by simp only [view, entry_setEntry_other s l k e hk]; rfl⟩

theorem sameBut_setRelay (s : State) (l : LineNo) (r : Relay) : SameBut l s (s.setRelay l r) :=
  ⟨fun h => h, fun k hk => by simp only [view, relay_setRelay_other s l k r hk]; rfl⟩

/-- A change of the ring wait queue shows at the lines whose request comes or goes. -/
theorem sameBut_setWaiting {q : List WaitingRequest}
    (h : ∀ k, k ≠ l → (q.find? (·.line == k)).isSome = (s.request k).isSome) : SameBut l s (s.setWaiting q) := by
  refine ⟨fun nodup => nodup, fun k hk => ?_⟩
  have same : ((s.setWaiting q).request k).isSome = (s.request k).isSome := h k hk
  simp only [view, same]
  rfl

theorem find_filter_other {q : List WaitingRequest} {k : LineNo} (h : k ≠ l) :
    (q.filter (·.line != l)).find? (·.line == k) = q.find? (·.line == k) := by
  rw [List.find?_filter]
  congr 1
  funext w
  by_cases e : w.line = k <;> simp [e, h]

theorem find_filter_same (q : List WaitingRequest) (l : LineNo) : (q.filter (·.line != l)).find? (·.line == l) = none := by
  simp [List.find?_eq_none]

theorem unqueue_eq (s : State) (l : LineNo) :
    s.unqueue l = ((s.setWaiting (s.alloc.queue.filter (·.line != l))).releaseTurn l .one).releaseTurn l .two := rfl

theorem releaseTurn_frame (s : State) (l : LineNo) (u : Supply) :
    s.releaseTurn l u
      = { s with alloc := { (s.releaseTurn l u).alloc with queue := s.alloc.queue }, passDue := (s.releaseTurn l u).passDue } := by
  unfold State.releaseTurn
  split
  · cases u <;> rfl
  · rfl

theorem unqueue_frame (s : State) (l : LineNo) :
    s.unqueue l
      = { s with alloc := { (s.unqueue l).alloc with queue := s.alloc.queue.filter (·.line != l) },
                 passDue := (s.unqueue l).passDue } := by
  rw [unqueue_eq, releaseTurn_frame, releaseTurn_frame]
  rfl

theorem request_unqueue_same (s : State) (l : LineNo) : (s.unqueue l).request l = none := by
  rw [unqueue_frame]
  exact find_filter_same _ _

theorem request_unqueue_other (s : State) {l k : LineNo} (h : k ≠ l) : (s.unqueue l).request k = s.request k := by
  rw [unqueue_frame]
  exact find_filter_other h

theorem sameBut_unqueue (s : State) (l : LineNo) : SameBut l s (s.unqueue l) := by
  rw [unqueue_eq]
  refine (sameBut_setWaiting fun k hk => ?_).trans (((sameViews_releaseTurn _ l .one).trans (sameViews_releaseTurn _ l .two)).but l)
  rw [find_filter_other hk]
  rfl

theorem sameBut_deleteRequest (s : State) (w : WaitingRequest) : SameBut w.line s (s.deleteRequest w) :=
  (sameBut_unqueue s w.line).trans ((sameViews_setProgram _ _ _).but _)

/-- A request joins the queue at its place, and every other line has the request it had. -/
theorem find_insertRequest_other {w : WaitingRequest} {k : LineNo} (h : k ≠ w.line) (q : List WaitingRequest) :
    (insertRequest w q).find? (·.line == k) = q.find? (·.line == k) := by
  induction q with
  | nil => simp [insertRequest, Ne.symm h]
  | cons x q ih =>
    unfold insertRequest
    split
    · simp [List.find?_cons, Ne.symm h]
    · simp [List.find?_cons, ih]

theorem mem_insertRequest (w : WaitingRequest) (q : List WaitingRequest) : w ∈ insertRequest w q := by
  induction q with
  | nil => simp [insertRequest]
  | cons x q ih =>
    unfold insertRequest
    split <;> simp [ih]

theorem request_enqueue_same (s : State) (w : WaitingRequest) : ((s.enqueue w).request w.line).isSome := by
  rw [request, List.find?_isSome]
  exact ⟨_, mem_insertRequest _ _, by simp⟩

theorem sameBut_enqueue (s : State) (w : WaitingRequest) : SameBut w.line s (s.enqueue w) := by
  refine (sameBut_setWaiting fun k hk => ?_).trans ((sameViews_callPass _).but _)
  rw [find_insertRequest_other (by exact hk)]
  rfl

/-! ## The ending of a ring (R113, R131) -/

theorem removeEntry_of_entry {e : RingEntry} (h : s.entry l = some e) :
    ∃ u r, s.removeEntry l = ((((s.setRelay l .released).indicate l .ringEnd).setSupply u r).setEntry l none).callPass :=
  ⟨_, _, by simp only [removeEntry, h]; rfl⟩

theorem removeEntry_of_none (h : s.entry l = none) : s.removeEntry l = s := by simp only [removeEntry, h]

theorem sameViews_indicate (s : State) (l : LineNo) (i : RingIndication) : SameViews s (s.indicate l i) :=
  sameViews_of_eq rfl rfl rfl rfl rfl rfl

theorem sameBut_removeEntry (s : State) (l : LineNo) : SameBut l s (s.removeEntry l) := by
  cases h : s.entry l with
  | none =>
    rw [removeEntry_of_none h]
    exact ⟨fun nodup => nodup, fun _ _ => rfl⟩
  | some e =>
    obtain ⟨u, r, eq⟩ := removeEntry_of_entry h
    rw [eq]
    exact (sameBut_setRelay _ _ _).trans (((sameViews_indicate _ _ _).but l).trans
      (((sameViews_setSupply _ _ _).but l).trans ((sameBut_setEntry _ _ _).trans ((sameViews_callPass _).but l))))

theorem entry_removeEntry_same (s : State) (l : LineNo) : (s.removeEntry l).entry l = none := by
  cases h : s.entry l with
  | none => simp [removeEntry, h]
  | some e => simp [removeEntry, h]

/-- A line whose entry is removed has its relay RELEASED (R131), as has a line without one (R123). -/
theorem relay_removeEntry_same (s : State) (h : s.entry l = none → s.relay l = .released) : (s.removeEntry l).relay l = .released := by
  cases e : s.entry l with
  | none => simpa [removeEntry, e] using h e
  | some e => simp [removeEntry, e, indicate_eq]

theorem removeEntry_frame (s : State) (l : LineNo) :
    s.removeEntry l
      = { s with relays := (s.removeEntry l).relays, indications := (s.removeEntry l).indications,
                 alloc := { (s.removeEntry l).alloc with queue := s.alloc.queue }, entries := (s.removeEntry l).entries,
                 passDue := (s.removeEntry l).passDue } := by
  cases h : s.entry l with
  | none => rw [removeEntry_of_none h]
  | some e =>
    obtain ⟨u, r, eq⟩ := removeEntry_of_entry h
    rw [eq]
    cases u <;> rfl

/-- The view of a line in RINGING, or of one between two rings, after its entry is removed. -/
theorem bare_removeEntry (waits : ¬(s.view l).waits) (tapped : ¬(s.view l).tapped) (queued : ¬(s.view l).queued)
    (stray : ¬(s.view l).stray) : ((s.removeEntry l).view l).Bare := by
  have relay : (s.removeEntry l).relay l = .released := by
    refine relay_removeEntry_same s fun e => ?_
    simpa [view, e] using stray
  have frame := removeEntry_frame s l
  refine ⟨?_, ?_, ?_, ?_, ?_⟩
  · rw [frame]
    exact waits
  · rw [frame]
    exact tapped
  · rw [frame]
    exact queued
  · simp [view, entry_removeEntry_same]
  · simp [view, relay]

theorem Loose.removeEntry (h : Loose s ls) (hl : l ∉ ls) (e : (s.line l).state = .ringing) : Loose (s.removeEntry l) (l :: ls) := by
  have right := h.right l hl
  refine (sameBut_removeEntry s l).opens h (bare_removeEntry ?_ ?_ ?_ right.stray)
  · simp [right.waits, e]
  · simp [right.tapped, e]
  · simp [right.queued, e]

theorem Loose.endEntry (h : Loose s ls) (hl : l ∉ ls) (e : (s.line l).state = .ringing) (n : RingEntry) :
    Loose (s.endEntry l n) (l :: ls) :=
  (sameViews_setProgram _ _ _).loose (h.removeEntry hl e)

theorem Loose.unqueue (h : Loose s ls) (hl : l ∉ ls) (e : (s.line l).state = .ringWait) : Loose (s.unqueue l) (l :: ls) := by
  have right := h.right l hl
  have frame := unqueue_frame s l
  refine (sameBut_unqueue s l).opens h ⟨?_, ?_, ?_, ?_, ?_⟩
  · rw [frame]
    change ¬(s.view l).waits
    simp [right.waits, e]
  · rw [frame]
    change ¬(s.view l).tapped
    simp [right.tapped, e]
  · simp [view, request_unqueue_same]
  · rw [frame]
    change ¬(s.view l).rung
    simp [right.rung, e]
  · rw [frame]
    exact right.stray

theorem Loose.deleteRequest (h : Loose s ls) {w : WaitingRequest} (hl : w.line ∉ ls) (e : (s.line w.line).state = .ringWait) :
    Loose (s.deleteRequest w) (w.line :: ls) :=
  (sameViews_setProgram _ _ _).loose (h.unqueue hl e)

/-- A line outside the tone states holds nothing after its ring is ended. -/
theorem Loose.endRing (h : Loose s ls) (hl : l ∉ ls) (e : (s.line l).state ≠ .toneWait ∧ (s.line l).state ≠ .dialTone) :
    Loose (s.endRing l) (l :: ls) := by
  have right := h.right l hl
  unfold State.endRing
  split
  · rename_i n hn
    exact h.endEntry hl (right.rung.1 (by simp [view, hn])) n
  · rename_i none
    split
    · rename_i w hw
      have line := request_line hw
      subst line
      exact h.deleteRequest hl (right.queued.1 (by simp [view, hw]))
    · rename_i idle
      refine SameBut.opens (SameViews.but ⟨rfl, fun _ => rfl⟩ l) h ⟨?_, ?_, ?_, ?_, right.stray⟩
      · exact fun c => e.1 (right.waits.1 c)
      · exact fun c => e.2 (right.tapped.1 c)
      · simp [view, idle]
      · simp [view, none]

/-- A line with no ring has none to end. -/
theorem endRing_of_ringOf_none (h : s.ringOf l = none) : s.endRing l = s := by
  unfold State.ringOf at h
  unfold State.endRing
  split at h <;> simp_all

theorem Loose.stopRing (h : Loose s ls) (hl : l ∉ ls) (e : (s.line l).state ≠ .toneWait ∧ (s.line l).state ≠ .dialTone)
    (c : StopCause) : Loose (s.stopRing l c) (l :: ls) := by
  unfold State.stopRing
  split
  · exact Loose.endRing (h.report l _) hl (by simpa using e)
  · rename_i none
    have ended := h.endRing hl e
    rwa [endRing_of_ringOf_none none] at ended

theorem Loose.failRing (h : Loose s ls) (hl : l ∉ ls) (e : (s.line l).state ≠ .toneWait ∧ (s.line l).state ≠ .dialTone)
    (c : RingFailure) : Loose (s.failRing l c) (l :: ls) := by
  unfold State.failRing
  split
  · exact Loose.endRing (h.report l _) hl (by simpa using e)
  · rename_i none
    have ended := h.endRing hl e
    rwa [endRing_of_ringOf_none none] at ended

/-! ## What the ending of a ring leaves of the line records -/

@[simp] theorem unqueue_lines (s : State) (l : LineNo) : (s.unqueue l).lines = s.lines := by rw [unqueue_frame]

@[simp] theorem removeEntry_lines (s : State) (l : LineNo) : (s.removeEntry l).lines = s.lines := by rw [removeEntry_frame]

@[simp] theorem dropUse_lines (s : State) (g : ProgramNo) : (s.dropUse g).lines = s.lines := rfl

@[simp] theorem deleteRequest_lines (s : State) (w : WaitingRequest) : (s.deleteRequest w).lines = s.lines := by
  simp [State.deleteRequest]

@[simp] theorem endEntry_lines (s : State) (l : LineNo) (e : RingEntry) : (s.endEntry l e).lines = s.lines := by
  simp [State.endEntry]

@[simp] theorem endRing_lines (s : State) (l : LineNo) : (s.endRing l).lines = s.lines := by
  unfold State.endRing
  split
  · simp
  · split <;> simp

@[simp] theorem stopRing_lines (s : State) (l : LineNo) (c : StopCause) : (s.stopRing l c).lines = s.lines := by
  unfold State.stopRing
  split <;> simp

@[simp] theorem failRing_lines (s : State) (l : LineNo) (c : RingFailure) : (s.failRing l c).lines = s.lines := by
  unfold State.failRing
  split <;> simp

theorem line_of_lines {s t : State} (h : t.lines = s.lines) (k : LineNo) : t.line k = s.line k := by simp [line, h]

/-! ## Placing and waiting (R106 to R112) -/

/-- A line that held nothing of tone and has an entry and no request is right in RINGING. -/
theorem right_ringing {t : State} {k : LineNo} (waits : ¬(t.view k).waits) (tapped : ¬(t.view k).tapped) (queued : t.request k = none)
    (rung : (t.entry k).isSome) (e : (t.line k).state = .ringing) (r : LineRecordRight (t.line k)) : (t.view k).Right := by
  refine ⟨iff_of_false waits (by simp [e]), iff_of_false tapped (by simp [e]), iff_of_false (by simp [view, queued]) (by simp [e]),
    iff_of_true rung e, ?_, r⟩
  rintro ⟨none, _⟩
  simp [none] at rung

/-- A placement raises a load map, and then the line has an entry, no request and the state RINGING. -/
theorem place_eq (s : State) (w : WaitingRequest) (u : Supply) (o : Nat) :
    ∃ (a : Allocator) (e : RingEntry), a.queue = s.alloc.queue
      ∧ s.place w u o = ((({ s with alloc := a } : State).setEntry w.line (some e)).unqueue w.line).enter w.line .ringing := by
  have raised (r : SupplyRecord) : ∃ a : Allocator, a.queue = s.alloc.queue ∧ s.setSupply u r = { s with alloc := a } := by
    refine ⟨(s.setSupply u r).alloc, ?_, ?_⟩ <;> cases u <;> rfl
  unfold State.place
  dsimp only
  generalize hr : ({ (s.supply u).raise _ _ _ with pointer := _ } : SupplyRecord) = r
  obtain ⟨a, queue, eq⟩ := raised r
  rw [eq]
  exact ⟨{ a with lastStamp := s.alloc.lastStamp + 1 }, _, queue, rfl⟩

theorem sameBut_place (s : State) (w : WaitingRequest) (u : Supply) (o : Nat) : SameBut w.line s (s.place w u o) := by
  obtain ⟨a, e, queue, eq⟩ := place_eq s w u o
  have views : SameViews s { s with alloc := a } := sameViews_of_eq rfl rfl rfl queue rfl rfl
  rw [eq]
  exact (views.but _).trans ((sameBut_setEntry _ _ _).trans ((sameBut_unqueue _ _).trans (sameBut_setLine _ _ _)))

/-- A line that holds no tone and has a holder is right once it is placed. -/
theorem right_place {w : WaitingRequest} (u : Supply) (o : Nat) (waits : ¬(s.view w.line).waits) (tapped : ¬(s.view w.line).tapped)
    (held : (s.line w.line).holder.isSome) : ((s.place w u o).view w.line).Right := by
  obtain ⟨a, e, -, eq⟩ := place_eq s w u o
  generalize ht : ({ s with alloc := a } : State).setEntry w.line (some e) = t at eq
  have tone : t.tone = s.tone := by rw [← ht]; rfl
  have record : (t.unqueue w.line).line w.line = s.line w.line := line_of_lines (by rw [unqueue_lines, ← ht]; rfl) _
  have rung : (t.entry w.line).isSome := by simp [← ht]
  have frame := unqueue_frame t w.line
  rw [eq, enter_eq, record]
  refine right_ringing ?_ ?_ (request_unqueue_same t w.line) ?_ (by simp) ?_
  · rw [view_setLine_same, frame]
    simpa [view, LineView.withRecord, tone] using waits
  · rw [view_setLine_same, frame]
    simpa [view, LineView.withRecord, tone] using tapped
  · rw [frame]
    exact rung
  · rw [line_setLine_same]
    exact right_enter_kept (st := .ringing) (by simp) held

/-- A waiting ring is placed (R107). -/
theorem Loose.place (h : Agreed s) {w : WaitingRequest} (e : (s.line w.line).state = .ringWait) (u : Supply) (o : Nat) :
    Agreed (s.place w u o) := by
  have right := h.at_ w.line
  refine (sameBut_place s w u o).keeps h (right_place u o ?_ ?_ (right.record.holder_isSome (.inl e)))
  · simp [right.waits, e]
  · simp [right.tapped, e]

/-- A ring that holds nothing yet is placed. -/
theorem Loose.place_open {w : WaitingRequest} (h : Loose s [w.line]) (held : (s.line w.line).holder.isSome) (u : Supply) (o : Nat) :
    Agreed (s.place w u o) := by
  have b : (s.view w.line).Bare := h.bare _ (by simp)
  exact (sameBut_place s w u o).closes h (by simp) (right_place u o b.waits b.tapped held)

/-- A ring that holds nothing yet joins the queue with its line in RING_WAIT (R112). -/
theorem Loose.wait {w : WaitingRequest} (h : Loose s [w.line]) (held : (s.line w.line).holder.isSome) :
    Agreed ((s.enqueue w).enter w.line .ringWait) := by
  have b : (s.view w.line).Bare := h.bare _ (by simp)
  refine ((sameBut_enqueue s w).trans (sameBut_setLine _ _ _)).closes h (by simp) ?_
  rw [view_setLine_same]
  have queued := request_enqueue_same s w
  exact ⟨iff_of_false b.waits (by simp), iff_of_false b.tapped (by simp), iff_of_true queued rfl, iff_of_false b.rung (by simp),
    b.stray, right_enter_kept (st := .ringWait) (by simp) held⟩

/-- A ring that holds nothing yet ends by a ground fault (R108). -/
theorem Loose.groundFault_open {w : WaitingRequest} (h : Loose s [w.line]) (held : (s.line w.line).holder.isSome) :
    Agreed (s.groundFault w) := by
  have b : (s.view w.line).Bare := h.bare _ (by simp)
  have deleted : Loose (s.deleteRequest w) [w.line] := by
    have but := sameBut_deleteRequest s w
    refine ⟨but.nodup h.nodup, fun k hk => ?_, fun k hk => ?_⟩
    · rw [but.view k (by simpa using hk)]
      exact h.right k hk
    · have e : k = w.line := by simpa using hk
      subst e
      have frame : s.deleteRequest w = (s.unqueue w.line).dropUse w.program := rfl
      refine ⟨?_, ?_, ?_, ?_, ?_⟩
      · rw [frame, unqueue_frame]
        exact b.waits
      · rw [frame, unqueue_frame]
        exact b.tapped
      · have none : (s.deleteRequest w).request w.line = none := request_unqueue_same s w.line
        simp [view, none]
      · rw [frame, unqueue_frame]
        exact b.rung
      · rw [frame, unqueue_frame]
        exact b.stray
  refine (deleted.report w.line _).toReturnState (by simp) ?_
  rw [line_report, line_of_lines (s.deleteRequest_lines w)]
  exact held

/-- A waiting ring ends by a ground fault (R108). -/
theorem Loose.groundFault (h : Agreed s) {w : WaitingRequest} (e : (s.line w.line).state = .ringWait) : Agreed (s.groundFault w) := by
  refine (Loose.report (h.deleteRequest (by simp) e) w.line _).toReturnState (by simp) ?_
  rw [line_report, line_of_lines (s.deleteRequest_lines w)]
  exact (h.recordRight w.line).holder_isSome (.inl e)

/-! ## The placement passes (R114, R115) -/

theorem Loose.passOver (h : Agreed s) (l : LineNo) : Agreed (s.passOver l) := by
  have counted (n : Nat) :
      SameViews s (s.setWaiting (s.alloc.queue.map fun x => if x.line == l then { x with passOvers := n } else x)) := by
    refine ⟨rfl, fun k => ?_⟩
    have same : ((s.setWaiting (s.alloc.queue.map fun x => if x.line == l then { x with passOvers := n } else x)).request k).isSome
        = (s.request k).isSome := by
      simp only [request, setWaiting_queue, List.find?_map, Option.isSome_map]
      congr 2
      funext x
      simp only [Function.comp]
      split <;> rfl
    simp only [view, same]
    rfl
  unfold State.passOver
  split
  · exact h
  · dsimp only
    split
    · split
      · exact (sameViews_takeTurns _ _).loose ((counted _).loose h)
      · exact (counted _).loose h
    · exact h

theorem Loose.passOverAll (u : Supply) (fs : List FailedRequest) (h : Agreed s) : Agreed (passOverAll u fs s).1 := by
  induction fs generalizing s with
  | nil => exact h
  | cons f fs ih =>
    unfold State.passOverAll
    split
    · exact ih (h.passOver f.line)
    · exact ih h

/-- A line with a waiting request is in RING_WAIT (R112). -/
theorem Loose.ringWait_of_request (h : Agreed s) {w : WaitingRequest} (e : s.request l = some w) : (s.line l).state = .ringWait :=
  (h.at_ l).queued.1 (by simp [view, e])

/-- A line with a ring entry is in RINGING (R112). -/
theorem Loose.ringing_of_entry (h : Agreed s) {e : RingEntry} (he : s.entry l = some e) : (s.line l).state = .ringing :=
  (h.at_ l).rung.1 (by simp [view, he])

theorem Loose.passWalk (ks : List LineNo) (fs : List FailedRequest) (h : Agreed s) : Agreed (passWalk ks fs s) := by
  induction ks generalizing fs s with
  | nil => exact h
  | cons k ks ih =>
    unfold State.passWalk
    split
    · exact ih _ h
    · rename_i w hw
      have waits : (s.line w.line).state = .ringWait := h.ringWait_of_request (by rw [request_line hw, hw])
      split
      · exact ih _ ((h.place waits _ _).passOverAll _ _)
      · exact ih _ (h.groundFault waits)
      · exact ih _ h

theorem Loose.runPasses (n : Nat) (h : Agreed s) : Agreed (runPasses n s) := by
  induction n generalizing s with
  | zero => exact h.of_eq
  | succ n ih =>
    unfold State.runPasses
    split
    · exact ih (Loose.passWalk _ _ h.of_eq)
    · exact h

/-- The end of an event keeps the structure. -/
theorem Loose.finish (h : Agreed s) : Agreed s.finish := h.settleTone.runPasses _

end Sys2Proof.Machine.State
end

section
/-! PROOFS. The Ring Sequencer keeps the structure: the entering and the ending of a step, the follow-on switch, the integrity fault
and eviction (R97, R118, R125 to R130). -/

namespace Sys2Proof.Machine.State

open Sys2Proof.Safety

variable {s t : State} {l : LineNo} {ls : List LineNo}

/-! ## A ringing line -/

theorem Loose.held_of_ringing (h : Agreed s) (e : (s.line l).state = .ringing) : (s.line l).holder.isSome :=
  (h.recordRight l).holder_isSome (.inr (.inl e))

theorem not_tone_of_ring {st : LineState} (h : st = .ringWait ∨ st = .ringing) : st ≠ .toneWait ∧ st ≠ .dialTone := by
  rcases h with rfl | rfl <;> simp

/-- A RINGING line keeps an entry, whatever the entry and the relay become. -/
theorem Loose.ringing_keeps (h : Agreed s) (e : (s.line l).state = .ringing) (but : SameBut l s t) (tone : t.tone = s.tone)
    (line : t.line l = s.line l) (request : t.request l = s.request l) (entry : (t.entry l).isSome) : Agreed t := by
  have right := h.at_ l
  refine but.keeps h (right_ringing ?_ ?_ ?_ entry (by rw [line, e]) (by rw [line]; exact right.record))
  · simpa [view, tone, e] using right.waits
  · simpa [view, tone, e] using right.tapped
  · have := right.queued
    rw [request]
    simpa [view, e] using this

theorem Loose.setEntry (h : Agreed s) (e : (s.line l).state = .ringing) (n : RingEntry) : Agreed (s.setEntry l (some n)) :=
  h.ringing_keeps e (sameBut_setEntry _ _ _) rfl rfl rfl (by simp)

/-- The ring of a RINGING line stops and the line goes to its return state (R132). -/
theorem Loose.stopRing_return (h : Agreed s) (e : (s.line l).state = .ringWait ∨ (s.line l).state = .ringing) (c : StopCause) :
    Agreed ((s.stopRing l c).toReturnState l) := by
  refine (h.stopRing (by simp) (not_tone_of_ring e) c).toReturnState (by simp) ?_
  rw [line_of_lines (s.stopRing_lines l c)]
  exact (h.recordRight l).holder_isSome (e.elim .inl fun e => .inr (.inl e))

theorem Loose.failRing_return (h : Agreed s) (e : (s.line l).state = .ringWait ∨ (s.line l).state = .ringing) (c : RingFailure) :
    Agreed ((s.failRing l c).toReturnState l) := by
  refine (h.failRing (by simp) (not_tone_of_ring e) c).toReturnState (by simp) ?_
  rw [line_of_lines (s.failRing_lines l c)]
  exact (h.recordRight l).holder_isSome (e.elim .inl fun e => .inr (.inl e))

/-- The entry of a RINGING line ends and the line goes to its return state (R131, R132). -/
theorem Loose.endEntry_return (h : Agreed s) (e : (s.line l).state = .ringing) (n : RingEntry) :
    Agreed ((s.endEntry l n).toReturnState l) := by
  refine (h.endEntry (by simp) e n).toReturnState (by simp) ?_
  rw [line_of_lines (s.endEntry_lines l n)]
  exact h.held_of_ringing e

/-! ## The integrity fault (R97) -/

theorem Loose.of_mem_iff {ks : List LineNo} (h : Loose s ls) (e : ∀ k, k ∈ ks ↔ k ∈ ls) : Loose s ks :=
  ⟨h.nodup, fun k hk => h.right k fun m => hk ((e k).2 m), fun k hk => h.bare k ((e k).1 hk)⟩

theorem allLines_nodup : allLines.Nodup := by decide

/-- What an integrity fault of `p` ends on a line: its ring, if that is on `p` (R97). -/
def faultedRing (s : State) (p : ProgramNo) (l : LineNo) : Option FaultedRing :=
  match s.ringOf l with
  | some (party, program, cycles) => if program == p then some ⟨l, party, cycles⟩ else none
  | none => none

theorem ringsOn_eq (s : State) (p : ProgramNo) : s.ringsOn p = allLines.filterMap (s.faultedRing p) := rfl

theorem faultedRing_eq_some {p : ProgramNo} {x : FaultedRing} :
    s.faultedRing p l = some x ↔ l = x.line ∧ s.ringOf l = some (x.party, p, x.cycles) := by
  obtain ⟨k, party, cycles⟩ := x
  unfold faultedRing
  split
  · rename_i party' program cycles' e
    by_cases eq : program = p <;> simp [e, eq]
  · rename_i e
    simp [e]

theorem mem_ringsOn {p : ProgramNo} {x : FaultedRing} (h : x ∈ s.ringsOn p) : s.ringOf x.line = some (x.party, p, x.cycles) := by
  rw [ringsOn_eq, List.mem_filterMap] at h
  obtain ⟨l, -, h⟩ := h
  obtain ⟨rfl, ring⟩ := faultedRing_eq_some.1 h
  exact ring

theorem ringsOn_nodup (s : State) (p : ProgramNo) : ((s.ringsOn p).map (·.line)).Nodup := by
  rw [ringsOn_eq, List.map_filterMap]
  refine allLines_nodup.filterMap fun k j l hk hj => ?_
  have line_eq {k : LineNo} (h : l ∈ (s.faultedRing p k).map (·.line)) : k = l := by
    obtain ⟨x, hx, rfl⟩ := Option.mem_map.1 h
    exact (faultedRing_eq_some.1 hx).1
  exact (line_eq hk).trans (line_eq hj).symm

/-- A line with a ring is in RING_WAIT or in RINGING (R112). -/
theorem Loose.ring_state (h : Agreed s) {r : Nat × ProgramNo × Nat} (e : s.ringOf l = some r) :
    (s.line l).state = .ringWait ∨ (s.line l).state = .ringing := by
  unfold ringOf at e
  split at e
  · rename_i n hn
    exact .inr (h.ringing_of_entry hn)
  · cases hw : s.request l with
    | none => simp [hw] at e
    | some w => exact .inl (h.ringWait_of_request hw)

theorem endRings_lines (xs : List FaultedRing) (s : State) : (xs.foldl (fun s x => s.endRing x.line) s).lines = s.lines := by
  induction xs generalizing s with
  | nil => rfl
  | cons x xs ih => exact (ih _).trans (endRing_lines s x.line)

theorem Loose.endRings (xs : List FaultedRing) (h : Loose s ls) (nodup : (xs.map (·.line)).Nodup) (apart : ∀ x ∈ xs, x.line ∉ ls)
    (e : ∀ x ∈ xs, (s.line x.line).state = .ringWait ∨ (s.line x.line).state = .ringing) :
    Loose (xs.foldl (fun s x => s.endRing x.line) s) (xs.map (·.line) ++ ls) := by
  induction xs generalizing s ls with
  | nil => exact h
  | cons x xs ih =>
    rw [List.map_cons, List.nodup_cons] at nodup
    obtain ⟨fresh, nodup⟩ := nodup
    have ended := h.endRing (apart x (by simp)) (not_tone_of_ring (e x (by simp)))
    refine (ih ended nodup (fun y hy => ?_) fun y hy => ?_).of_mem_iff ?_
    · rw [List.mem_cons, not_or]
      exact ⟨fun eq => fresh (List.mem_map.2 ⟨y, hy, eq⟩), apart y (List.mem_cons_of_mem _ hy)⟩
    · rw [line_of_lines (endRing_lines s x.line)]
      exact e y (List.mem_cons_of_mem _ hy)
    · intro k
      simp [or_left_comm]

theorem line_toReturnState_other {k : LineNo} (s : State) (h : k ≠ l) : (s.toReturnState l).line k = s.line k := by
  unfold State.toReturnState
  split
  · simp [enterCleared_eq, h]
  · simp [enterIdle_eq, h]

theorem Loose.returnAll (p : ProgramNo) (xs : List FaultedRing) (h : Loose s (xs.map (·.line))) (nodup : (xs.map (·.line)).Nodup)
    (held : ∀ x ∈ xs, (s.line x.line).holder.isSome) :
    Agreed (xs.foldl (fun s x => (s.report x.line (.ringFailed .cadenceFault x.party p x.cycles)).toReturnState x.line) s) := by
  induction xs generalizing s with
  | nil => exact h
  | cons x xs ih =>
    rw [List.map_cons, List.nodup_cons] at nodup
    obtain ⟨fresh, nodup⟩ := nodup
    refine ih (Loose.toReturnState (h.report x.line _) fresh ?_) nodup fun y hy => ?_
    · rw [line_report]
      exact held x (by simp)
    · rw [line_toReturnState_other _ (fun eq => fresh (List.mem_map.2 ⟨y, hy, eq⟩)), line_report]
      exact held y (List.mem_cons_of_mem _ hy)

/-- All rings on a program end, and their lines go to their return states (R97). -/
theorem Loose.integrityFault (h : Agreed s) (p : ProgramNo) (i : Nat) : Agreed (s.integrityFault p i) := by
  unfold State.integrityFault
  dsimp only
  generalize hq : s.setProgram p _ = q
  have h : Agreed q := hq ▸ h.of_eq
  have state (x : FaultedRing) (hx : x ∈ q.ringsOn p) := h.ring_state (mem_ringsOn hx)
  have ended := h.endRings (q.ringsOn p) (ringsOn_nodup q p) (fun _ _ => by simp) state
  rw [List.append_nil] at ended
  refine ended.returnAll p _ (ringsOn_nodup q p) fun x hx => ?_
  rw [line_of_lines (endRings_lines _ q)]
  exact (h.recordRight x.line).holder_isSome ((state x hx).elim .inl fun e => .inr (.inl e))

/-! ## Entering a step, and the follow-on switch (R126, R129, R130) -/

theorem Loose.enterStep (h : Agreed s) (e : (s.line l).state = .ringing) (n : RingEntry) (i : Nat) : Agreed (s.enterStep l n i) := by
  unfold State.enterStep
  split
  · exact h.integrityFault _ _
  · dsimp only
    split
    · exact h.ringing_keeps e ((sameBut_setEntry _ _ _).trans ((sameBut_setRelay _ _ _).trans ((sameViews_indicate _ _ _).but l)))
        rfl rfl rfl (by simp [indicate_eq])
    · exact h.ringing_keeps e ((sameBut_setEntry _ _ _).trans ((sameBut_setRelay _ _ _).trans ((sameViews_indicate _ _ _).but l)))
        rfl rfl rfl (by simp [indicate_eq])

theorem Loose.replaceRing {w : WaitingRequest} (h : Loose s [w.line]) (held : (s.line w.line).holder.isSome) :
    Agreed (s.replaceRing w.line w) := by
  unfold State.replaceRing
  split
  · exact h.place_open held _ _
  · exact h.groundFault_open held
  · exact Loose.report (h.wait held) _ _

theorem Loose.followOnSwitch (h : Agreed s) (e : (s.line l).state = .ringing) (n : RingEntry) (f : ProgramNo) :
    Agreed (s.followOnSwitch l n f) := by
  unfold State.followOnSwitch
  split
  · dsimp only
    generalize hq : (s.takeUse f).dropUse n.program = q
    have lines : q.lines = s.lines := by rw [← hq]; rfl
    have used : Agreed q := by
      rw [← hq]
      exact h.of_eq
    have removed : Loose (q.removeEntry l) [l] := used.removeEntry (by simp) (by rw [line_of_lines lines, e])
    refine Loose.replaceRing (w := n.toRequest l f) removed ?_
    change ((q.removeEntry l).line l).holder.isSome
    rw [line_of_lines (q.removeEntry_lines l), line_of_lines lines]
    exact h.held_of_ringing e
  · exact Loose.endEntry_return (h.report l _) (by simpa using e) n

/-! ## The end of a step (R125, R127, R128) -/

theorem Loose.cycleEnd (h : Agreed s) (e : (s.line l).state = .ringing) (n : RingEntry) : Agreed (s.cycleEnd l n) := by
  unfold State.cycleEnd
  dsimp only
  split
  · exact Loose.endEntry_return ((h.setEntry e _).report l _) (by simpa using e) _
  · split
    · exact (h.setEntry e _).stopRing_return (.inr e) _
    · split
      · split
        · exact (h.setEntry e _).followOnSwitch e _ _
        · exact (h.setEntry e _).enterStep e _ 0
      · exact (h.setEntry e _).enterStep e _ 0

theorem Loose.afterFeed (h : Agreed s) (e : (s.line l).state = .ringing) (n : RingEntry) (st : CurrentStep) :
    Agreed (s.afterFeed l n st) := by
  unfold State.afterFeed
  split
  · exact h.cycleEnd e n
  · exact h.enterStep e n _

theorem Loose.endStep (h : Agreed s) (e : (s.line l).state = .ringing) (n : RingEntry) (st : CurrentStep) :
    Agreed (s.endStep l n st) := by
  unfold State.endStep
  split
  · exact h.afterFeed e n st
  · dsimp only
    generalize (if n.fed = true then 0 else n.missed + 1) = missed
    split
    · exact (h.setEntry e _).failRing_return (.inr e) _
    · exact (h.setEntry e _).afterFeed e _ st

theorem Loose.stepEnded (h : Agreed s) {n : RingEntry} (hn : s.entry l = some n) : Agreed (s.stepEnded l n) := by
  have e := h.ringing_of_entry hn
  unfold State.stepEnded
  split
  · exact h.enterStep e n 0
  · exact h.endStep e n _

/-- One slot boundary counts at the entries alone (R125). -/
theorem countSlots_frame (s : State) : ∃ es : Vector (Option RingEntry) 64, s.countSlots = { s with entries := es } := ⟨_, rfl⟩

theorem entry_countSlots (s : State) (k : LineNo) :
    s.countSlots.entry k = (s.entry k).map fun e => { e with slotsLeft := e.slotsLeft - 1 } := by
  simp only [State.entry, State.countSlots, Fin.getElem_fin, Vector.getElem_ofFn]

theorem Loose.countSlots (h : Agreed s) : Agreed s.countSlots := by
  have entry := entry_countSlots s
  obtain ⟨es, frame⟩ := countSlots_frame s
  rw [frame] at entry ⊢
  suffices same : SameViews s { s with entries := es } from same.loose h
  refine ⟨rfl, fun k => ?_⟩
  simp only [view, entry k, Option.isSome_map, Option.map_eq_none_iff]
  rfl

/-! ## Eviction and budgets (R104, R118) -/

theorem Loose.evictOne (h : Agreed s) {n : RingEntry} (hn : s.entry l = some n) : Agreed (s.evictOne l n) := by
  have e := h.ringing_of_entry hn
  unfold State.evictOne
  split
  · exact h.stopRing_return (.inr e) _
  · have removed : Loose (s.removeEntry l) [l] := h.removeEntry (by simp) e
    refine Loose.report (Loose.wait (w := n.toRequest l n.program) removed ?_) l _
    change ((s.removeEntry l).line l).holder.isSome
    rw [line_of_lines (s.removeEntry_lines l)]
    exact h.held_of_ringing e

/-- The younger of the youngest entry on a supply so far and that of a line (R107). -/
def younger (s : State) (u : Supply) (best : Option (LineNo × RingEntry)) (l : LineNo) : Option (LineNo × RingEntry) :=
  match s.entry l with
  | some e =>
    if e.sup == u then
      match best with
      | some (k, b) => if b.stamp < e.stamp then some (l, e) else some (k, b)
      | none => some (l, e)
    else best
  | none => best

theorem youngestOn_eq (s : State) (u : Supply) : s.youngestOn u = allLines.foldl (s.younger u) none := rfl

theorem younger_cases (s : State) (u : Supply) (best : Option (LineNo × RingEntry)) (l : LineNo) :
    s.younger u best l = best ∨ ∃ e, s.entry l = some e ∧ s.younger u best l = some (l, e) := by
  unfold younger
  split
  · rename_i e he
    split
    · split
      · split
        · exact .inr ⟨e, he, rfl⟩
        · exact .inl rfl
      · exact .inr ⟨e, he, rfl⟩
    · exact .inl rfl
  · exact .inl rfl

theorem entry_of_younger (s : State) (u : Supply) (ks : List LineNo) (best : Option (LineNo × RingEntry))
    (hb : ∀ k b, best = some (k, b) → s.entry k = some b) :
    ∀ k b, ks.foldl (s.younger u) best = some (k, b) → s.entry k = some b := by
  induction ks generalizing best with
  | nil => exact hb
  | cons l ks ih =>
    refine ih _ fun k b h => ?_
    rcases s.younger_cases u best l with same | ⟨e, he, eq⟩
    · exact hb k b (same ▸ h)
    · rw [eq, Option.some.injEq, Prod.mk.injEq] at h
      rw [← h.1, ← h.2, he]

theorem entry_of_youngestOn {u : Supply} {n : RingEntry} (h : s.youngestOn u = some (l, n)) : s.entry l = some n := by
  rw [youngestOn_eq] at h
  exact entry_of_younger s u allLines none (by simp) l n h

theorem Loose.evictLoop (u : Supply) (n : Nat) (h : Agreed s) : Agreed (evictLoop u n s) := by
  induction n generalizing s with
  | zero => exact h
  | succ n ih =>
    unfold State.evictLoop
    split
    · exact h
    · split
      · rename_i l e he
        exact ih (h.evictOne (entry_of_youngestOn he))
      · exact h

theorem Loose.evict (h : Agreed s) (u : Supply) : Agreed (s.evict u) := h.evictLoop u 64

theorem Loose.followBudgets (h : Agreed s) : Agreed s.followBudgets := by
  unfold State.followBudgets
  dsimp only
  generalize hq : (s.selectBudget .one).selectBudget .two = q
  have selected : Agreed q := by
    rw [← hq]
    exact h.of_eq
  generalize hr : (if q.alloc.one.current < s.alloc.one.current then q.evict .one else q) = r
  have first : Agreed r := by
    rw [← hr]
    split
    · exact selected.evict .one
    · exact selected
  generalize hv : (if r.alloc.two.current < s.alloc.two.current then r.evict .two else r) = v
  have second : Agreed v := by
    rw [← hv]
    split
    · exact first.evict .two
    · exact first
  split
  · exact second.of_eq
  · exact second

end Sys2Proof.Machine.State
end

section
/-! PROOFS. The events at a line record keep the structure: hook events in every state, digits, expiries, teardown, card events,
release and the absence of a port (chapters 1, 3, 4, 7; R16, R22, R24, R25, R156, R157). -/

namespace Sys2Proof.Machine.State

open Sys2Proof.Safety

variable {s t : State} {l : LineNo} {ls : List LineNo}

/-! ## Changes of one record -/

/-- The hook field speaks in no rule of the record. -/
theorem Loose.setHook (h : Agreed s) (l : LineNo) (x : Hook) : Agreed (s.setHook l x) := h.setLine rfl (h.recordRight l).congr

@[simp] theorem line_setHook (s : State) (l : LineNo) (x : Hook) : (s.setHook l x).line l = { s.line l with hook := x } := by
  simp [State.setHook]

theorem Loose.stopTimer (h : Agreed s) (l : LineNo) : Agreed (s.stopTimer l) := h.setLine rfl ((h.recordRight l).stopped rfl)

/-- A timer starts in a state in which its purpose runs (R6). -/
theorem Loose.startTimer (h : Agreed s) {p : TimerPurpose} (e : p.runsIn (s.line l).state = true) (n : Nat) :
    Agreed (s.startTimer l p n) := h.setLine rfl ((h.recordRight l).started e)

theorem Loose.startFirstDigit (h : Agreed s) (e : (s.line l).state = .toneWait ∨ (s.line l).state = .dialTone) :
    Agreed (s.startFirstDigit l) :=
  h.startTimer (by rcases e with e | e <;> rw [e] <;> rfl) _

theorem Loose.startInterdigit (h : Agreed s) (e : (s.line l).state = .digits) : Agreed (s.startInterdigit l) :=
  h.startTimer (by rw [e]; rfl) _

theorem Loose.restartInterdigit (h : Agreed s) (e : (s.line l).state = .digits) : Agreed (s.restartInterdigit l) := by
  unfold State.restartInterdigit
  split
  · exact h.startInterdigit e
  · exact h

/-- A line that holds nothing enters HELD as an orphan exactly when it has no holder (R5). -/
theorem Loose.enterHeld (h : Loose s [l]) (e : (s.line l).holder = none ↔ (s.line l).orphan = true) : Agreed (s.enter l .held) :=
  h.enter_close (by simp) rfl (right_enter_call (.inl rfl) e)

/-- An originating line gives up tone and enters DIGITS with its offer (R62). -/
theorem Loose.toDigits (h : Agreed s) (e : (s.line l).state.originating = true) : Agreed ((s.giveUpTone l).enter l .digits) := by
  refine (h.giveUpTone (not_ring_of_originating e)).enter_close (by simp) rfl ?_
  rw [line_giveUpTone]
  exact right_enter_originating rfl ((h.recordRight l).offered e)

theorem originating_of_tone {st : LineState} (e : st = .toneWait ∨ st = .dialTone ∨ st = .digits) : st.originating = true := by
  rcases e with rfl | rfl | rfl <;> rfl

/-! ## Lifts and answers (R2, R50, R134, R135) -/

theorem Loose.answerRinging (h : Agreed s) (e : (s.line l).state = .ringing) (q : Qualification) (kind : Option StepKind) :
    Agreed (s.answerRinging l q kind) := by
  unfold State.answerRinging
  split
  · rename_i n hn
    refine Loose.enterHeld (Loose.endEntry (h.report l _) (by simp) (by simpa using e) n) ?_
    rw [line_of_lines (endEntry_lines _ l n), line_report]
    exact (h.recordRight l).call (h.held_of_ringing e)
  · exact h

theorem Loose.preRingAnswer (h : Agreed s) (e : (s.line l).state = .ringWait) (q : Qualification) : Agreed (s.preRingAnswer l q) := by
  unfold State.preRingAnswer
  split
  · rename_i w hw
    have line := request_line hw
    subst line
    refine Loose.enterHeld (Loose.deleteRequest (h.report _ _) (by simp) (by simpa using e)) ?_
    rw [line_of_lines (deleteRequest_lines _ w), line_report]
    exact (h.recordRight w.line).call ((h.recordRight w.line).holder_isSome (.inl e))
  · exact h

theorem Loose.lifted (h : Agreed s) (l : LineNo) (q : Qualification) (kind : Option StepKind) : Agreed (s.lifted l q kind) := by
  have off := h.setHook l .off
  have line := line_setHook s l .off
  unfold State.lifted
  split
  case h_1 => exact h
  case h_2 e =>
    refine Loose.originate (off.opened ?_)
    rw [line]
    exact congrArg LineState.holdsNothing e
  case h_8 e => exact off.preRingAnswer (by rw [line]; exact e) q
  case h_9 e => exact off.answerRinging (by rw [line]; exact e) q kind
  case h_10 e => exact off.setLine rfl (off.recordRight l).congr
  case h_11 e => exact off.stopTimer l
  all_goals exact off

/-! ## Pulses and digits (R62, R63) -/

theorem Loose.pulsed (h : Agreed s) (l : LineNo) : Agreed (s.pulsed l) := by
  have digits (e : (s.line l).state = .toneWait ∨ (s.line l).state = .dialTone) :
      Agreed (((s.giveUpTone l).enter l .digits).restartInterdigit l) :=
    (h.toDigits (originating_of_tone (e.imp_right .inl))).restartInterdigit (by simp [enter_eq])
  unfold State.pulsed
  split
  case h_1 e => exact digits (.inl e)
  case h_2 e => exact digits (.inr e)
  case h_3 e => exact h.restartInterdigit e
  case h_4 e => exact h.setLine rfl (h.recordRight l).congr
  case h_5 => exact h

theorem Loose.dialingDone (h : Loose s [l]) (e : (s.line l).holder = none ↔ (s.line l).orphan = true) : Agreed (s.dialingDone l) :=
  Loose.enterHeld (h.report l _) (by rw [line_report]; exact e)

theorem Loose.digitToHolder (h : Agreed s) (e : (s.line l).state = .digits) (held : (s.line l).holder.isSome) (d : Digit) :
    Agreed (s.digitToHolder l d) := by
  unfold State.digitToHolder
  dsimp only
  generalize hq : State.modLine _ l _ = q
  have reported := h.report l (.digit d false)
  have counted : Agreed q := by
    rw [← hq]
    exact reported.setLine rfl (reported.recordRight l).congr
  have line : (q.line l).state = .digits ∧ (q.line l).holder = (s.line l).holder := by
    rw [← hq]
    simp [e]
  split
  · exact Loose.dialingDone (counted.opened (by rw [line.1]; rfl)) ((counted.recordRight l).call (by rw [line.2]; exact held))
  · exact counted.restartInterdigit line.1

theorem Loose.bufferDigit (h : Agreed s) (l : LineNo) (d : Digit) (n : Nat) : Agreed (s.bufferDigit l d n) := by
  unfold State.bufferDigit
  split
  · exact h.setLine rfl (h.recordRight l).congr
  · exact h.report l _

theorem Loose.digitEnded (h : Agreed s) (l : LineNo) (o : DigitOutcome) (n : Nat) : Agreed (s.digitEnded l o n) := by
  have ended : Agreed (s.modLine l fun r => { r with digitInProgress := some false }) := h.setLine rfl (h.recordRight l).congr
  unfold State.digitEnded
  split
  case h_1 d e =>
    split
    · rename_i held
      exact h.digitToHolder e held d
    · exact h.bufferDigit l d n
  case h_2 e _ => exact Loose.restartInterdigit (h.report l _) (by simpa using e)
  case h_5 d _ => exact ended.bufferDigit l d n
  case h_6 => exact ended.report l _
  case h_7 => exact h
  all_goals exact h.report l _

theorem Loose.badBroken (h : Agreed s) (l : LineNo) (start : Ms) (n : Nat) : Agreed (s.badBroken l start n) := by
  unfold State.badBroken
  split
  case h_3 => exact h
  all_goals exact h.report l _

/-! ## Flashes (R67, R72, R75) -/

theorem Loose.startRecall (h : Agreed s) (e : (s.line l).state = .held ∨ (s.line l).state = .recalling) (n : Nat) :
    Agreed (s.startRecall l n) := by
  have opened : Loose s [l] := h.opened (by rcases e with e | e <;> rw [e] <;> rfl)
  have orphan := (h.recordRight l).orphan_iff e
  unfold State.startRecall
  dsimp only
  refine Loose.report (Loose.startTimer ?_ (by simp [TimerPurpose.runsIn]) _) l _
  exact opened.setLine_close (by simp) rfl (right_enter_call (st := .recalling) (.inr rfl) orphan).congr

theorem Loose.restartDialling (h : Agreed s) (e : (s.line l).state = .digits) (n : Nat) : Agreed (s.restartDialling l n) := by
  unfold State.restartDialling
  dsimp only
  generalize hq : State.modLine _ l _ = q
  have emptied : Agreed q := by
    rw [← hq]
    exact h.setLine rfl ((h.recordRight l).stopped rfl)
  have state : (q.line l).state = .digits := by simp [← hq, e]
  have asked : Agreed (q.askTone l) :=
    Loose.askTone (emptied.opened (by rw [state]; rfl)) ((emptied.recordRight l).offered (by rw [state]; rfl))
  exact Loose.report (asked.startFirstDigit (askTone_state q l).symm) l _

theorem Loose.flashed (h : Agreed s) (l : LineNo) (n : Nat) : Agreed (s.flashed l n) := by
  unfold State.flashed
  split
  case h_1 e => exact (h.startFirstDigit (.inl e)).report l _
  case h_2 e => exact (h.startFirstDigit (.inr e)).report l _
  case h_3 e => exact h.restartDialling e n
  case h_4 e => exact h.startRecall (.inl e) n
  case h_5 e => exact h.startRecall (.inr e) n
  case h_6 => exact h

/-! ## Hang-ups (R66, R79, R80, R18) -/

theorem Loose.clearCall (h : Agreed s) (e : (s.line l).state ≠ .ringWait ∧ (s.line l).state ≠ .ringing) (n : Nat) :
    Agreed (s.clearCall l n) := by
  unfold State.clearCall
  dsimp only
  have freed := (h.giveUpTone e).report l (.clear (s.line l).state n (s.line l).orphan)
  split
  · rename_i held
    exact freed.enterCleared (by simp) (by simpa using held)
  · exact freed.enterIdle (by simp)

theorem Loose.parkedHangUp (h : Agreed s) (e : (s.line l).state = .parked) (start : Ms) : Agreed (s.parkedHangUp l start) := by
  unfold State.parkedHangUp
  dsimp only
  split
  · exact Loose.unparkToIdle (h.opened (by rw [e]; rfl))
  · exact h.setLine rfl ((h.recordRight l).started (p := .parkRelease) (congrArg TimerPurpose.parkRelease.runsIn e))

theorem Loose.hungUp (h : Agreed s) (l : LineNo) (start : Ms) (n : Nat) : Agreed (s.hungUp l start n) := by
  have on := h.setHook l .on
  have state : ((s.setHook l .on).line l).state = (s.line l).state := by simp
  have originating (e : (s.line l).state.originating = true) :
      Agreed (if ((s.setHook l .on).line l).holder.isSome then (s.setHook l .on).clearCall l n
        else (((s.setHook l .on).giveUpTone l).abandonOffer l .onHook).enterIdle l) := by
    have no_ring := not_ring_of_originating (st := ((s.setHook l .on).line l).state) (by rw [state, e])
    split
    · exact on.clearCall no_ring n
    · exact Loose.enterIdle ((on.giveUpTone no_ring).abandonOffer l _) (by simp)
  unfold State.hungUp
  split
  case h_1 => exact h
  case h_2 e => exact originating (by rw [e]; rfl)
  case h_3 e => exact originating (by rw [e]; rfl)
  case h_4 e => exact originating (by rw [e]; rfl)
  case h_5 e => exact on.clearCall (by simp [e]) n
  case h_6 e => exact on.clearCall (by simp [e]) n
  case h_7 e => exact on.setLine rfl (on.recordRight l).congr
  case h_8 e => exact on.parkedHangUp (by rw [state, e]) start
  all_goals exact on

/-! ## Expiries (R61, R64, R65, R76, R81) -/

theorem Loose.firstDigitExpired (h : Agreed s) (e : (s.line l).state.originating = true) : Agreed (s.firstDigitExpired l) := by
  have right := h.recordRight l
  unfold State.firstDigitExpired
  split
  · rename_i mark
    refine Loose.enterHeld (Loose.report (h.giveUpTone (not_ring_of_originating e)) l _) ?_
    rw [line_report, line_giveUpTone]
    exact right.call (right.originating_of_mark mark).2
  · exact h.parkFromOrigination e _ _

theorem Loose.interdigitExpired (h : Agreed s) (e : (s.line l).state = .digits) : Agreed (s.interdigitExpired l) := by
  have right := h.recordRight l
  unfold State.interdigitExpired
  dsimp only
  split
  · rename_i mark
    refine Loose.enterHeld (Loose.report (h.opened (by rw [e]; rfl)) l _) ?_
    rw [line_report]
    exact right.call (right.originating_of_mark mark).2
  · exact Loose.stopTimer (h.report l _) l

theorem Loose.recallLapsed (h : Agreed s) (e : (s.line l).state = .recalling) : Agreed (s.recallLapsed l) := by
  refine Loose.enterHeld (Loose.report (h.opened (by rw [e]; rfl)) l _) ?_
  rw [line_report]
  exact (h.recordRight l).orphan_iff (.inr e)

theorem Loose.toneDelayed (h : Agreed s) (l : LineNo) : Agreed (s.toneDelayed l) := by
  refine Loose.report ?_ l _
  exact h.setLine rfl (h.recordRight l).congr

/-! ## Teardown (R16, R22) -/

/-- A line that holds nothing has no ring. -/
theorem ringOf_bare (b : (s.view l).Bare) : s.ringOf l = none := by
  obtain ⟨entry, request, -⟩ := bare_iff.1 b
  simp [ringOf, entry, request]

theorem Loose.stopRing_bare (h : Loose s [l]) (c : StopCause) : s.stopRing l c = s := by
  simp only [State.stopRing, ringOf_bare (h.bare l (by simp))]

theorem Loose.failRing_bare (h : Loose s [l]) (c : RingFailure) : s.failRing l c = s := by
  simp only [State.failRing, ringOf_bare (h.bare l (by simp))]

/-- A line gives up tone and its ring (R16, steps 1 and 2), whatever its state. -/
theorem Loose.freeTone_stopRing (h : Agreed s) (l : LineNo) (c : StopCause) : Loose ((s.giveUpTone l).stopRing l c) [l] := by
  by_cases ring : (s.line l).state = .ringWait ∨ (s.line l).state = .ringing
  · have tone := not_tone_of_ring ring
    rw [giveUpTone_eq s l tone.2 tone.1]
    exact h.stopRing (by simp) tone c
  · have freed := h.giveUpTone (not_or.1 ring)
    rwa [freed.stopRing_bare c]

theorem Loose.freeTone_failRing (h : Agreed s) (l : LineNo) (c : RingFailure) : Loose ((s.giveUpTone l).failRing l c) [l] := by
  by_cases ring : (s.line l).state = .ringWait ∨ (s.line l).state = .ringing
  · have tone := not_tone_of_ring ring
    rw [giveUpTone_eq s l tone.2 tone.1]
    exact h.failRing (by simp) tone c
  · have freed := h.giveUpTone (not_or.1 ring)
    rwa [freed.failRing_bare c]

theorem Loose.freeLine (h : Agreed s) (l : LineNo) (c : TeardownCause) : Loose (s.freeLine l c) [l] := by
  unfold State.freeLine
  dsimp only
  refine Loose.sendCommand (Loose.setLine_open (Loose.abandonOffer ?_ l _) _) l _
  cases c
  · exact h.freeTone_stopRing l _
  · exact h.freeTone_stopRing l _
  · exact h.freeTone_failRing l _

theorem Loose.teardown (h : Agreed s) (l : LineNo) (c : TeardownCause) : Agreed (s.teardown l c) := by
  have freed := h.freeLine l c
  have cleared (b : ReportBody) : Loose (((s.freeLine l c).report l b).clearFields l) [l] := (freed.report l b).setLine_open _
  unfold State.teardown
  cases c
  · exact (cleared _).enterParked (by simp) _
  · exact (cleared _).enterOutOfService (by simp) _
  · exact (cleared _).enterOutOfService (by simp) _

theorem Loose.forceReleased (h : Agreed s) (l : LineNo) : Agreed (s.forceReleased l) := by
  have cleared : Loose (((s.freeLine l .park).report l .releaseForced).clearFields l) [l] :=
    ((h.freeLine l .park).report l _).setLine_open _
  unfold State.forceReleased
  dsimp only
  split
  · exact cleared.enterIdle (by simp)
  · exact cleared.enterParked (by simp) _

theorem Loose.restoreService (h : Agreed s) (e : (s.line l).state = .outOfService) : Agreed (s.restoreService l) := by
  have idle : Agreed (s.enterIdle l) := (h.opened (by rw [e]; rfl)).enterIdle (by simp)
  exact ((idle.setHook l .on).sendCommand l .takeAfresh).report l .lineRestored

/-! ## Card events (R24, R25) -/

theorem Loose.lineCardLost (h : Agreed s) (l : LineNo) : Agreed (s.lineCardLost l) := by
  unfold State.lineCardLost
  split
  · exact h.setLine rfl (h.recordRight l).congr
  · exact h.teardown l _

theorem Loose.lineCardPresent (h : Agreed s) (l : LineNo) : Agreed (s.lineCardPresent l) := by
  unfold State.lineCardPresent
  split
  · exact h.setLine rfl (h.recordRight l).congr
  · exact h

theorem Loose.lineCardSettled (h : Agreed s) (l : LineNo) : Agreed (s.lineCardSettled l) := by
  unfold State.lineCardSettled
  split
  · rename_i e
    split
    · exact h.setLine rfl (h.recordRight l).congr
    · exact h.restoreService (by simpa using e)
  · exact h

/-! ## Release (R84, R85) -/

theorem Loose.releaseToPark (h : Agreed s) (e : (s.line l).state ≠ .ringWait ∧ (s.line l).state ≠ .ringing) :
    Agreed (s.releaseToPark l) :=
  (((h.giveUpTone e).setLine_open _).sendCommand l .discardPulseCount |>.report l _).enterParked (by simp) _

theorem Loose.releaseLine (h : Agreed s) (l : LineNo) : Agreed (s.releaseLine l) := by
  unfold State.releaseLine
  split
  case h_1 e => exact h.releaseCleared e
  case h_2 e => exact h.releaseToPark (by simp [e])
  case h_3 e => exact h.releaseToPark (by simp [e])
  case h_4 e => exact h.releaseToPark (by simp [e])
  case h_5 e => exact h.releaseToPark (by simp [e])
  case h_6 e => exact h.releaseToPark (by simp [e])
  case h_7 e => exact (h.stopRing (by simp) (by simp [e]) _).enterIdle (by simp)
  case h_8 e => exact (h.stopRing (by simp) (by simp [e]) _).enterIdle (by simp)
  all_goals exact h

/-! ## The absence of a port (R139, R156, R157) -/

theorem Loose.orphanLine (h : Agreed s) (e : (s.line l).state = .held ∨ (s.line l).state = .recalling) : Agreed (s.orphanLine l) := by
  have right := h.recordRight l
  have mark : (s.line l).recallMark = false := by
    rw [Bool.eq_false_iff]
    intro m
    have := (right.originating_of_mark m).1
    rcases e with e | e <;> simp [e, LineState.originating] at this
  have port : (s.line l).offeredPort = none := by
    rw [← Option.not_isSome_iff_eq_none]
    intro p
    have := (right.originating_of_port p).1
    rcases e with e | e <;> simp [e, LineState.originating] at this
  refine Loose.report ?_ l _
  refine Loose.setLine h (l := l) (r := { s.line l with holder := none, orphan := true }) rfl ?_
  rcases e with e | e <;>
    simpa [LineRecordRight, e, LineState.unheld, LineState.originating, mark, port] using ⟨e ▸ right.feed_eq, e ▸ right.timer_runs⟩

/-- Giving up tone reads the state of the line's record and changes no record. -/
theorem giveUpTone_setLine (s : State) (l : LineNo) {r : LineRecord} (e : r.state = (s.line l).state) :
    (s.setLine l r).giveUpTone l = (s.giveUpTone l).setLine l r := by
  unfold State.giveUpTone
  rw [line_setLine_same, e]
  split <;> rfl

theorem Loose.offerAgain (h : Agreed s) (e : (s.line l).state.originating = true) : Agreed (s.offerAgain l) := by
  unfold State.offerAgain
  rw [modLine_eq]
  dsimp only
  generalize hr : ({ s.line l with holder := none, recallMark := false, expected := 0, delivered := 0, timer := _ } : LineRecord) = r
  have state : r.state = (s.line l).state := by rw [← hr]
  split
  · rename_i st p hp
    refine Loose.sendOriginate ?_ l
    have o := offerPort_open hp
    rw [State.offerTo, modLine_eq, setLine_setLine, line_setLine_same]
    refine h.setLine state ((h.recordRight l).reoffered e ⟨.inl ⟨?_, o⟩, ?_, fun _ => o⟩ state ?_ ?_ ?_)
    · rw [← hr]
    · simp [← hr]
    · rw [← hr]
    · rw [← hr]
    · rw [← hr]
      dsimp only
      split
      · exact .inl rfl
      · exact .inr rfl
  · unfold State.parkFromOrigination
    dsimp only
    rw [giveUpTone_setLine s l state]
    exact ((((h.giveUpTone (not_ring_of_originating e)).setLine_open r).abandonOffer l _).report l _).enterParked (by simp) _

theorem Loose.cancelRing (h : Agreed s) (e : (s.line l).state = .ringWait ∨ (s.line l).state = .ringing) (p : Port) :
    Agreed (s.cancelRing l p) := by
  unfold State.cancelRing
  split
  · have ended : Loose (s.endRing l).callPass [l] := (sameViews_callPass _).loose (h.endRing (by simp) (not_tone_of_ring e))
    exact (ended.enterIdle (by simp)).report l _
  · exact h

theorem Loose.lineAbsent (h : Agreed s) (p : Port) (l : LineNo) : Agreed (s.lineAbsent p l) := by
  unfold State.lineAbsent
  dsimp only
  split
  · split
    case h_1 e => exact h.orphanLine (.inl e)
    case h_2 e => exact h.orphanLine (.inr e)
    case h_3 e => exact h.offerAgain (by rw [e]; rfl)
    case h_4 e => exact h.offerAgain (by rw [e]; rfl)
    case h_5 e => exact h.offerAgain (by rw [e]; rfl)
    case h_6 e => exact h.releaseCleared e
    case h_7 e => exact h.cancelRing (.inl e) p
    case h_8 e => exact h.cancelRing (.inr e) p
    all_goals exact h
  · split
    · rename_i e
      simp only [Bool.and_eq_true] at e
      exact h.advanceOffer e.1.1 e.1.2
    · exact h

/-- What each line of a list goes through keeps the structure. -/
theorem Loose.foldLines {f : State → LineNo → State} (step : ∀ {s : State}, Agreed s → ∀ l, Agreed (f s l)) (ks : List LineNo)
    (h : Agreed s) : Agreed (ks.foldl f s) := by
  induction ks generalizing s with
  | nil => exact h
  | cons k ks ih => exact ih (step h k)

theorem Loose.absence (h : Agreed s) (p : Port) (c : PortStateCause) : Agreed (s.absence p c) := by
  unfold State.absence
  dsimp only
  refine (Loose.foldLines (fun h l => h.lineAbsent p l) allLines ?_).finish
  have gone : Agreed (s.modPort p fun t => { t with state := .absent, deadline := none }) := (sameViews_modPort s p _).loose h
  exact gone.of_eq (by simp) (by simp) (by simp) (by simp) (by simp) (by simp)

end Sys2Proof.Machine.State
end

section
/-! PROOFS. Every command answers a next state that is settled and keeps the structure (O2, O3, O5): what each command does, in the
order of the table, by the lemmas about the event it takes. -/

namespace Sys2Proof.Machine.State

open Sys2Proof.Safety

variable {s t u : State} {l : LineNo}

/-! ## Answers that keep the invariants -/

/-- The step from `s` to `t` leaves nothing owed and keeps the structure. -/
structure Kept (s t : State) : Prop where
  settled : Settled s → Settled t
  agreed : Agreed s → Agreed t

/-- The answer is a next state that keeps the invariants. -/
def Takes (s : State) (o : Answer) : Prop := ∃ t, o = .next t ∧ Kept s t

theorem kept_refl (s : State) : Kept s s := ⟨id, id⟩

theorem Kept.takes (k : Kept s t) : Takes s (.next t) := ⟨t, rfl, k⟩

theorem takes_refl (s : State) : Takes s (.next s) := (kept_refl s).takes

/-- The part after an event differs in nothing that the invariants read. -/
structure Unmoved (s t : State) : Prop where
  lines : t.lines = s.lines
  tone : t.tone = s.tone
  queue : t.alloc.queue = s.alloc.queue
  entries : t.entries = s.entries
  relays : t.relays = s.relays
  passDue : t.passDue = s.passDue
  tapReturned : t.tapReturned = s.tapReturned

theorem unmoved_refl (s : State) : Unmoved s s := ⟨rfl, rfl, rfl, rfl, rfl, rfl, rfl⟩

theorem Unmoved.trans (a : Unmoved s t) (b : Unmoved t u) : Unmoved s u :=
  ⟨b.lines.trans a.lines, b.tone.trans a.tone, b.queue.trans a.queue, b.entries.trans a.entries, b.relays.trans a.relays,
    b.passDue.trans a.passDue, b.tapReturned.trans a.tapReturned⟩

theorem Unmoved.agreed (m : Unmoved s t) (h : Agreed s) : Agreed t :=
  h.of_eq m.lines (by rw [m.tone]) (by rw [m.tone]) m.queue m.entries m.relays

theorem Unmoved.kept (m : Unmoved s t) : Kept s t :=
  ⟨fun h => ⟨m.passDue.trans h.1, m.tapReturned.trans h.2⟩, m.agreed⟩

/-- A frame of report queues and ports. -/
theorem unmoved_of_frame (h : t = { s with queues := t.queues, ports := t.ports }) : Unmoved s t := by
  rw [h]
  exact ⟨rfl, rfl, rfl, rfl, rfl, rfl, rfl⟩

theorem unmoved_foldl {α : Type} {f : State → α → State} (step : ∀ s a, Unmoved s (f s a)) (as : List α) (s : State) :
    Unmoved s (as.foldl f s) := by
  induction as generalizing s with
  | nil => exact unmoved_refl s
  | cons a as ih => exact (step s a).trans (ih _)

theorem unmoved_setStep (s : State) (n : StepNo) (c : StepCell) : Unmoved s (s.setStep n c) := ⟨rfl, rfl, rfl, rfl, rfl, rfl, rfl⟩

theorem unmoved_setProgram (s : State) (g : ProgramNo) (e : ProgramEntry) : Unmoved s (s.setProgram g e) :=
  ⟨rfl, rfl, rfl, rfl, rfl, rfl, rfl⟩

theorem unmoved_setClass (s : State) (n : ClassNo) (c : LineClass) : Unmoved s (s.setClass n c) :=
  ⟨rfl, rfl, rfl, rfl, rfl, rfl, rfl⟩

theorem unmoved_setScan (s : State) (l : LineNo) (r : ScanRecord) : Unmoved s (s.setScan l r) := ⟨rfl, rfl, rfl, rfl, rfl, rfl, rfl⟩

theorem unmoved_setCard (s : State) (c : CardNo) (r : CardRecord) : Unmoved s (s.setCard c r) := ⟨rfl, rfl, rfl, rfl, rfl, rfl, rfl⟩

theorem unmoved_setPlant (s : State) (p : PlantMonitor) : Unmoved s (s.setPlant p) := ⟨rfl, rfl, rfl, rfl, rfl, rfl, rfl⟩

theorem unmoved_setEvents (s : State) (l : LineNo) (es : List ScanEvent) : Unmoved s (s.setEvents l es) :=
  ⟨rfl, rfl, rfl, rfl, rfl, rfl, rfl⟩

theorem unmoved_setBursts (s : State) (l : LineNo) (ts : List Ms) : Unmoved s (s.setBursts l ts) :=
  ⟨rfl, rfl, rfl, rfl, rfl, rfl, rfl⟩

theorem unmoved_setCommands (s : State) (l : LineNo) (cs : List ScanCommand) : Unmoved s (s.setCommands l cs) :=
  ⟨rfl, rfl, rfl, rfl, rfl, rfl, rfl⟩

theorem unmoved_setIndications (s : State) (l : LineNo) (is : List RingIndication) : Unmoved s (s.setIndications l is) :=
  ⟨rfl, rfl, rfl, rfl, rfl, rfl, rfl⟩

/-- The end of an event leaves nothing owed (R7, R57, R114). -/
theorem settled_finish (s : State) : Settled s.finish := by
  refine ⟨runPasses_passDue _ _, ?_⟩
  have passes : s.finish.tapReturned = s.settleTone.tapReturned := by
    have after := (settlePasses_after s.settleTone).1
    rw [State.finish, after]
  obtain ⟨t, -, eq⟩ := settleTone_after s
  rw [passes, eq]

theorem kept_finish (h : Agreed s → Agreed t) : Kept s t.finish := ⟨fun _ => settled_finish t, fun a => (h a).finish⟩

/-! ## Taking a request (R152) -/

theorem unmoved_modPort (s : State) (p : Port) (f : PortRecord → PortRecord) : Unmoved s (s.modPort p f) := by
  rw [modPort_frame]
  exact ⟨rfl, rfl, rfl, rfl, rfl, rfl, rfl⟩

theorem unmoved_refreshPresence (s : State) (p : Port) : Unmoved s (s.refreshPresence p) :=
  unmoved_of_frame (s.refreshPresence_frame p)

theorem unmoved_respond (s : State) (p : Port) (k : Byte) (r : Reply) : Unmoved s (s.respond p k r) :=
  unmoved_of_frame (s.respond_frame p k r)

/-- An owner that keeps the structure keeps it behind the checks of the port. -/
theorem agreed_handOver {kind : Nat} {p : Port} {body : List Byte} {owner : State → Port → List Byte → State × Reply}
    (keeps : ∀ u, Agreed u → Agreed (owner u p body).1) (h : Agreed s) : Agreed (s.handOver kind p body owner).1 := by
  unfold State.handOver
  split
  · exact h
  · split
    · exact h
    · exact keeps s h

theorem takes_request {kind : Nat} {p : Port} {owner : State → Port → List Byte → State × Reply}
    (keeps : ∀ u body, Agreed u → Agreed (owner u p body).1) (s : State) : Takes s (takeRequest kind p owner s) := by
  unfold takeRequest
  split
  · rename_i k body rest _
    split
    · dsimp only
      generalize hq : State.refreshPresence _ p = q
      have moved : Unmoved s q := hq ▸ (unmoved_modPort s p _).trans (unmoved_refreshPresence _ p)
      have ended : Kept s (q.handOver kind p body owner).1.finish :=
        kept_finish fun h => agreed_handOver (fun u => keeps u body) (moved.agreed h)
      have responded := (unmoved_respond (q.handOver kind p body owner).1.finish p k (q.handOver kind p body owner).2).kept
      exact Kept.takes ⟨fun h => responded.settled (ended.settled h), fun h => responded.agreed (ended.agreed h)⟩
    · exact takes_refl s
  · exact takes_refl s

theorem agreed_onLine {act : State → Port → LineNo → State × Reply} {p : Port} (keeps : ∀ u l, Agreed u → Agreed (act u p l).1)
    (u : State) (body : List Byte) (h : Agreed u) : Agreed (u.onLine act p body).1 := by
  unfold State.onLine
  split
  · split
    · exact keeps u _ h
    · exact h
  · exact h

theorem agreed_onLineAndCount {act : State → Port → LineNo → Nat → State × Reply} {p : Port}
    (keeps : ∀ u l n, Agreed u → Agreed (act u p l n).1) (u : State) (body : List Byte) (h : Agreed u) :
    Agreed (u.onLineAndCount act p body).1 := by
  unfold State.onLineAndCount
  split
  · split
    · exact keeps u _ _ h
    · exact h
  · exact h

theorem agreed_onProgram {act : State → ProgramNo → State × Reply} (keeps : ∀ u g, Agreed u → Agreed (act u g).1) {p : Port}
    (u : State) (body : List Byte) (h : Agreed u) : Agreed (u.onProgram act p body).1 := by
  unfold State.onProgram
  split
  · split
    · exact keeps u _ h
    · exact h
  · exact h

/-! ## The requests of chapter 1 -/

theorem Loose.adopt (h : Agreed s) (p : Port) (l : LineNo) : Agreed (s.adopt p l).1 := by
  unfold State.adopt
  dsimp only
  split
  · rename_i orphan
    have right := h.recordRight l
    have state := right.held_of_orphan orphan
    have none : (s.line l).holder = none := (right.orphan_iff state).2 orphan
    have mark : (s.line l).recallMark = false := by
      rw [Bool.eq_false_iff]
      intro m
      simpa [none] using (right.originating_of_mark m).2
    have port : (s.line l).offeredPort = Option.none := by
      rw [← Option.not_isSome_iff_eq_none]
      intro o
      have := (right.originating_of_port o).1
      rcases state with e | e <;> simp [e, LineState.originating] at this
    refine Loose.setLine h (l := l) (r := { s.line l with holder := some p, orphan := false }) rfl ?_
    rcases state with e | e <;>
      simpa [LineRecordRight, e, LineState.unheld, LineState.originating, mark, port] using ⟨e ▸ right.feed_eq, e ▸ right.timer_runs⟩
  · split <;> exact h

theorem Loose.setLineConfig (h : Agreed s) (p : Port) (body : List Byte) : Agreed (s.setLineConfig p body).1 := by
  unfold State.setLineConfig
  split
  · split
    · split
      · exact h.setLine rfl (h.recordRight _).congr
      · exact h
    · exact h
  · exact h

theorem Loose.setClassValues (h : Agreed s) (p : Port) (body : List Byte) : Agreed (s.setClassValues p body).1 := by
  unfold State.setClassValues
  split
  · exact (unmoved_setClass _ _ _).agreed h
  · exact h

theorem Loose.parkLine (h : Agreed s) (p : Port) (l : LineNo) : Agreed (s.parkLine p l).1 := by
  unfold State.parkLine
  split
  · exact h
  · have kept : Agreed (s.modLine l fun r => { r with parkReason := some .maintenance }) :=
      h.setLine rfl (h.recordRight l).congr
    exact kept.report l (.lineParked .maintenance)
  · dsimp only
    exact h.teardown l .park

theorem Loose.unparkLine (h : Agreed s) (p : Port) (l : LineNo) : Agreed (s.unparkLine p l).1 := by
  unfold State.unparkLine
  split
  · rename_i e
    have idle : Agreed (s.unparkToIdle l) := (h.opened (by rw [e]; rfl)).unparkToIdle
    dsimp only
    split
    · exact (idle.opened (by simp [State.unparkToIdle, enterIdle_eq, LineState.holdsNothing])).originate
    · exact idle
  · exact h

theorem Loose.removeLine (h : Agreed s) (p : Port) (l : LineNo) : Agreed (s.removeLine p l).1 := by
  unfold State.removeLine
  dsimp only
  generalize hq : (if (s.line l).state == .outOfService then s else s.teardown l .remove) = q
  have torn : Agreed q := by
    rw [← hq]
    split
    · exact h
    · exact h.teardown l _
  exact torn.setLine rfl (torn.recordRight l).congr

theorem Loose.restoreLine (h : Agreed s) (p : Port) (l : LineNo) : Agreed (s.restoreLine p l).1 := by
  unfold State.restoreLine
  dsimp only
  split
  · have cleared : Agreed (s.modLine l fun r => { r with admin := false }) := h.setLine rfl (h.recordRight l).congr
    dsimp only
    split
    · rename_i e
      simp only [Bool.and_eq_true, beq_iff_eq] at e
      exact cleared.restoreService (by simpa using e.1)
    · exact cleared
  · exact h

theorem Loose.forceRelease (h : Agreed s) (p : Port) (l : LineNo) : Agreed (s.forceRelease p l).1 := by
  unfold State.forceRelease
  split
  · exact h.forceReleased l
  · exact h

/-! ## The requests of the holder -/

theorem Loose.claimLine (h : Agreed s) (e : (s.line l).state.originating = true) (p : Port) (n : Nat) :
    Agreed (s.claimLine p l n).1 := by
  unfold State.claimLine
  dsimp only
  generalize hq : (if (s.line l).offeredPort == some p then s else s.abandonOffer l .claimedElsewhere) = q
  have asked : Agreed q ∧ q.line l = s.line l := by
    rw [← hq]
    split
    · exact ⟨h, rfl⟩
    · exact ⟨h.abandonOffer l _, by simp⟩
  obtain ⟨asked, line⟩ := asked
  generalize hv : q.modLine l _ = v
  have holder : (v.line l).holder.isSome := by simp [← hv]
  have state : (v.line l).state = (s.line l).state := by simp [← hv, line]
  have claimed : Agreed v := by
    rw [← hv]
    refine Loose.setLine asked (l := l) rfl ((asked.recordRight l).reoffered (by rw [line, e]) ?_ rfl rfl rfl (.inr rfl))
    exact ⟨.inr ⟨rfl, rfl⟩, fun _ => rfl, fun c => by simp at c⟩
  split
  · refine (claimed.giveUpTone (not_ring_of_originating (by rw [state, e]))).dialingDone ?_
    rw [line_giveUpTone]
    exact (claimed.recordRight l).call holder
  · split
    · rename_i digits
      exact claimed.startInterdigit (by rw [state]; simpa using digits)
    · exact claimed

theorem Loose.claim (h : Agreed s) (p : Port) (l : LineNo) (n : Nat) : Agreed (s.claim p l n).1 := by
  unfold State.claim
  dsimp only
  split
  · exact h
  · split
    · rename_i e
      simp only [Bool.and_eq_true] at e
      exact h.claimLine e.1 p n
    · split
      · exact h.setLine rfl (h.recordRight l).congr
      · exact h

theorem Loose.endTone (h : Agreed s) (p : Port) (l : LineNo) : Agreed (s.endTone p l).1 := by
  have digits (e : (s.line l).state.originating = true) :
      Agreed (if (s.line l).dialling == some .tone then (s.giveUpTone l).enter l .digits
        else ((s.giveUpTone l).enter l .digits).startInterdigit l) := by
    split
    · exact h.toDigits e
    · exact (h.toDigits e).startInterdigit (by simp [enter_eq])
  unfold State.endTone
  dsimp only
  split
  · exact h
  · split
    case h_1 e => exact digits (by rw [e]; rfl)
    case h_2 e => exact digits (by rw [e]; rfl)
    all_goals exact h

/-- A line that is held by a port has a holder. -/
theorem holder_isSome_of_eq {r : LineRecord} {p : Port} (h : ¬(r.holder != some p) = true) : r.holder.isSome := by
  have : r.holder = some p := by simpa using h
  simp [this]

theorem Loose.connect (h : Agreed s) (p : Port) (l : LineNo) : Agreed (s.connect p l).1 := by
  unfold State.connect
  dsimp only
  split
  · exact h
  · rename_i holder
    split
    · rename_i e
      refine (h.giveUpTone (not_ring_of_originating e)).enterHeld ?_
      rw [line_giveUpTone]
      exact (h.recordRight l).call (holder_isSome_of_eq holder)
    · exact h

theorem Loose.giveToneLine (h : Agreed s) (e : (s.line l).state = .recalling) (holder : (s.line l).holder.isSome) (n : Nat) :
    Agreed (s.giveToneLine l n).1 := by
  have right := h.recordRight l
  have port : (s.line l).offeredPort = none := by
    rw [← Option.not_isSome_iff_eq_none]
    intro o
    simpa [e, LineState.originating] using (right.originating_of_port o).1
  unfold State.giveToneLine
  dsimp only
  generalize hq : s.modLine l _ = q
  have opened : Loose q [l] := by
    rw [← hq]
    exact (h.opened (by rw [e]; rfl)).setLine_open _
  have offered : Offered (q.line l) := by
    rw [← hq, line_modLine_same]
    exact ⟨.inr ⟨holder, rfl⟩, fun _ => holder, by simp [port]⟩
  have call : (q.line l).holder = none ↔ (q.line l).orphan = true := by
    rw [← hq, line_modLine_same]
    exact right.call holder
  split
  · exact opened.dialingDone call
  · split
    · exact Loose.startInterdigit (opened.enter_close (by simp) rfl (right_enter_originating rfl offered)) (by simp [enter_eq])
    · exact (opened.askTone offered).startFirstDigit (askTone_state q l).symm

theorem Loose.giveTone (h : Agreed s) (p : Port) (l : LineNo) (n : Nat) : Agreed (s.giveTone p l n).1 := by
  unfold State.giveTone
  dsimp only
  split
  · exact h
  · rename_i holder
    split
    · exact h
    · rename_i e
      exact h.giveToneLine (by simpa using e) (holder_isSome_of_eq holder) n

theorem Loose.keepCall (h : Agreed s) (p : Port) (l : LineNo) : Agreed (s.keepCall p l).1 := by
  unfold State.keepCall
  dsimp only
  split
  · exact h
  · split
    · exact h
    · rename_i e
      have e : (s.line l).state = .recalling := by simpa using e
      exact Loose.enterHeld (h.opened (by rw [e]; rfl)) ((h.recordRight l).orphan_iff (.inr e))

theorem Loose.release (h : Agreed s) (p : Port) (l : LineNo) : Agreed (s.release p l).1 := by
  unfold State.release
  split
  · exact h
  · exact h.releaseLine l

/-! ## The requests for ringing -/

/-- A RING is accepted in IDLE and CLEARED (R110). -/
theorem ringCheck_ok {r : LineRecord} {p : Port} {back : ReturnState} (h : r.ringCheck p = .ok back) :
    r.state = .idle ∨ r.state = .cleared := by
  unfold LineRecord.ringCheck at h
  split at h
  · simp at h
  · simp at h
  · split at h
    · simp at h
    · split at h <;> simp_all

theorem Loose.acceptRing (h : Agreed s) (p : Port) (o : RingOperands) (e : (s.line o.line).state = .idle ∨ (s.line o.line).state = .cleared)
    (back : ReturnState) : Agreed (s.acceptRing p o back) := by
  unfold State.acceptRing
  dsimp only
  generalize hq : (s.takeUse o.program).modLine o.line _ = q
  have opened : Loose q [o.line] := by
    rw [← hq]
    exact Loose.setLine_open (Loose.of_eq (h.opened (by rcases e with e | e <;> rw [e] <;> rfl))) _
  have held : (q.line o.line).holder.isSome := by simp [← hq]
  split
  · split
    · exact Loose.place_open opened held _ _
    · exact Loose.groundFault_open opened held
    · exact Loose.wait opened held
  · exact Loose.wait opened held

theorem Loose.ring (h : Agreed s) (p : Port) (body : List Byte) : Agreed (s.ring p body).1 := by
  unfold State.ring
  split
  · exact h
  · rename_i o _
    split
    · exact h
    · split
      · exact h
      · split
        · exact h
        · split
          · exact h
          · rename_i back ok
            exact (h.acceptRing p o (ringCheck_ok ok) back).finish

theorem Loose.ringStop (h : Agreed s) (p : Port) (l : LineNo) : Agreed (s.ringStop p l).1 := by
  unfold State.ringStop
  split
  · exact h
  · split
    case h_1 e => exact h.stopRing_return (.inl e) _
    case h_2 e => exact h.stopRing_return (.inr e) _
    case h_3 => exact h

theorem Loose.ringFinish (h : Agreed s) (p : Port) (l : LineNo) : Agreed (s.ringFinish p l).1 := by
  unfold State.ringFinish
  split
  · exact h
  · split
    case h_1 e =>
      obtain ⟨n, hn⟩ := Option.isSome_iff_exists.1 ((h.at_ l).rung.2 e)
      rw [hn]
      exact h.setEntry e _
    case h_2 e => exact h.stopRing_return (.inl e) _
    case h_3 => exact h

theorem Loose.setBudget (h : Agreed s) (p : Port) (body : List Byte) : Agreed (s.setBudget p body).1 := by
  unfold State.setBudget
  split
  · split
    · exact Loose.followBudgets h.of_eq
    · exact h
  · exact h

/-- Turns show in no view. -/
theorem sameViews_foldTurns (ws : List WaitingRequest) (s : State) :
    SameViews s (ws.foldl (fun s w => if s.alloc.turnThreshold ≤ w.passOvers then s.takeTurns w else s) s) := by
  induction ws generalizing s with
  | nil => exact ⟨rfl, fun _ => rfl⟩
  | cons w ws ih =>
    refine SameViews.trans ?_ (ih _)
    dsimp only
    split
    · exact sameViews_takeTurns s w
    · exact ⟨rfl, fun _ => rfl⟩

theorem Loose.setRingLimits (h : Agreed s) (p : Port) (body : List Byte) : Agreed (s.setRingLimits p body).1 := by
  unfold State.setRingLimits
  split
  · split
    · dsimp only
      generalize hq : ({ s with alloc := _ } : State) = q
      have limits : Agreed q := by
        rw [← hq]
        exact h.of_eq
      split
      · exact (sameViews_foldTurns _ q).loose limits
      · exact limits
    · exact h
  · exact h

/-! ## The requests of the Cadence Store -/

theorem unmoved_writeBlock (s : State) (g : ProgramNo) (fs : List StepFields) : Unmoved s (s.writeBlock g fs) :=
  unmoved_foldl (fun s _ => unmoved_setStep s _ _) _ s

theorem Loose.writeSteps (h : Agreed s) (p : Port) (body : List Byte) : Agreed (s.writeSteps p body).1 := by
  unfold State.writeSteps
  split
  · split
    · split
      · exact h
      · split
        · exact h
        · exact ((unmoved_writeBlock s _ _).trans (unmoved_setProgram _ _ _)).agreed h
    · exact h
  · exact h

theorem Loose.commitProgram (h : Agreed s) (p : Port) (body : List Byte) : Agreed (s.commitProgram p body).1 := by
  unfold State.commitProgram
  split
  · split
    · split
      · exact h
      · split
        · exact h
        · split
          · exact h
          · exact (unmoved_setProgram _ _ _).agreed h
    · exact h
  · exact h

theorem Loose.eraseProgram (h : Agreed s) (g : ProgramNo) : Agreed (s.eraseProgram g).1 := by
  unfold State.eraseProgram
  split
  · exact h
  · split
    · exact h
    · exact ((unmoved_writeBlock s g _).trans (unmoved_setProgram _ _ _)).agreed h

theorem Loose.readProgram (h : Agreed s) (g : ProgramNo) : Agreed (s.readProgram g).1 := by
  unfold State.readProgram
  dsimp only
  split
  · split
    · exact h.integrityFault g _
    · exact h
  · exact h

/-! ## The requests about the shelf -/

theorem Loose.setPlantLimits (h : Agreed s) (p : Port) (body : List Byte) : Agreed (s.setPlantLimits p body).1 := by
  unfold State.setPlantLimits
  split
  · exact (unmoved_setPlant _ _).agreed h
  · exact h

theorem Loose.setToneLimits (h : Agreed s) (p : Port) (body : List Byte) : Agreed (s.setToneLimits p body).1 := by
  unfold State.setToneLimits
  split
  · split
    · exact Loose.setTapLimit h.of_eq _
    · exact h
  · exact h

theorem Loose.setRoute (h : Agreed s) (p : Port) (body : List Byte) : Agreed (s.setRoute p body).1 := by
  unfold State.setRoute
  split
  · split
    · exact h.of_eq
    · exact h
  · exact h

theorem unmoved_setMark (s : State) (p : Port) (k : Option LineNo) (v : Bool) : Unmoved s (s.setMark p k v) :=
  unmoved_of_frame (s.setMark_frame p k v)

theorem unmoved_pushRecord (s : State) (p : Port) (r : Report) : Unmoved s (s.pushRecord p r) :=
  unmoved_of_frame (s.pushRecord_frame p r)

/-- A resync issue makes snapshots and clears marks, no more (R166). -/
theorem unmoved_resyncIssue (s : State) (p : Port) : Unmoved s (s.resyncIssue p) := by
  have line (s : State) (l : LineNo) : Unmoved s (resyncLine p s l) := by
    unfold resyncLine
    split
    · exact (unmoved_setMark s p _ _).trans (unmoved_pushRecord _ p _)
    · exact unmoved_refl s
  have shelf (s : State) : Unmoved s (resyncShelf p s) := by
    unfold resyncShelf
    split
    · exact (unmoved_setMark s p _ _).trans (unmoved_pushRecord _ p _)
    · exact unmoved_refl s
  exact (unmoved_foldl line allLines s).trans (shelf _)

theorem Loose.fetch (h : Agreed s) (p : Port) (body : List Byte) : Agreed (s.fetch p body).1 := by
  unfold State.fetch
  split
  · split
    · unfold fetchRecords
      dsimp only
      generalize hq : s.setQueue p _ = q
      have taken : Unmoved s q := hq ▸ unmoved_of_frame (s.setQueue_frame p _)
      split
      · exact (taken.trans (unmoved_resyncIssue q p)).agreed h
      · exact taken.agreed h
    · exact h
  · exact h

theorem Loose.setPortWindow (h : Agreed s) (p : Port) (body : List Byte) : Agreed (s.setPortWindow p body).1 := by
  unfold State.setPortWindow
  split
  · split
    · dsimp only
      exact (unmoved_modPort s p _).agreed h
    · exact h
  · exact h

theorem Loose.portRestart (h : Agreed s) (p : Port) (body : List Byte) : Agreed (s.portRestart p body).1 :=
  ((unmoved_modPort _ p _).trans (unmoved_of_frame (reportPortState_frame _ p _ _))).agreed (h.absence p .restart)

/-! ## Resets (R26, R27) -/

theorem right_reset_line {r : LineRecord} (state : r.state = .outOfService) (holder : r.holder = none) (orphan : r.orphan = false)
    (mark : r.recallMark = false) (port : r.offeredPort = none) (feed : r.feed = .reduced) (timer : r.timer = none) :
    LineRecordRight r := by
  simp [LineRecordRight, state, holder, orphan, mark, port, feed, timer, LineState.unheld, LineState.originating, LineState.feed]

/-- A part whose lines are all out of service and hold nothing keeps the structure. -/
theorem agreed_of_idle (queue : s.tone.queue = []) (taps : s.tone.taps = Vector.replicate 12 none) (waiting : s.alloc.queue = [])
    (entries : s.entries = Vector.replicate 64 none) (relays : s.relays = Vector.replicate 64 .released)
    (lines : ∀ k, (s.line k).state = .outOfService ∧ LineRecordRight (s.line k)) : Agreed s := by
  refine ⟨by simp [queue], fun k _ => ?_, fun k hk => by simp at hk⟩
  have entry : s.entry k = none := by simp [State.entry, entries]
  have bare : (s.view k).Bare := by
    refine ⟨?_, ?_, ?_, ?_, ?_⟩
    · simp [view, queue]
    · simp [view, taps]
    · simp [view, request, waiting]
    · simp [view, entry]
    · simp [view, relay, relays]
  exact bare.right (by simp [(lines k).1, LineState.holdsNothing]) (lines k).2

theorem agreed_reset : Agreed State.reset := by
  refine agreed_of_idle rfl rfl rfl rfl rfl fun k => ?_
  have line : State.reset.line k = .reset := by simp [line, State.reset]
  rw [line]
  exact ⟨rfl, right_reset_line rfl rfl rfl rfl rfl rfl rfl⟩

theorem kept_powerOn (s : State) : Kept s s.powerOn := ⟨fun _ => ⟨rfl, rfl⟩, fun _ => agreed_reset.of_eq⟩

theorem kept_shelfReset (s : State) (c : ResetCause) : Kept s (s.shelfReset c) := by
  refine ⟨fun _ => ⟨rfl, rfl⟩, fun _ => agreed_of_idle rfl rfl rfl rfl rfl fun k => ?_⟩
  have line : (s.shelfReset c).line k = (s.line k).shelfReset := by simp [State.line, State.shelfReset]
  rw [line]
  exact ⟨rfl, right_reset_line rfl rfl rfl rfl rfl rfl rfl⟩

/-! ## The clock, the scanner and the plant -/

theorem unmoved_sampleLine (s : State) (v : LineSenses) (t : Ms) (l : LineNo) : Unmoved s (s.sampleLine v t l) := by
  unfold State.sampleLine
  dsimp only
  have sampled (m : ScanRecord) (es : List ScanEvent) : Unmoved s ((s.setScan l m).setEvents l es) :=
    (unmoved_setScan s l m).trans (unmoved_setEvents _ l es)
  split
  · exact (sampled _ _).trans (unmoved_setBursts _ l _)
  · exact sampled _ _

theorem unmoved_sampleLines (s : State) (v : ShelfSample) (t : Ms) (c : CardNo) : Unmoved s (s.sampleLines v t c) :=
  unmoved_foldl (fun s l => s.unmoved_sampleLine _ t l) _ s

theorem unmoved_loseCard (s : State) (t : Ms) (c : CardNo) : Unmoved s (s.loseCard t c) :=
  unmoved_foldl (fun s l => (unmoved_setScan s l _).trans (unmoved_setEvents _ l _)) _ s

theorem unmoved_declareCard (s : State) (c : CardNo) (e : ScanEvent) : Unmoved s (s.declareCard c e) :=
  unmoved_foldl (fun s l => unmoved_setEvents s l _) _ s

theorem unmoved_scanCard (s : State) (v : ShelfSample) (t : Ms) (c : CardNo) : Unmoved s (s.scanCard v t c) := by
  unfold State.scanCard
  dsimp only
  generalize hq : s.setCard c _ = q
  have sensed : Unmoved s q := hq ▸ unmoved_setCard s c _
  refine sensed.trans ?_
  split
  · split
    · exact (unmoved_sampleLines q v t c).trans (unmoved_loseCard _ t c)
    · exact unmoved_loseCard q t c
  · exact unmoved_loseCard q t c
  · exact unmoved_declareCard q c _
  · exact unmoved_sampleLines q v t c
  · exact unmoved_refl q

/-- A scan instant moves the clock, the scanner and its notices (R28, R29). -/
theorem unmoved_scanShelf (s : State) (v : ShelfSample) : Unmoved s (s.scanShelf v) := by
  have clock (c : Clock) : Unmoved s { s with clock := c } := ⟨rfl, rfl, rfl, rfl, rfl, rfl, rfl⟩
  unfold State.scanShelf
  dsimp only
  exact (clock _).trans (unmoved_foldl (fun s c => s.unmoved_scanCard v _ c) _ _)

theorem unmoved_settleCard (s : State) (c : CardNo) : Unmoved s (s.settleCard c) :=
  (unmoved_setCard s c _).trans (unmoved_declareCard _ c _)

theorem unmoved_reportPresent (s : State) (b : ReportBody) : Unmoved s (s.reportPresent b) :=
  unmoved_of_frame (s.reportPresent_frame b)

theorem unmoved_restoreSense (s : State) (n : Nat) : Unmoved s (s.restoreSense n) := by
  unfold State.restoreSense
  split
  · exact (unmoved_setPlant s _).trans (unmoved_reportPresent _ _)
  · exact unmoved_refl s

theorem unmoved_declarePlant (s : State) (new : PlantState) (n : Nat) (r : PlantRun) : Unmoved s (s.declarePlant new n r) := by
  have handed (u : State) (a b : List PlantState) : Unmoved u { u with allocPlant := a, tonePlant := b } :=
    ⟨rfl, rfl, rfl, rfl, rfl, rfl, rfl⟩
  exact ((unmoved_setPlant s _).trans (unmoved_reportPresent _ (.plantState new s.plant.state n r))).trans (handed _ _ _)

theorem unmoved_goodWord (s : State) (n : Nat) : Unmoved s (s.goodWord n) := by
  unfold State.goodWord
  dsimp only
  generalize hq : (s.restoreSense n).setPlant _ = q
  have applied : Unmoved s q := hq ▸ (unmoved_restoreSense s n).trans (unmoved_setPlant _ _)
  split
  · exact applied.trans (unmoved_declarePlant q _ n _)
  · exact applied

theorem unmoved_senseExpired (s : State) : Unmoved s s.senseExpired :=
  (unmoved_setPlant s _).trans (unmoved_reportPresent _ _)

theorem unmoved_takeAfresh (s : State) (l : LineNo) : Unmoved s (s.takeAfresh l) := by
  unfold State.takeAfresh
  split
  · exact ⟨rfl, rfl, rfl, rfl, rfl, rfl, rfl⟩
  · exact unmoved_refl s

/-- A notice of a burst changes an entry that stays (R127). -/
theorem kept_fedBurst (s : State) (l : LineNo) : Kept s (s.fedBurst l) := by
  unfold State.fedBurst
  split
  · rename_i e he
    split
    · exact ⟨id, fun h => h.setEntry (h.ringing_of_entry he) _⟩
    · exact kept_refl s
  · exact kept_refl s

theorem Kept.trans (a : Kept s t) (b : Kept t u) : Kept s u := ⟨fun h => b.settled (a.settled h), fun h => b.agreed (a.agreed h)⟩

/-- A slot boundary (R125) moves the clock and counts at the entries. -/
theorem kept_slotBoundary (s : State) : Kept s s.advanceSlot.countSlots :=
  ⟨id, fun h => Loose.countSlots h.of_eq⟩

theorem Loose.takeAllocPlant (h : Agreed s) (p : PlantState) : Agreed (s.takeAllocPlant p) := Loose.followBudgets h.of_eq

theorem Loose.takeTonePlant (h : Agreed s) (p : PlantState) : Agreed (s.takeTonePlant p) := Loose.setTapLimit h.of_eq _

/-! ## The events at a line record -/

theorem Loose.dropEvent (h : Agreed s) (l : LineNo) : Agreed (s.dropEvent l) := h.of_eq

theorem Loose.takeCardEvent {act : State → LineNo → State} (step : ∀ {s : State}, Agreed s → ∀ l, Agreed (act s l)) (h : Agreed s)
    (c : CardNo) : Agreed (s.takeCardEvent c act) :=
  (Loose.foldLines (fun h l => step (h.dropEvent l) l) (cardLines c) h).finish

/-- The timer's purpose runs in the state of a line whose expiry is there to be taken (R6). -/
theorem runsIn_of_expired {p : TimerPurpose} (h : s.timerExpired l p = true) : p.runsIn (s.line l).state = true := by
  unfold State.timerExpired at h
  split at h
  · simp only [Bool.and_eq_true] at h
    exact h.2
  · simp at h

/-- An event that is taken when it is there, ended by grants and passes. -/
theorem takes_if {c : Prop} [Decidable c] (h : c → Agreed s → Agreed t) : Takes s (.next (if c then t.finish else s)) := by
  split
  · rename_i there
    exact (kept_finish (h there)).takes
  · exact takes_refl s

theorem takes_cardEvent {c : CardNo} {is : ScanEvent → Bool} {act : State → LineNo → State}
    (step : ∀ {s : State}, Agreed s → ∀ l, Agreed (act s l)) (s : State) :
    Takes s (.next (if s.cardEventDue c is then s.takeCardEvent c act else s)) :=
  takes_if fun _ h => Loose.foldLines (fun h l => step (h.dropEvent l) l) (cardLines c) h

end Sys2Proof.Machine.State
end

section
/-! PROOFS. What every command answers, and the obligations on the step: O2, O3, O5. -/

namespace Sys2Proof.Machine.State

open Sys2Proof.Safety

variable {s t u : State} {l : LineNo}

/-! ## The ports (R150-R157) -/

theorem takes_receiveByte (p : Port) (b : Byte) (s : State) : Takes s (execReceiveByte p b s) :=
  (unmoved_modPort s p _).kept.takes

theorem takes_frameByteTimeout (p : Port) (s : State) : Takes s (execFrameByteTimeout p s) := by
  unfold execFrameByteTimeout
  split
  · split
    · exact (unmoved_modPort s p _).kept.takes
    · exact takes_refl s
  · exact takes_refl s

theorem takes_answerMark (p : Port) (s : State) : Takes s (execAnswerMark p s) := by
  unfold execAnswerMark
  split
  · exact (unmoved_modPort s p _).kept.takes
  · exact takes_refl s

theorem takes_unknownKind (p : Port) (s : State) : Takes s (execUnknownKind p s) := by
  unfold execUnknownKind
  split
  · rename_i k _ rest _
    split
    · exact takes_refl s
    · exact ((unmoved_modPort s p _).trans (unmoved_respond _ p k (.refuse .unknownKind))).kept.takes
  · exact takes_refl s

theorem settled_absence (s : State) (p : Port) (c : PortStateCause) : Settled (s.absence p c) := settled_finish _

theorem takes_presenceDeadlineExpiry (p : Port) (s : State) : Takes s (execPresenceDeadlineExpiry p s) := by
  unfold execPresenceDeadlineExpiry
  split
  · exact Kept.takes ⟨fun _ => settled_absence s p .window, fun h => h.absence p .window⟩
  · exact takes_refl s

/-! ## The scanner's commands and indications (R40, R44, R45) -/

/-- A command taken at the scanner. -/
theorem kept_command (s : State) (l : LineNo) (cs : List ScanCommand) (m : ScanMode) :
    Kept s ((s.setCommands l cs).setMode l m) :=
  ((unmoved_setCommands s l cs).trans (unmoved_setScan _ l _)).kept

/-- An indication taken at the scanner. -/
theorem kept_indication (s : State) (l : LineNo) (is : List RingIndication) (m : ScanMode) :
    Kept s ((s.setIndications l is).setMode l m) :=
  ((unmoved_setIndications s l is).trans (unmoved_setScan _ l _)).kept

theorem takes_takeAfresh (l : LineNo) (s : State) : Takes s (execTakeAfresh l s) := by
  unfold execTakeAfresh
  split
  · rename_i rest _
    exact ((unmoved_setCommands s l rest).trans (unmoved_takeAfresh _ l)).kept.takes
  · exact takes_refl s

theorem takes_discardPulseCount (l : LineNo) (s : State) : Takes s (execDiscardPulseCount l s) := by
  unfold execDiscardPulseCount
  split
  · exact (kept_command s l _ _).takes
  · exact takes_refl s

theorem takes_stepOn (l : LineNo) (s : State) : Takes s (execStepOn l s) := by
  unfold execStepOn
  split
  · exact (kept_indication s l _ _).takes
  · exact takes_refl s

theorem takes_stepOff (l : LineNo) (s : State) : Takes s (execStepOff l s) := by
  unfold execStepOff
  split
  · exact (kept_indication s l _ _).takes
  · exact takes_refl s

theorem takes_ringEnd (l : LineNo) (s : State) : Takes s (execRingEnd l s) := by
  unfold execRingEnd
  split
  · exact (kept_indication s l _ _).takes
  · exact takes_refl s

theorem takes_cardSettleTimeout (c : CardNo) (s : State) : Takes s (execCardSettleTimeout c s) := by
  unfold execCardSettleTimeout
  split
  · exact (unmoved_settleCard s c).kept.takes
  · exact takes_refl s

/-! ## The Sequencer and the plant (R117-R130, R142, R143) -/

theorem takes_burstFed (l : LineNo) (s : State) : Takes s (execBurstFed l s) := by
  unfold execBurstFed
  split
  · exact ((unmoved_setBursts s l _).kept.trans (kept_fedBurst _ l)).takes
  · exact takes_refl s

theorem takes_stepEnd (l : LineNo) (s : State) : Takes s (execStepEnd l s) := by
  unfold execStepEnd
  split
  · rename_i e he
    exact takes_if fun _ h => h.stepEnded he
  · exact takes_refl s

theorem takes_waitLimitExpiry (l : LineNo) (s : State) : Takes s (execWaitLimitExpiry l s) := by
  unfold execWaitLimitExpiry
  split
  · rename_i w waits
    split
    · exact (kept_finish fun h => h.failRing_return (.inl (h.ringWait_of_request waits)) .waitLimit).takes
    · exact takes_refl s
  · exact takes_refl s

theorem takes_levelWord (w : LevelWord) (s : State) : Takes s (execLevelWord w s) := by
  unfold execLevelWord
  split
  · exact takes_refl s
  · exact (unmoved_goodWord s _).kept.takes

theorem takes_senseTimerExpiry (s : State) : Takes s (execSenseTimerExpiry s) := by
  unfold execSenseTimerExpiry
  split
  · exact (unmoved_senseExpired s).kept.takes
  · exact takes_refl s

theorem takes_ringAllocatorPlantChange (s : State) : Takes s (execRingAllocatorPlantChange s) := by
  unfold execRingAllocatorPlantChange
  split
  · rename_i p rest _
    have read : Unmoved s { s with allocPlant := rest } := ⟨rfl, rfl, rfl, rfl, rfl, rfl, rfl⟩
    exact (kept_finish fun h => (read.agreed h).takeAllocPlant p).takes
  · exact takes_refl s

theorem takes_tapLimitChange (s : State) : Takes s (execTapLimitChange s) := by
  unfold execTapLimitChange
  split
  · rename_i p rest _
    have read : Unmoved s { s with tonePlant := rest } := ⟨rfl, rfl, rfl, rfl, rfl, rfl, rfl⟩
    exact (kept_finish fun h => (read.agreed h).takeTonePlant p).takes
  · exact takes_refl s

/-! ## The events at a line (R31) -/

/-- An event taken from the head of a line's event queue. -/
theorem kept_event {act : State → State} (keeps : ∀ {u}, Agreed u → Agreed (act u)) (s : State) (l : LineNo) :
    Kept s (act (s.dropEvent l)).finish :=
  kept_finish fun h => keeps (h.dropEvent l)

theorem takes_offHook (l : LineNo) (s : State) : Takes s (execOffHook l s) := by
  unfold execOffHook
  split
  · exact (kept_event (fun h => h.lifted l .offHook none) s l).takes
  · exact takes_refl s

theorem takes_pulse (l : LineNo) (s : State) : Takes s (execPulse l s) := by
  unfold execPulse
  split
  · exact (kept_event (fun h => h.pulsed l) s l).takes
  · exact takes_refl s

theorem takes_flash (l : LineNo) (s : State) : Takes s (execFlash l s) := by
  unfold execFlash
  split
  · exact (kept_event (fun h => h.flashed l _) s l).takes
  · exact takes_refl s

theorem takes_badBreak (l : LineNo) (s : State) : Takes s (execBadBreak l s) := by
  unfold execBadBreak
  split
  · exact (kept_event (fun h => h.badBroken l _ _) s l).takes
  · exact takes_refl s

theorem takes_disconnect (l : LineNo) (s : State) : Takes s (execDisconnect l s) := by
  unfold execDisconnect
  split
  · exact (kept_event (fun h => h.hungUp l _ _) s l).takes
  · exact takes_refl s

theorem takes_digitEnd (l : LineNo) (s : State) : Takes s (execDigitEnd l s) := by
  unfold execDigitEnd
  split
  · exact (kept_event (fun h => h.digitEnded l _ _) s l).takes
  · exact takes_refl s

theorem takes_answer (l : LineNo) (s : State) : Takes s (execAnswer l s) := by
  unfold execAnswer
  split
  · rename_i q kind _ _ _
    exact (kept_event (fun h => h.lifted l q (some kind)) s l).takes
  · exact takes_refl s

/-! ## The expiries at a line (R6) -/

theorem originating_of_firstDigit (h : s.timerExpired l .firstDigit = true) : (s.line l).state.originating = true := by
  have runs := runsIn_of_expired h
  unfold TimerPurpose.runsIn at runs
  unfold LineState.originating
  split at runs <;> simp_all

theorem digits_of_interdigit (h : s.timerExpired l .interdigit = true) : (s.line l).state = .digits := by
  have runs := runsIn_of_expired h
  unfold TimerPurpose.runsIn at runs
  split at runs <;> simp_all

theorem recalling_of_recallWindow (h : s.timerExpired l .recallWindow = true) : (s.line l).state = .recalling := by
  have runs := runsIn_of_expired h
  unfold TimerPurpose.runsIn at runs
  split at runs <;> simp_all

theorem cleared_of_releaseWait (h : s.timerExpired l .releaseWait = true) : (s.line l).state = .cleared := by
  have runs := runsIn_of_expired h
  unfold TimerPurpose.runsIn at runs
  split at runs <;> simp_all

theorem parked_of_parkRelease (h : s.timerExpired l .parkRelease = true) : (s.line l).state = .parked := by
  have runs := runsIn_of_expired h
  unfold TimerPurpose.runsIn at runs
  split at runs <;> simp_all

theorem Loose.offerAdvance (h : Agreed s) (due : s.offerAdvanceDue l = true) : Agreed (s.advanceOffer l) := by
  simp only [offerAdvanceDue, Bool.and_eq_true] at due
  exact h.advanceOffer due.1.1 due.1.2

/-! ## Every command -/

/-- Every command answers a next state that leaves nothing owed and keeps the structure. -/
theorem exec_takes (c : Instr) (s : State) : Takes s (exec c s) := by
  cases c with
  | powerOnReset => exact (kept_powerOn s).takes
  | resetInput => exact (kept_shelfReset s .resetInput).takes
  | shelfResetTakesEffect =>
    show Takes s (.next (if s.shelfResetDue then s.shelfReset .shelfResetRequest else s))
    split
    · exact (kept_shelfReset s .shelfResetRequest).takes
    · exact takes_refl s
  | receiveByte p b => exact takes_receiveByte p b s
  | frameByteTimeout p => exact takes_frameByteTimeout p s
  | answerMark p => exact takes_answerMark p s
  | unknownKind p => exact takes_unknownKind p s
  | lineQuery p => exact takes_request (agreed_onLine fun _ _ h => h) s
  | adopt p => exact takes_request (agreed_onLine fun _ l h => h.adopt p l) s
  | claim p => exact takes_request (agreed_onLineAndCount fun _ l n h => h.claim p l n) s
  | endTone p => exact takes_request (agreed_onLine fun _ l h => h.endTone p l) s
  | connect p => exact takes_request (agreed_onLine fun _ l h => h.connect p l) s
  | giveTone p => exact takes_request (agreed_onLineAndCount fun _ l n h => h.giveTone p l n) s
  | keepCall p => exact takes_request (agreed_onLine fun _ l h => h.keepCall p l) s
  | release p => exact takes_request (agreed_onLine fun _ l h => h.release p l) s
  | ring p => exact takes_request (fun _ body h => h.ring p body) s
  | ringStop p => exact takes_request (agreed_onLine fun _ l h => h.ringStop p l) s
  | ringFinish p => exact takes_request (agreed_onLine fun _ l h => h.ringFinish p l) s
  | setLine p => exact takes_request (fun _ body h => h.setLineConfig p body) s
  | setClass p => exact takes_request (fun _ body h => h.setClassValues p body) s
  | park p => exact takes_request (agreed_onLine fun _ l h => h.parkLine p l) s
  | unpark p => exact takes_request (agreed_onLine fun _ l h => h.unparkLine p l) s
  | removeLine p => exact takes_request (agreed_onLine fun _ l h => h.removeLine p l) s
  | restoreLine p => exact takes_request (agreed_onLine fun _ l h => h.restoreLine p l) s
  | forceRelease p => exact takes_request (agreed_onLine fun _ l h => h.forceRelease p l) s
  | writeSteps p => exact takes_request (fun _ body h => h.writeSteps p body) s
  | commitProgram p => exact takes_request (fun _ body h => h.commitProgram p body) s
  | eraseProgram p => exact takes_request (agreed_onProgram fun _ g h => h.eraseProgram g) s
  | readProgram p => exact takes_request (agreed_onProgram fun _ g h => h.readProgram g) s
  | setBudget p => exact takes_request (fun _ body h => h.setBudget p body) s
  | setRingLimits p => exact takes_request (fun _ body h => h.setRingLimits p body) s
  | setPlantLimits p => exact takes_request (fun _ body h => h.setPlantLimits p body) s
  | setToneLimits p => exact takes_request (fun _ body h => h.setToneLimits p body) s
  | setRoute p => exact takes_request (fun _ body h => h.setRoute p body) s
  | fetch p => exact takes_request (fun _ body h => h.fetch p body) s
  | status p => exact takes_request (fun _ _ h => h) s
  | setPort p => exact takes_request (fun _ body h => h.setPortWindow p body) s
  | portRestart p => exact takes_request (fun _ body h => h.portRestart p body) s
  | shelfReset p => exact takes_request (fun _ _ h => h.of_eq) s
  | presenceDeadlineExpiry p => exact takes_presenceDeadlineExpiry p s
  | scanInstant sample => exact (unmoved_scanShelf s sample).kept.takes
  | cardSettleTimeout c => exact takes_cardSettleTimeout c s
  | offHook l => exact takes_offHook l s
  | pulse l => exact takes_pulse l s
  | flash l => exact takes_flash l s
  | badBreak l => exact takes_badBreak l s
  | disconnect l => exact takes_disconnect l s
  | digitEnd l => exact takes_digitEnd l s
  | answer l => exact takes_answer l s
  | cardLoss c => exact takes_cardEvent (fun h l => h.lineCardLost l) s
  | cardPresent c => exact takes_cardEvent (fun h l => h.lineCardPresent l) s
  | cardSettled c => exact takes_cardEvent (fun h l => h.lineCardSettled l) s
  | takeAfresh l => exact takes_takeAfresh l s
  | discardPulseCount l => exact takes_discardPulseCount l s
  | stepOn l => exact takes_stepOn l s
  | stepOff l => exact takes_stepOff l s
  | ringEnd l => exact takes_ringEnd l s
  | burstFed l => exact takes_burstFed l s
  | slotBoundary => exact (kept_slotBoundary s).takes
  | stepEnd l => exact takes_stepEnd l s
  | waitLimitExpiry l => exact takes_waitLimitExpiry l s
  | offerAdvance l => exact takes_if fun due h => h.offerAdvance due
  | firstDigitExpiry l => exact takes_if fun due h => h.firstDigitExpired (originating_of_firstDigit due)
  | interdigitExpiry l => exact takes_if fun due h => h.interdigitExpired (digits_of_interdigit due)
  | recallWindowExpiry l => exact takes_if fun due h => h.recallLapsed (recalling_of_recallWindow due)
  | releaseWaitExpiry l => exact takes_if fun due h => h.releaseCleared (cleared_of_releaseWait due)
  | parkReleaseExpiry l =>
    exact takes_if fun due h => Loose.unparkToIdle (h.opened (by rw [parked_of_parkRelease due]; rfl))
  | toneDelayExpiry l => exact takes_if fun _ h => h.toneDelayed l
  | levelWord w => exact takes_levelWord w s
  | senseTimerExpiry => exact takes_senseTimerExpiry s
  | ringAllocatorPlantChange => exact takes_ringAllocatorPlantChange s
  | tapLimitChange => exact takes_tapLimitChange s

/-- One step answers a next state that leaves nothing owed and keeps the structure. -/
theorem step_takes (s : State) : Takes s (Machine.step s) := by
  have queue (rest : List Instr) : Unmoved s { s with pending := rest } := ⟨rfl, rfl, rfl, rfl, rfl, rfl, rfl⟩
  have clock : Unmoved s s.tick := ⟨rfl, rfl, rfl, rfl, rfl, rfl, rfl⟩
  unfold Machine.step
  split
  · rename_i c rest _
    obtain ⟨t, eq, kept⟩ := exec_takes c { s with pending := rest }
    exact ⟨t, eq, (queue rest).kept.trans kept⟩
  · exact clock.kept.takes

/-- The step's answer keeps the invariants. -/
theorem kept_of_step (h : Machine.step s = .next t) : Kept s t := by
  obtain ⟨u, eq, kept⟩ := step_takes s
  rw [eq, Host.Outcome.next.injEq] at h
  exact h ▸ kept

/-! ## The obligations -/

/-- Settles O2: every command answers a next state, and so does a millisecond that passes with nothing to take. -/
theorem everyStepAnswersANextState : Obligations.EveryStepAnswersANextState := by
  intro s
  obtain ⟨t, eq, -⟩ := step_takes s
  exact ⟨t, eq⟩

/-- Settles O3: an event ends in `finish`, which leaves nothing owed, or moves neither mark. -/
theorem stepKeepsSettled : Obligations.StepKeepsSettled :=
  fun _ _ settled next => (kept_of_step next).settled settled

/-- Settles O5: line by line, the record, the tone queue, the taps, the ring queue, the ring table and the relays agree before
and after every event; each operation opens the line it moves and closes it in the state it enters. -/
theorem stepKeepsTheStructureConsistent : Obligations.StepKeepsTheStructureConsistent := by
  intro s t consistent next
  obtain ⟨settled, agreed⟩ := consistent_iff.1 consistent
  have kept := kept_of_step next
  exact consistent_iff.2 ⟨kept.settled settled, kept.agreed agreed⟩

end Sys2Proof.Machine.State
end

section
/-! PROOFS. Taking a request in a settled part, and the two resets (R26, R27, R161): the obligations O6 and O60. -/

namespace Sys2Proof.Machine.State

open Sys2Proof.Safety

variable {s v : State} {p : Port} {l : LineNo}

/-! ## Requests taken in a settled part -/

theorem settled_taken (h : Settled s) (p : Port) (rest : List ReplyItem) : Settled (taken s p rest) := by
  simpa [Settled] using h

theorem finish_settled (h : Settled s) : s.finish = s := s.finish_eq h.1 h.2

/-- A request whose body fits and which the port may make is answered as its owner answers it, when nothing is owed after that. -/
theorem takeRequest_settled {kind : Nat} {body : List Byte} {rest : List ReplyItem} {owner : State → Port → List Byte → State × Reply}
    {r : Reply} (asks : Asks s p kind body rest) (small : kind < 256) (fits : bodyFits kind body = true)
    (may : permitted kind body p = true) (owns : owner (taken s p rest) p body = (v, r)) (settled : Settled v) :
    takeRequest kind p owner s = .next (v.respond p (byteOf kind) r) := by
  rw [takeRequest_of_asks asks small, handOver_ok fits may, owns]
  simp only [finish_settled settled]

/-! ## The part after a reset -/

/-- What both resets leave (R26, R27, R28, R49, R60, R122, R161, R168): the clock at its start, the cards settling, no entry, no
request, no notice, no command and empty report queues. -/
structure Cleared (t : State) : Prop where
  clock : t.clock = ⟨0, 0, 200, 0⟩
  due : t.shelfResetDue = false
  lines : ∀ l, t.scan l = ⟨.out, false⟩ ∧ t.entry l = none ∧ t.relay l = .released
    ∧ t.eventsOf l = [] ∧ t.burstsOf l = [] ∧ t.commandsOf l = [] ∧ t.indicationsOf l = []
  cards : ∀ c, t.card c = ⟨.settling, some 0, false⟩
  waiting : t.alloc.queue = []
  stamp : t.alloc.lastStamp = 0
  allocPlant : t.allocPlant = []
  tonePlant : t.tonePlant = []
  settled : Settled t
  queues : ∀ p, t.queue p = ⟨[], Vector.replicate 64 false, false⟩

theorem cleared_reset : Cleared State.reset where
  clock := rfl
  due := rfl
  lines l := by
    simp [State.reset, scan, entry, relay, eventsOf, burstsOf, commandsOf, indicationsOf]
  cards c := by simp [State.reset, card]
  waiting := rfl
  stamp := rfl
  allocPlant := rfl
  tonePlant := rfl
  settled := ⟨rfl, rfl⟩
  queues p := by cases p <;> rfl

theorem cleared_powerOn (s : State) : Cleared s.powerOn :=
  ⟨cleared_reset.clock, cleared_reset.due, cleared_reset.lines, cleared_reset.cards, cleared_reset.waiting, cleared_reset.stamp,
    cleared_reset.allocPlant, cleared_reset.tonePlant, cleared_reset.settled, cleared_reset.queues⟩

theorem cleared_shelfReset (s : State) (c : ResetCause) : Cleared (s.shelfReset c) where
  clock := rfl
  due := rfl
  lines l := by
    simp [shelfReset, State.reset, scan, entry, relay, eventsOf, burstsOf, commandsOf, indicationsOf]
  cards c := by simp [shelfReset, State.reset, card]
  waiting := rfl
  stamp := rfl
  allocPlant := rfl
  tonePlant := rfl
  settled := ⟨rfl, rfl⟩
  queues p := by cases p <;> rfl

theorem line_reset (l : LineNo) : State.reset.line l = .reset := by simp [line, State.reset]

theorem line_shelfReset (s : State) (c : ResetCause) (l : LineNo) : (s.shelfReset c).line l = (s.line l).shelfReset := by
  simp [line, shelfReset]

theorem program_reset (g : ProgramNo) : State.reset.program g = .reset g := by simp [program, State.reset]

theorem program_shelfReset (s : State) (c : ResetCause) (g : ProgramNo) :
    (s.shelfReset c).program g = { s.program g with uses := 0 } := by
  simp [program, shelfReset]

theorem step_reset (n : StepNo) : State.reset.step n = .reset n := by simp [step, State.reset]

theorem classOf_reset (c : ClassNo) : State.reset.classOf c = .default := by simp [classOf, State.reset]

theorem supply_reset (u : Supply) : State.reset.supply u = .reset := by cases u <;> rfl

/-- The default routes, by the kind of the report (R162). -/
theorem defaultRoutes_of_kind (i : Fin 22) (b : ReportBody) :
    b.kind = 66 + i.val → defaultRoutes[i]
      = (match b with
         | .releaseForced | .ringFailed .. | .lineParked .. | .lineLost => .holderAndM
         | .ringCancelled .. | .lineUnparked | .lineRestored | .orphaned | .toneDelay .. => .m
         | .unclassifiedBreak .. => .none
         | _ => .holder) := by
  obtain ⟨i, small⟩ := i
  intro h
  obtain rfl : i = b.kind - 66 := by simp only at h; omega
  cases b <;> simp [ReportBody.kind, defaultRoutes] at h small ⊢

/-! ## The books of ringing after power-on reset -/

/-- No line has a ring after power-on reset. -/
theorem ringOf_reset (l : LineNo) : State.reset.ringOf l = none := by
  simp [ringOf, (cleared_reset.lines l).2.1, request, cleared_reset.waiting]

theorem ringsOn_reset (g : ProgramNo) : State.reset.ringsOn g = [] := by
  simp [ringsOn, ringOf_reset]

theorem loadMapsAddUp_reset : LoadMapsAddUp State.reset := by
  intro u x
  have nothing : loadOn State.reset u x = fun _ => 0 := by
    funext l
    simp [loadOn, (cleared_reset.lines l).2.1]
  simp [supply_reset, SupplyRecord.reset, nothing]

theorem budgetsRight_reset : BudgetsRight State.reset := by
  intro u
  rw [supply_reset]
  exact ⟨rfl, fun x => by simp [SupplyRecord.reset]⟩

theorem usesRight_reset : UsesRight State.reset := by
  intro g
  have uses : (ProgramEntry.reset g).uses = 0 := by
    unfold ProgramEntry.reset
    split <;> rfl
  simp [ringsOn_reset, program_reset, uses]

theorem ringAccountsRight_reset : RingAccountsRight State.reset := by
  refine ⟨loadMapsAddUp_reset, budgetsRight_reset, usesRight_reset, ?_, ?_⟩
  · simp [WaitQueueRight, cleared_reset.waiting]
  · intro u l turn
    simp [supply_reset, SupplyRecord.reset] at turn

theorem reportQueuesRight_reset : ReportQueuesRight State.reset := by
  intro p
  rw [cleared_reset.queues]
  exact ⟨Nat.zero_le _, by cases p <;> rfl⟩

theorem inputHoldsRight_reset : InputHoldsRight State.reset := by
  intro p
  have reply : (State.reset.port p).reply = [] := by cases p <;> rfl
  simp [reply, heldCount]

/-- Settles O6: after power-on reset every line is out of service and holds nothing, and every queue, map and count is empty. -/
theorem invariantsHoldAtReset : Obligations.InvariantsHoldAtReset :=
  ⟨consistent_iff.2 ⟨cleared_reset.settled, agreed_reset⟩, reportQueuesRight_reset, inputHoldsRight_reset, ringAccountsRight_reset⟩

/-! ## The commands of the resets -/

theorem exec_shelfReset_of_asks {rest : List ReplyItem} (settled : Settled s) (asks : Asks s .M 32 [] rest) :
    exec (.shelfReset .M) s = .next ({ taken s .M rest with shelfResetDue := true }.respond .M 32#8 .ok) :=
  takeRequest_settled asks (by decide) rfl rfl rfl (settled_taken settled .M rest)

theorem exec_shelfResetTakesEffect_of_not_due (h : s.shelfResetDue = false) : exec .shelfResetTakesEffect s = .next s := by
  show Host.Outcome.next (if s.shelfResetDue then _ else s) = .next s
  simp [h]

/-- The command that a shelf reset is taken by, with its cause. -/
theorem exec_of_shelfReset {c : Instr} {cause : ResetCause}
    (h : (c = .resetInput ∧ cause = .resetInput)
      ∨ (c = .shelfResetTakesEffect ∧ s.shelfResetDue = true ∧ cause = .shelfResetRequest)) :
    exec c s = .next (s.shelfReset cause) := by
  rcases h with ⟨rfl, rfl⟩ | ⟨rfl, due, rfl⟩
  · rfl
  · show Host.Outcome.next (if s.shelfResetDue then _ else s) = _
    simp [due]

/-- Settles O60, by reading each block of `powerOn` and `shelfReset`. -/
theorem resetsSetTheBlocks : Obligations.ResetsSetTheBlocks := by
  unfold Obligations.ResetsSetTheBlocks
  dsimp only
  refine ⟨⟨?request, ?notDue, ?shelf⟩, ?power⟩
  case request => exact fun s rest => exec_shelfReset_of_asks
  case notDue => exact fun s => exec_shelfResetTakesEffect_of_not_due
  case shelf =>
    intro s c cause command
    obtain ⟨clock, due, lines, cards, waiting, stamp, allocPlant, tonePlant, settled, queues⟩ := cleared_shelfReset s cause
    refine ⟨s.shelfReset cause, exec_of_shelfReset command,
      ⟨clock, due, lines, cards, waiting, stamp, allocPlant, tonePlant, settled, queues⟩, rfl, rfl, rfl, rfl, rfl, ?_, ?_, ?_, ?_, rfl,
      rfl, rfl, rfl, ?_⟩
    · exact fun l => line_shelfReset s cause l
    · exact fun g => program_shelfReset s cause g
    · rfl
    · intro u
      cases u <;> rfl
    · intro p
      cases p <;> rfl
  case power =>
    intro s
    obtain ⟨clock, due, lines, cards, waiting, stamp, allocPlant, tonePlant, settled, queues⟩ := cleared_powerOn s
    refine ⟨s.powerOn, rfl, ⟨clock, due, lines, cards, waiting, stamp, allocPlant, tonePlant, settled, queues⟩, rfl, rfl, line_reset,
      classOf_reset, rfl, step_reset, program_reset 0, ?_, supply_reset, rfl, rfl, rfl, rfl, rfl, rfl, rfl, defaultRoutes_of_kind⟩
    intro g other
    exact (program_reset g).trans (if_neg other)

end Sys2Proof.Machine.State
end

section
/-! PROOFS. Queries, adoption, and the configuration requests (R8, R11, R13-R15, R19, R21, R160): the obligations O18, O19, O20, O21 and
O23. -/

namespace Sys2Proof.Machine.State

open Sys2Proof.Safety

variable {s v : State} {p : Port} {l : LineNo}

/-! ## The snapshots (R172) -/

theorem optTime_length (t : Option Ms) : (optTime t).length = 4 := by cases t <;> rfl

theorem optLevel_length (n : Option Nat) : (optLevel n).length = 2 := by cases n <;> rfl

theorem bytes4_length (n : Nat) : (bytes4 n).length = 4 := rfl

theorem digitPlaces_length (ds : List Digit) : (digitPlaces ds).length = 16 := by simp [digitPlaces]

theorem partyPlaces_length (ps : List Party) : (partyPlaces ps).length = 8 := by
  match ps with
  | [] | [_] | [_, _] | [_, _, _] | _ :: _ :: _ :: _ :: _ => rfl

theorem ringPart_length (s : State) (l : LineNo) : (s.ringPart l).length = 18 := by
  unfold ringPart
  split
  · rfl
  · split <;> rfl

theorem lineSnapshot_length (s : State) (l : LineNo) : (s.lineSnapshot l).length = 79 := by
  simp [lineSnapshot, optTime_length, bytes4_length, digitPlaces_length, partyPlaces_length, ringPart_length]

theorem statusData_length (s : State) : s.statusData.length = 30 := rfl

theorem shelfSnapshot_length (s : State) : s.shelfSnapshot.length = 36 := by
  simp [shelfSnapshot, statusData_length, optLevel_length, optTime_length]

theorem hookCode_eq (h : Hook) : h.code = if h = .off then 1 else 0 := by cases h <;> rfl

theorem boolCode_eq (b : Bool) : boolCode b = if b then 1 else 0 := by cases b <;> rfl

/-- Where the fields that O18 names stand in a line snapshot. -/
theorem lineSnapshot_places (s : State) (l : LineNo) :
    (s.lineSnapshot l)[0]? = some (byteOf l.val)
    ∧ (s.lineSnapshot l)[1]? = some (byteOf (s.line l).state.code)
    ∧ (s.lineSnapshot l)[2]? = some (byteOf (s.line l).hook.code)
    ∧ (s.lineSnapshot l)[3]? = some (byteOf (portCode (s.line l).holder))
    ∧ (s.lineSnapshot l)[13]? = some (byteOf (s.line l).digits.length)
    ∧ (s.lineSnapshot l)[30]? = some (byteOf (s.line l).expected)
    ∧ (s.lineSnapshot l)[44]? = some (byteOf (boolCode (s.line l).admin))
    ∧ (s.lineSnapshot l)[48]? = some (byteOf (s.line l).cls.val)
    ∧ (s.lineSnapshot l)[49]? = some (byteOf (s.line l).parties.length)
    ∧ (s.lineSnapshot l)[78]? = some (byteOf (s.line l).delivered) := by
  simp [lineSnapshot, List.getElem_append, optTime_length, bytes4_length, digitPlaces_length, partyPlaces_length, ringPart_length]

/-! ## Requests about one line -/

/-- A request whose body is one line, made by a port that may make it, is answered as its owner answers it. -/
theorem takeRequest_line {kind : Nat} {rest : List ReplyItem} {act : State → Port → LineNo → State × Reply} {r : Reply}
    (asks : Asks s p kind [byteOf l.val] rest) (small : kind < 256) (fits : bodyFits kind [byteOf l.val] = true)
    (may : permitted kind [byteOf l.val] p = true) (acts : act (taken s p rest) p l = (v, r)) (settled : Settled v) :
    takeRequest kind p (State.onLine act) s = .next (v.respond p (byteOf kind) r) :=
  takeRequest_settled asks small fits may (by rw [onLine_byteOf, acts]) settled

/-- Settles O18: the owners of LINE QUERY and STATUS answer with data and return the part as they found it. -/
theorem queriesAnswerAndChangeNothing : Obligations.QueriesAnswerAndChangeNothing := by
  refine ⟨fun s p rest settled => ⟨fun l asks => ?_, fun asks => ?_⟩, fun s l => ?_⟩
  · exact takeRequest_line asks (by decide) rfl rfl rfl (settled_taken settled p rest)
  · exact takeRequest_settled asks (by decide) rfl rfl rfl (settled_taken settled p rest)
  · rw [← hookCode_eq, ← boolCode_eq]
    obtain ⟨line, state, hook, holder, digits, expected, admin, cls, parties, delivered⟩ := lineSnapshot_places s l
    exact ⟨lineSnapshot_length s l, statusData_length s, shelfSnapshot_length s, line, state, hook, holder, digits, expected, admin,
      cls, parties, delivered, rfl, rfl, rfl, rfl⟩

/-- Settles O19, by the three branches of `adopt`. -/
theorem adoptTakesAnOrphan : Obligations.AdoptTakesAnOrphan := by
  intro s p l rest settled asks
  dsimp only
  have free := settled_taken settled p rest
  refine ⟨fun orphan => ?_, fun orphan held => ?_, fun orphan none => ?_⟩
  · exact takeRequest_line asks (by decide) rfl rfl (by simp [adopt, orphan]) free
  · exact takeRequest_line asks (by decide) rfl rfl (by simp [adopt, orphan, held]) free
  · exact takeRequest_line asks (by decide) rfl rfl (by simp [adopt, orphan, none]) free

/-! ## SET LINE (R13) -/

/-- A good configuration is read as it was written. -/
theorem lineConfigOf_written (c : ClassNo) (ps : List Party) (some_ : 1 ≤ ps.length) (few : ps.length ≤ 4)
    (loads : ∀ q ∈ ps, 1 ≤ q.load ∧ q.load ≤ 8) (routes : 1 < ps.length → ∀ q ∈ ps, q.route ≠ .loopAny) :
    lineConfigOf (byteOf c.val) (byteOf ps.length) (byteOf ps.length) (partyBytes ps) = some (c, ps) := by
  have count : ps.length % 256 = ps.length := by omega
  have alone : ps.length = 1 ∨ ∀ q ∈ ps, q.route ≠ .loopAny := by
    by_cases one : ps.length = 1
    · exact .inl one
    · exact .inr (routes (by omega))
  simp [lineConfigOf, partiesOf_partyBytes ps loads, count, inRange, some_, few, alone]

/-- Party entries that are read have routes and loads in range, and read each entry to a party of its own (R170). -/
theorem partiesOf_eq_some {es : List (Byte × Byte)} {ps : List Party} (h : partiesOf (es.flatMap fun e => [e.1, e.2]) = some ps) :
    ps.length = es.length
    ∧ ∀ e ∈ es, e.1.toNat ≤ 6 ∧ 1 ≤ e.2.toNat ∧ e.2.toNat ≤ 8 ∧ ∃ q ∈ ps, routeCodeOf e.1 = some q.route := by
  induction es generalizing ps with
  | nil =>
    obtain rfl : [] = ps := by simpa [partiesOf] using h
    simp
  | cons e es ih =>
    simp only [List.flatMap_cons, List.cons_append, List.nil_append, partiesOf] at h
    split at h
    · rename_i route qs route_eq load tail
      obtain rfl : _ = ps := Option.some.inj h
      obtain ⟨length, entries⟩ := ih tail
      simp only [inRange, Bool.and_eq_true, decide_eq_true_eq] at load
      refine ⟨by simp [length], fun x hx => ?_⟩
      rcases List.mem_cons.1 hx with rfl | hx
      · have small : x.1.toNat ≤ 6 := by
          unfold routeCodeOf at route_eq
          split at route_eq <;> simp_all
        exact ⟨small, load.1, load.2, _, List.mem_cons_self, route_eq⟩
      · obtain ⟨code, low, high, q, member, eq⟩ := entries x hx
        exact ⟨code, low, high, q, List.mem_cons_of_mem _ member, eq⟩
    · simp at h

/-- A configuration that is read passes the checks of R13. -/
theorem lineConfigOf_eq_some {cls parties count : Byte} {entries : List Byte} {c : ClassNo} {ps : List Party}
    (h : lineConfigOf cls parties count entries = some (c, ps)) :
    cls.toNat ≤ 7 ∧ partiesOf entries = some ps ∧ 1 ≤ parties.toNat ∧ parties.toNat ≤ 4 ∧ ps.length = parties.toNat
    ∧ (ps.length = 1 ∨ ∀ q ∈ ps, q.route ≠ .loopAny) := by
  unfold lineConfigOf at h
  split at h
  · rename_i cls_eq parties_eq
    split at h
    · rename_i checks
      obtain ⟨rfl, rfl⟩ : _ = c ∧ _ = ps := by simpa using h
      have small : cls.toNat < 8 := by
        by_contra big
        simp [classNoOf, below, big] at cls_eq
      simp only [inRange, Bool.and_eq_true, decide_eq_true_eq, beq_iff_eq, Bool.or_eq_true, List.all_eq_true, bne_iff_ne] at checks
      obtain ⟨⟨⟨⟨low, high⟩, -⟩, length⟩, routes⟩ := checks
      exact ⟨by omega, parties_eq, low, high, length, routes⟩
    · simp at h
  · simp at h

/-- A SET LINE that fails a check of R13 is refused. -/
theorem setLineConfig_refused (s : State) (p : Port) (line cls parties count : Byte) (entries : List Byte)
    (h : lineOf line = none ∨ lineConfigOf cls parties count entries = none) :
    s.setLineConfig p ([line, cls, parties, count] ++ entries) = (s, .refuse .badValue) := by
  rcases h with h | h <;> simp [setLineConfig, h]

/-- The bad values of a SET LINE body, as O20 lists them, are refused at its line or at its configuration. -/
theorem lineConfig_bad {line cls parties : Byte} {es : List (Byte × Byte)}
    (bad : 63 < line.toNat ∨ 7 < cls.toNat ∨ parties.toNat < 1 ∨ 4 < parties.toNat ∨ parties.toNat ≠ es.length
      ∨ (∃ e ∈ es, 6 < e.1.toNat ∨ e.2.toNat < 1 ∨ 8 < e.2.toNat) ∨ (1 < es.length ∧ ∃ e ∈ es, e.1 = 0#8)) :
    lineOf line = none ∨ lineConfigOf cls parties (byteOf es.length) (es.flatMap fun e => [e.1, e.2]) = none := by
  by_cases above : 63 < line.toNat
  · exact .inl (lineOf_none above)
  · right
    by_contra read
    obtain ⟨⟨c, ps⟩, read⟩ := Option.ne_none_iff_exists'.1 read
    obtain ⟨small, entries, low, high, length, routes⟩ := lineConfigOf_eq_some read
    obtain ⟨same, each⟩ := partiesOf_eq_some entries
    rcases bad with h | h | h | h | h | ⟨e, member, h⟩ | ⟨many, e, member, h⟩
    · omega
    · omega
    · omega
    · omega
    · omega
    · obtain ⟨code, one, eight, -⟩ := each e member
      omega
    · obtain ⟨-, -, -, q, party, route⟩ := each e member
      rw [h] at route
      have loopAny : q.route = .loopAny := (Option.some.inj route).symm
      rcases routes with alone | never
      · omega
      · exact never q party loopAny

/-- The states in which a line takes a new configuration (R13). -/
theorem unheld_iff {st : LineState} : st.unheld = true ↔ st = .idle ∨ st = .parked ∨ st = .outOfService := by
  cases st <;> simp [LineState.unheld]

/-- Settles O20: the body is read back as it was written, and a body with a bad value has no reading. -/
theorem setLineReplacesTheConfiguration : Obligations.SetLineReplacesTheConfiguration := by
  refine ⟨fun s p l c ps rest settled asks one four loads routes => ?_, fun s p line cls parties es rest settled small asks bad => ?_⟩
  · have read := lineConfigOf_written c ps one four loads routes
    have count : ps.length % 256 = ps.length := by omega
    have fits : bodyFits 12 ([byteOf l.val, byteOf c.val, byteOf ps.length, byteOf ps.length] ++ partyBytes ps) = true := by
      simp [bodyFits, partyBytes_length, count]; omega
    have free := settled_taken settled p rest
    refine ⟨fun here => takeRequest_settled asks (by decide) fits rfl ?_ free,
      fun elsewhere => takeRequest_settled asks (by decide) fits rfl ?_ free⟩
    · simp [setLineConfig, read, unheld_iff.2 here]
    · simp [setLineConfig, read, mt unheld_iff.1 elsewhere]
  · have fits : bodyFits 12 ([line, cls, parties, byteOf es.length] ++ es.flatMap fun e => [e.1, e.2]) = true := by
      simp [bodyFits, List.length_flatMap, Nat.mod_eq_of_lt small]; omega
    exact takeRequest_settled asks (by decide) fits rfl (setLineConfig_refused _ p _ _ _ _ _ (lineConfig_bad bad))
      (settled_taken settled p rest)

/-! ## SET CLASS (R11) -/

theorem inRange_iff {lo hi n : Nat} : inRange lo hi n = true ↔ lo ≤ n ∧ n ≤ hi := by simp [inRange]

theorem scanTimeOk_iff {lo hi n : Nat} : scanTimeOk lo hi n = true ↔ InSteps lo hi 5 n := by
  simp [scanTimeOk, inRange_iff, InSteps, and_assoc]

/-- The model's check of a class is the one of R10 and R11, for a class that the fields of a body can carry. -/
theorem valid_iff {c : LineClass} (fits : ClassFits c) : c.valid = true ↔ ClassValid c := by
  obtain ⟨-, -, -, -, -, -, -, -, ⟨-, -, first⟩, ⟨-, -, inter⟩, ⟨-, -, claim⟩, ⟨-, -, window⟩, ⟨-, -, release⟩, ⟨-, -, park⟩⟩ := fits
  simp only [LineClass.valid, ClassValid, Bool.and_eq_true, scanTimeOk_iff, inRange_iff, decide_eq_true_eq, bne_iff_ne, InSteps,
    first, inter, claim, window, release, park, and_true, and_assoc]

/-- Two bytes carry a number below 65536. -/
theorem nat2_bytes {n : Nat} (small : n < 65536) : nat2 (byteOf (n / 256)) (byteOf n) = n := by
  simp only [nat2, byteOf_toNat]
  omega

/-- One byte carries a multiple of a step. -/
theorem steps_byte {hi k n : Nat} (h : InSteps 0 hi k n) (high : hi < 256 * k) : k * (byteOf (n / k)).toNat = n := by
  obtain ⟨-, top, step⟩ := h
  have small : n / k < 256 := Nat.div_lt_of_lt_mul (by rw [Nat.mul_comm]; omega)
  rw [byteOf_toNat, Nat.mod_eq_of_lt small]
  exact Nat.mul_div_cancel' (Nat.dvd_of_mod_eq_zero step)

theorem diallingOf_written (d : Dialling) : diallingOf (byteOf (diallingCode (some d))) = some d := by cases d <;> rfl

theorem portOf_written (p : Port) : portOf (byteOf (portCode (some p))) = some p := by cases p <;> rfl

theorem optPortOf_written (o : Option Port) : optPortOf (byteOf (portCode o)) = some o := by
  match o with
  | none | some .A | some .B | some .M => rfl

/-- A SET CLASS body is read back as it was written, when its values pass the checks. -/
theorem classOfBody_written {n : ClassNo} {c : LineClass} (fits : ClassFits c) :
    classOfBody (classBytes n c) = if c.valid then some (n, c) else none := by
  obtain ⟨hit, origination, breakMin, breakMax, make, flashMin, flashMax, trip, first, inter, claim, window, release, park⟩ := fits
  simp only [classBytes, bytes2, List.cons_append, List.nil_append, classOfBody, classNoOf_byteOf, diallingOf_written, portOf_written,
    optPortOf_written, nat2_bytes hit, nat2_bytes origination, nat2_bytes breakMin, nat2_bytes breakMax, nat2_bytes make,
    nat2_bytes flashMin, nat2_bytes flashMax, nat2_bytes trip, steps_byte first (by decide), steps_byte inter (by decide),
    steps_byte claim (by decide), steps_byte window (by decide), steps_byte release (by decide), steps_byte park (by decide)]

/-- A SET CLASS body that is read has a class number, a dialling method and two ports that the tables give. -/
theorem classOfBody_codes {n dialling home alternate : Byte} {values : List Byte} {r : ClassNo × LineClass}
    (length : values.length = 22) (h : classOfBody ([n] ++ values ++ [dialling, home, alternate]) = some r) :
    (classNoOf n).isSome ∧ (diallingOf dialling).isSome ∧ (portOf home).isSome ∧ (optPortOf alternate).isSome := by
  unfold classOfBody at h
  split at h
  · rename_i body
    simp only [List.cons_append, List.nil_append] at body
    obtain ⟨rfl, rest⟩ := List.cons.inj body
    have back := congrArg (List.drop 22) rest
    rw [List.drop_left' length] at back
    simp only [List.drop_succ_cons, List.drop_zero, List.cons.injEq, and_true] at back
    obtain ⟨rfl, rfl, rfl⟩ := back
    split at h
    · rename_i cls method port other
      simp [cls, method, port, other]
    · simp at h
  · simp at h

theorem classNoOf_none {b : Byte} (h : 7 < b.toNat) : classNoOf b = none := by
  simp [classNoOf, below]; omega

theorem diallingOf_none {b : Byte} (h : b.toNat < 1 ∨ 2 < b.toNat) : diallingOf b = none := by
  unfold diallingOf
  split <;> simp_all

theorem portOf_none {b : Byte} (h : b.toNat < 1 ∨ 3 < b.toNat) : portOf b = none := by
  unfold portOf
  split <;> simp_all

theorem optPortOf_none {b : Byte} (h : 3 < b.toNat) : optPortOf b = none := by
  simp [optPortOf, portOf_none (.inr h)]; omega

/-- A SET CLASS body with a code that no table gives has no reading. -/
theorem classOfBody_bad {n dialling home alternate : Byte} {values : List Byte} (length : values.length = 22)
    (bad : 7 < n.toNat ∨ dialling.toNat < 1 ∨ 2 < dialling.toNat ∨ home.toNat < 1 ∨ 3 < home.toNat ∨ 3 < alternate.toNat) :
    classOfBody ([n] ++ values ++ [dialling, home, alternate]) = none := by
  by_contra read
  obtain ⟨r, read⟩ := Option.ne_none_iff_exists'.1 read
  obtain ⟨cls, method, port, other⟩ := classOfBody_codes length read
  rcases bad with h | h | h | h | h | h
  · simp [classNoOf_none h] at cls
  · simp [diallingOf_none (.inl h)] at method
  · simp [diallingOf_none (.inr h)] at method
  · simp [portOf_none (.inl h)] at port
  · simp [portOf_none (.inr h)] at port
  · simp [optPortOf_none h] at other

/-- Settles O21: the body is read back as it was written when its values pass, and has no reading otherwise. -/
theorem setClassReplacesTheClassOrRefuses : Obligations.SetClassReplacesTheClassOrRefuses := by
  refine ⟨fun s p n c rest settled fits asks => ⟨fun valid => ?_, fun invalid => ?_⟩,
    fun s p n dialling home alternate values rest settled length asks bad => ?_⟩
  · have owner : (taken s p rest).setClassValues p (classBytes n c) = ((taken s p rest).setClass n c, .ok) := by
      simp [setClassValues, classOfBody_written fits, (valid_iff fits).2 valid]
    exact takeRequest_settled asks (by decide) rfl rfl owner (settled_taken settled p rest)
  · have owner : (taken s p rest).setClassValues p (classBytes n c) = (taken s p rest, .refuse .badValue) := by
      simp [setClassValues, classOfBody_written fits, mt (valid_iff fits).1 invalid]
    exact takeRequest_settled asks (by decide) rfl rfl owner (settled_taken settled p rest)
  · have owner : (taken s p rest).setClassValues p ([n] ++ values ++ [dialling, home, alternate])
        = (taken s p rest, .refuse .badValue) := by
      simp only [setClassValues, classOfBody_bad length bad]
    have size : bodyFits 13 ([n] ++ values ++ [dialling, home, alternate]) = true := by simp [bodyFits, length]
    exact takeRequest_settled asks (by decide) size rfl owner (settled_taken settled p rest)

/-! ## RESTORE LINE and UNPARK (R19, R21) -/

/-- A line returns to service: the record of IDLE with the hook field ON, the scanner told, LINE RESTORED (R21, R25). -/
theorem restoreService_eq (s : State) (l : LineNo) :
    s.restoreService l
      = ((s.setLine l { (s.line l).enter .idle with hook := .on }).sendCommand l .takeAfresh).report l .lineRestored := by
  simp [restoreService, enterIdle_eq, setHook, modLine_eq]

/-- A line leaves PARKED for IDLE (R19). -/
theorem unparkToIdle_eq (s : State) (l : LineNo) :
    s.unparkToIdle l = (s.setLine l ((s.line l).enter .idle)).report l .lineUnparked := rfl

/-- Settles O23, by the branches of `restoreLine` and `unparkLine`. -/
theorem restoreAndUnparkReturnTheLine : Obligations.RestoreAndUnparkReturnTheLine := by
  refine ⟨fun s l rest consistent asks => ?_, fun s l rest consistent asks => ?_⟩ <;> dsimp only
  · have free := settled_taken consistent.1 .M rest
    refine ⟨fun admin out reason => ?_, fun admin reason => ?_, fun admin => ?_⟩
    · refine takeRequest_line asks (by decide) rfl rfl (by simp [restoreLine, admin, out, reason, restoreService_eq, modLine_eq]; rfl) ?_
      simpa [Settled, sendCommand_eq] using free
    · refine takeRequest_line asks (by decide) rfl rfl (by simp [restoreLine, admin, reason]) ?_
      simpa [Settled, modLine_eq] using free
    · exact takeRequest_line asks (by decide) rfl rfl (by simp [restoreLine, admin]) free
  · have free := settled_taken consistent.1 .M rest
    refine ⟨fun parked hook => ?_, fun parked hook => ?_, fun parked => ?_⟩
    · refine takeRequest_line asks (by decide) rfl rfl (by simp [unparkLine, parked, unparkToIdle_eq, hook]) ?_
      simpa [Settled] using free
    · refine takeRequest_line asks (by decide) rfl rfl (by simp [unparkLine, parked, unparkToIdle_eq, hook]) ?_
      simpa [Settled] using free
    · refine takeRequest_line asks (by decide) rfl rfl ?_ free
      unfold unparkLine
      split
      · simp_all
      · rfl

/-! ## Lifts outside IDLE and ringing (R2, R18, R68, R73, R75, R82) -/

/-- The lift that an OFF_HOOK or an ANSWER event brings is taken in the same way outside IDLE and ringing. -/
theorem exec_lift {es : List ScanEvent} {c : Instr} (settled : Settled s) {r : LineRecord}
    (event : (c = .offHook l ∧ ∃ at_ run, s.eventsOf l = .offHook at_ run :: es)
      ∨ (c = .answer l ∧ ∃ at_ q k run, s.eventsOf l = .answer at_ q k run :: es))
    (lift : ∀ q kind, (s.setEvents l es).lifted l q kind = (s.setEvents l es).setLine l r) :
    exec c s = .next ((s.setEvents l es).setLine l r) := by
  have dropped (e : ScanEvent) (h : s.eventsOf l = e :: es) : s.dropEvent l = s.setEvents l es := by simp [dropEvent, h]
  have free : Settled ((s.setEvents l es).setLine l r) := by simpa [Settled] using settled
  rcases event with ⟨rfl, at_, run, e⟩ | ⟨rfl, at_, q, k, run, e⟩
  · simp only [exec, execOffHook, e, dropped _ e, lift, finish_settled free]
  · simp only [exec, execAnswer, e, dropped _ e, lift, finish_settled free]

/-- Settles O34, by the branches of `lifted`. -/
theorem liftsOutsideIdleAndRinging : Obligations.LiftsOutsideIdleAndRinging := by
  intro s l es c settled event
  dsimp only
  refine ⟨fun out => ?_, fun call => ?_, fun cleared => ?_, fun parked => ?_⟩
  · have same : (s.setEvents l es).setLine l (s.line l) = s.setEvents l es := (s.setEvents l es).setLine_line l
    rw [← same]
    exact exec_lift settled event fun q kind => by simp [lifted, out, same]
  · refine exec_lift settled event fun q kind => ?_
    unfold lifted
    split <;> simp_all [setHook, modLine_eq, LineState.originating]
  · exact exec_lift settled event fun q kind => by simp [lifted, cleared, setHook, modLine_eq]
  · exact exec_lift settled event fun q kind => by simp [lifted, parked, setHook, modLine_eq, stopTimer_eq]

end Sys2Proof.Machine.State
end

section
/-! PROOFS. What an event at some lines leaves unchanged: other lines' records and resources, and what the ports have sent. The rules
for each operation of a teardown, and for the grants and passes at the end of an event. -/

namespace Sys2Proof.Machine.State

open Sys2Proof.Safety

variable {s t u : State} {l : LineNo} {ls ks : List LineNo}

/-! ## What the ports have sent -/

/-- No response leaves a port between the two. -/
def SameSent (s t : State) : Prop := ∀ p, (t.port p).sent = (s.port p).sent

theorem sameSent_refl (s : State) : SameSent s s := fun _ => rfl

theorem SameSent.trans (a : SameSent s t) (b : SameSent t u) : SameSent s u := fun p => (b p).trans (a p)

theorem sameSent_of_ports (h : t.ports = s.ports) : SameSent s t := by
  intro p
  cases p <;> simp [port, h]

theorem sameSent_foldl {α : Type} {f : State → α → State} (step : ∀ s a, SameSent s (f s a)) (as : List α) (s : State) :
    SameSent s (as.foldl f s) := by
  induction as generalizing s with
  | nil => exact sameSent_refl s
  | cons a as ih => exact (step s a).trans (ih _)

/-- A change of a port's record that keeps what it has sent. -/
theorem sameSent_modPort {f : PortRecord → PortRecord} (h : ∀ r, (f r).sent = r.sent) (s : State) (p : Port) :
    SameSent s (s.modPort p f) := by
  intro q
  by_cases e : q = p
  · subst e
    simp [h]
  · simp [e]

theorem sameSent_setQueue (s : State) (p : Port) (q : ReportQueue) : SameSent s (s.setQueue p q) :=
  (sameSent_of_ports (by simp)).trans (sameSent_modPort (by simp) _ p)

theorem sameSent_setMark (s : State) (p : Port) (k : Option LineNo) (v : Bool) : SameSent s (s.setMark p k v) := by
  cases k <;> exact sameSent_setQueue s p _

theorem sameSent_deliver (s : State) (p : Port) (r : Report) : SameSent s (s.deliver p r) := by
  unfold State.deliver
  split
  · exact sameSent_refl s
  · split
    · exact sameSent_refl s
    · split
      · exact sameSent_setQueue s p _
      · exact sameSent_setMark s p _ _

theorem sameSent_deliverAll (s : State) (ps : List Port) (r : Report) : SameSent s (s.deliverAll ps r) :=
  sameSent_foldl (fun s p => sameSent_deliver s p r) ps s

theorem sameSent_report (s : State) (l : LineNo) (b : ReportBody) : SameSent s (s.report l b) := sameSent_deliverAll s _ _

theorem sameSent_abandonOffer (s : State) (l : LineNo) (c : AbandonCause) : SameSent s (s.abandonOffer l c) := by
  unfold State.abandonOffer
  dsimp only
  split
  · exact sameSent_deliver s _ _
  · exact sameSent_refl s

theorem sameSent_taken (s : State) (p : Port) (rest : List ReplyItem) : SameSent s (taken s p rest) := by
  unfold taken State.refreshPresence
  dsimp only
  generalize hq : State.modPort (State.modPort s p _) p _ = q
  have read : SameSent s q := hq ▸ (sameSent_modPort (by simp) s p).trans (sameSent_modPort (by simp) _ p)
  split
  · exact read.trans (sameSent_deliverAll q _ _)
  · exact read

/-! ## The passes at the end of an event send nothing -/

theorem ports_takeTurns (s : State) (w : WaitingRequest) : (s.takeTurns w).ports = s.ports := by
  unfold State.takeTurns
  generalize s.partySupplies w.line w.party = us
  induction us generalizing s with
  | nil => rfl
  | cons u us ih =>
    refine (ih _).trans ?_
    dsimp only
    split <;> simp

theorem ports_passOver (s : State) (l : LineNo) : (s.passOver l).ports = s.ports := by
  unfold State.passOver
  split
  · rfl
  · dsimp only
    split
    · split
      · rw [ports_takeTurns]; simp
      · simp
    · rfl

theorem ports_passOverAll (u : Supply) (fs : List FailedRequest) (s : State) : (passOverAll u fs s).1.ports = s.ports := by
  induction fs generalizing s with
  | nil => rfl
  | cons f fs ih =>
    unfold passOverAll
    split
    · exact (ih _).trans (ports_passOver s f.line)
    · exact ih s

theorem ports_place (s : State) (w : WaitingRequest) (u : Supply) (o : Nat) : (s.place w u o).ports = s.ports := by
  obtain ⟨a, e, -, eq⟩ := place_eq s w u o
  rw [eq, unqueue_frame]
  rfl

theorem ports_toReturnState (s : State) (l : LineNo) : (s.toReturnState l).ports = s.ports := by
  unfold State.toReturnState
  split
  · rw [enterCleared_eq]; rfl
  · rfl

theorem sameSent_groundFault (s : State) (w : WaitingRequest) : SameSent s (s.groundFault w) := by
  have deleted : (s.deleteRequest w).ports = s.ports := by
    rw [State.deleteRequest, unqueue_frame]
    rfl
  unfold State.groundFault
  exact ((sameSent_of_ports deleted).trans (sameSent_report _ _ _)).trans (sameSent_of_ports (ports_toReturnState _ _))

theorem sameSent_passWalk (ks : List LineNo) (fs : List FailedRequest) (s : State) : SameSent s (passWalk ks fs s) := by
  induction ks generalizing fs s with
  | nil => exact sameSent_refl s
  | cons k ks ih =>
    unfold passWalk
    split
    · exact ih _ _
    · split
      · refine (sameSent_of_ports ?_).trans (ih _ _)
        exact (ports_passOverAll _ _ _).trans (ports_place _ _ _ _)
      · exact (sameSent_groundFault _ _).trans (ih _ _)
      · exact ih _ _

theorem sameSent_runPasses (n : Nat) (s : State) : SameSent s (runPasses n s) := by
  induction n generalizing s with
  | zero => exact sameSent_refl s
  | succ n ih =>
    unfold runPasses
    split
    · exact (sameSent_passWalk _ _ { s with passDue := false }).trans (ih _)
    · exact sameSent_refl s

/-! ## The end of an event -/

/-- What the grants and passes at the end of an event leave unchanged (R57, R114). -/
structure Ended (s t : State) : Prop where
  frame : t = { s with lines := t.lines, tone := t.tone, programs := t.programs, alloc := t.alloc, entries := t.entries,
                       queues := t.queues, ports := t.ports, passDue := t.passDue, tapReturned := t.tapReturned }
  settled : Settled t
  sent : SameSent s t
  queues : QueuesExtend s t
  line : ∀ k, (∀ w ∈ s.tone.queue, w.line ≠ k) → s.request k = none → t.line k = s.line k ∧ t.entry k = s.entry k

theorem ended_finish (s : State) : Ended s s.finish := by
  obtain ⟨v, grants, tone⟩ := settleTone_after s
  obtain ⟨grantFrame, granted, -⟩ := grants
  obtain ⟨passFrame, passed⟩ := settlePasses_after s.settleTone
  refine ⟨?_, settled_finish s, ?_, finish_extends s, fun k waits request => ?_⟩
  · rw [State.finish, passFrame, tone, grantFrame]
  · have ports : s.settleTone.ports = s.ports := by rw [tone, grantFrame]
    exact (sameSent_of_ports ports).trans (sameSent_runPasses _ _)
  · have still : s.settleTone.request k = none := by
      rw [tone, grantFrame]
      exact request
    obtain ⟨-, line, entry⟩ := passed k still
    have before : s.settleTone.line k = s.line k ∧ s.settleTone.entry k = s.entry k := by
      rw [tone]
      refine ⟨granted k waits, ?_⟩
      rw [grantFrame]
      rfl
    exact ⟨line.trans before.1, entry.trans before.2⟩

/-! ## Events at some lines -/

/-- `t` is `s` after events at the lines `ls`, before the grants and passes: call state, scanner queues, report queues and attention may
differ, and of the lines only those in `ls`; nobody joins the tone wait queue. -/
structure MovesOnly (ls : List LineNo) (s t : State) : Prop where
  frame : t = { s with lines := t.lines, tone := t.tone, programs := t.programs, alloc := t.alloc, entries := t.entries,
                       relays := t.relays, indications := t.indications, scanEvents := t.scanEvents, scanCommands := t.scanCommands,
                       queues := t.queues, ports := t.ports, passDue := t.passDue, tapReturned := t.tapReturned }
  waits : ∀ w ∈ t.tone.queue, w ∈ s.tone.queue
  sent : SameSent s t
  line : ∀ k, k ∉ ls → t.line k = s.line k
  request : ∀ k, k ∉ ls → t.request k = s.request k
  entry : ∀ k, k ∉ ls → t.entry k = s.entry k
  relay : ∀ k, k ∉ ls → t.relay k = s.relay k

theorem movesOnly_refl (ls : List LineNo) (s : State) : MovesOnly ls s s :=
  ⟨rfl, fun _ h => h, sameSent_refl s, fun _ _ => rfl, fun _ _ => rfl, fun _ _ => rfl, fun _ _ => rfl⟩

theorem MovesOnly.trans (a : MovesOnly ls s t) (b : MovesOnly ls t u) : MovesOnly ls s u where
  frame := by rw [b.frame, a.frame]
  waits w h := a.waits w (b.waits w h)
  sent := a.sent.trans b.sent
  line k h := (b.line k h).trans (a.line k h)
  request k h := (b.request k h).trans (a.request k h)
  entry k h := (b.entry k h).trans (a.entry k h)
  relay k h := (b.relay k h).trans (a.relay k h)

theorem MovesOnly.mono (a : MovesOnly ls s t) (h : ∀ k ∈ ls, k ∈ ks) : MovesOnly ks s t where
  frame := a.frame
  waits := a.waits
  sent := a.sent
  line k hk := a.line k (mt (h k) hk)
  request k hk := a.request k (mt (h k) hk)
  entry k hk := a.entry k (mt (h k) hk)
  relay k hk := a.relay k (mt (h k) hk)

/-- A walk over lines whose steps each move one line. -/
theorem movesOnly_foldl {f : State → LineNo → State} (step : ∀ s k, MovesOnly [k] s (f s k)) (h : ∀ k ∈ ks, k ∈ ls) (s : State) :
    MovesOnly ls s (ks.foldl f s) := by
  induction ks generalizing s with
  | nil => exact movesOnly_refl ls s
  | cons k ks ih =>
    have first : MovesOnly ls s (f s k) := (step s k).mono (by simpa using h k List.mem_cons_self)
    exact first.trans (ih (fun j hj => h j (List.mem_cons_of_mem k hj)) _)

theorem movesOnly_of_reports (h : t = { s with queues := t.queues, ports := t.ports }) (sent : SameSent s t) : MovesOnly ls s t := by
  refine ⟨?_, ?_, sent, ?_, ?_, ?_, ?_⟩
  · rw [h]
  · rw [h]; exact fun _ hw => hw
  all_goals
    intro k _
    rw [h]
    rfl

theorem movesOnly_report (s : State) (l : LineNo) (b : ReportBody) : MovesOnly ls s (s.report l b) :=
  movesOnly_of_reports (s.report_frame l b) (sameSent_report s l b)

theorem movesOnly_abandonOffer (s : State) (l : LineNo) (c : AbandonCause) : MovesOnly ls s (s.abandonOffer l c) :=
  movesOnly_of_reports (s.abandonOffer_frame l c) (sameSent_abandonOffer s l c)

theorem movesOnly_taken (s : State) (p : Port) (rest : List ReplyItem) : MovesOnly ls s (taken s p rest) :=
  movesOnly_of_reports (taken_frame s p rest) (sameSent_taken s p rest)

theorem movesOnly_setLine (s : State) (l : LineNo) (r : LineRecord) : MovesOnly [l] s (s.setLine l r) :=
  ⟨rfl, fun _ h => h, sameSent_of_ports rfl, fun k h => line_setLine_other s l k r (by simpa using h), fun _ _ => rfl, fun _ _ => rfl,
    fun _ _ => rfl⟩

theorem movesOnly_setCommands (s : State) (l : LineNo) (cs : List ScanCommand) : MovesOnly ls s (s.setCommands l cs) :=
  ⟨rfl, fun _ h => h, sameSent_of_ports rfl, fun _ _ => rfl, fun _ _ => rfl, fun _ _ => rfl, fun _ _ => rfl⟩

theorem movesOnly_setEvents (s : State) (l : LineNo) (es : List ScanEvent) : MovesOnly ls s (s.setEvents l es) :=
  ⟨rfl, fun _ h => h, sameSent_of_ports rfl, fun _ _ => rfl, fun _ _ => rfl, fun _ _ => rfl, fun _ _ => rfl⟩

theorem movesOnly_setProgram (s : State) (g : ProgramNo) (e : ProgramEntry) : MovesOnly ls s (s.setProgram g e) :=
  ⟨rfl, fun _ h => h, sameSent_of_ports rfl, fun _ _ => rfl, fun _ _ => rfl, fun _ _ => rfl, fun _ _ => rfl⟩

theorem movesOnly_giveUpTone (s : State) (l : LineNo) : MovesOnly ls s (s.giveUpTone l) := by
  have frame := giveUpTone_frame s l
  have waits : ∀ w ∈ (s.giveUpTone l).tone.queue, w ∈ s.tone.queue := by
    unfold State.giveUpTone
    split
    · exact fun w h => h
    · exact fun w h => List.mem_of_mem_filter h
    · exact fun w h => h
  refine ⟨?_, waits, sameSent_of_ports (by rw [frame]), ?_, ?_, ?_, ?_⟩
  · rw [frame]
  all_goals
    intro k _
    rw [frame]
    rfl

theorem movesOnly_removeEntry (s : State) (l : LineNo) : MovesOnly [l] s (s.removeEntry l) := by
  have frame := removeEntry_frame s l
  have entry (k : LineNo) (h : k ≠ l) : (s.removeEntry l).entry k = s.entry k := by
    cases he : s.entry l with
    | none => rw [removeEntry_of_none he]
    | some e =>
      obtain ⟨u, r, eq⟩ := removeEntry_of_entry he
      rw [eq]
      simp [indicate_eq, h]
  have relay (k : LineNo) (h : k ≠ l) : (s.removeEntry l).relay k = s.relay k := by
    cases he : s.entry l with
    | none => rw [removeEntry_of_none he]
    | some e =>
      obtain ⟨u, r, eq⟩ := removeEntry_of_entry he
      rw [eq]
      simp [indicate_eq, h]
  refine ⟨?_, ?_, sameSent_of_ports (by rw [frame]), ?_, ?_, fun k h => entry k (by simpa using h),
    fun k h => relay k (by simpa using h)⟩
  · rw [frame]
  · rw [frame]; exact fun _ h => h
  all_goals
    intro k _
    rw [frame]
    rfl

theorem movesOnly_unqueue (s : State) (l : LineNo) : MovesOnly [l] s (s.unqueue l) := by
  have frame := unqueue_frame s l
  refine ⟨?_, ?_, sameSent_of_ports (by rw [frame]), ?_, fun k h => request_unqueue_other s (by simpa using h), ?_, ?_⟩
  · rw [frame]
  · rw [frame]; exact fun _ h => h
  all_goals
    intro k _
    rw [frame]
    rfl

theorem movesOnly_endRing (s : State) (l : LineNo) : MovesOnly [l] s (s.endRing l) := by
  unfold State.endRing
  split
  · exact (movesOnly_removeEntry s l).trans (movesOnly_setProgram _ _ _)
  · split
    · rename_i w hw
      have here := request_line hw
      subst here
      exact (movesOnly_unqueue s w.line).trans (movesOnly_setProgram _ _ _)
    · exact movesOnly_refl _ s

end Sys2Proof.Machine.State
end

section
/-! PROOFS. The teardown of a line, by PARK, by REMOVE LINE and by FORCE RELEASE: what is freed, what is reported, and the record that
is left (R16, R17, R20, R22): the obligations O22 and O24. -/

namespace Sys2Proof.Machine.State

open Sys2Proof.Safety

variable {s t u v w : State} {l : LineNo} {ls : List LineNo}

/-! ## Parts that make the same reports -/

/-- The two parts have the same report queues and read the same in taking a copy (R163, R165). -/
structure SameReports (v t : State) : Prop where
  queues : t.queues = v.queues
  ports : t.ports = v.ports
  routes : t.routes = v.routes
  clock : t.clock = v.clock

theorem SameReports.trans (a : SameReports v t) (b : SameReports t u) : SameReports v u :=
  ⟨b.queues.trans a.queues, b.ports.trans a.ports, b.routes.trans a.routes, b.clock.trans a.clock⟩

theorem SameReports.now_eq (a : SameReports v t) : t.now = v.now := by simp [now, a.clock]

theorem SameReports.extend (a : SameReports v t) : QueuesExtend v t := queuesExtend_of_eq a.queues

theorem SameReports.report (a : SameReports v t) (holder : (t.line l).holder = (v.line l).holder) (b : ReportBody) :
    SameReports (v.report l b) (t.report l b) := by
  obtain ⟨queues, ports⟩ := report_congr l b a.queues a.ports a.routes a.now_eq holder
  exact ⟨queues, ports, by simp [a.routes], by simp [a.clock]⟩

theorem SameReports.abandonOffer (a : SameReports v t) (line : t.line l = v.line l) (c : AbandonCause) :
    SameReports (v.abandonOffer l c) (t.abandonOffer l c) := by
  unfold State.abandonOffer
  dsimp only
  rw [line]
  split
  · obtain ⟨queues, ports⟩ := deliver_congr a.queues a.ports _ _
    unfold State.reportTo
    rw [a.now_eq]
    exact ⟨queues, ports, by simp [a.routes], by simp [a.clock]⟩
  · exact a

/-! ## A ring that ends makes no report of its own -/

theorem endRing_frame (s : State) (l : LineNo) :
    s.endRing l
      = { s with relays := (s.endRing l).relays, indications := (s.endRing l).indications, alloc := (s.endRing l).alloc,
                 entries := (s.endRing l).entries, programs := (s.endRing l).programs, passDue := (s.endRing l).passDue } := by
  unfold State.endRing
  split
  · unfold State.endEntry
    rw [removeEntry_frame]
    rfl
  · split
    · unfold State.deleteRequest
      rw [unqueue_frame]
      rfl
    · rfl

theorem sameReports_endRing (s : State) (l : LineNo) : SameReports s (s.endRing l) := by
  rw [endRing_frame]
  exact ⟨rfl, rfl, rfl, rfl⟩

theorem sameReports_giveUpTone (s : State) (l : LineNo) : SameReports s (s.giveUpTone l) := by
  rw [giveUpTone_frame]
  exact ⟨rfl, rfl, rfl, rfl⟩

theorem sameReports_setLine (s : State) (l : LineNo) (r : LineRecord) : SameReports s (s.setLine l r) := ⟨rfl, rfl, rfl, rfl⟩

theorem ringOf_giveUpTone (s : State) (l k : LineNo) : (s.giveUpTone l).ringOf k = s.ringOf k := by
  rw [giveUpTone_frame]
  rfl

@[simp] theorem endRing_scanCommands (s : State) (l : LineNo) : (s.endRing l).scanCommands = s.scanCommands := by rw [endRing_frame]
@[simp] theorem endRing_scanEvents (s : State) (l : LineNo) : (s.endRing l).scanEvents = s.scanEvents := by rw [endRing_frame]
@[simp] theorem endRing_clock (s : State) (l : LineNo) : (s.endRing l).clock = s.clock := by rw [endRing_frame]
@[simp] theorem endRing_classes (s : State) (l : LineNo) : (s.endRing l).classes = s.classes := by rw [endRing_frame]

/-! ## The freeing of a line (R16, steps 1 to 5) -/

/-- The report of a ring that a freed line had, with its party, program and residue: it fails at a card loss, and is stopped
otherwise (R16 step 2, R24). -/
def freedRing : TeardownCause → Nat × ProgramNo × Nat → ReportBody
  | .cardLoss, (party, program, cycles) => .ringFailed .lineLost party program cycles
  | _, (party, program, cycles) => .ringStopped .maintenance party program cycles

/-- A freed line's ring, when it has one, is reported and ended. -/
def freeRing (s : State) (l : LineNo) (c : TeardownCause) : State :=
  match s.ringOf l with
  | some r => (s.report l (freedRing c r)).endRing l
  | none => s

/-- The report alone. -/
def freeRingReport (s : State) (l : LineNo) (c : TeardownCause) : State :=
  match s.ringOf l with
  | some r => s.report l (freedRing c r)
  | none => s

theorem stopRing_maintenance (s : State) (l : LineNo) : s.stopRing l .maintenance = s.freeRing l .park := by
  unfold State.stopRing freeRing
  cases s.ringOf l <;> rfl

theorem failRing_lineLost (s : State) (l : LineNo) : s.failRing l .lineLost = s.freeRing l .cardLoss := by
  unfold State.failRing freeRing
  cases s.ringOf l <;> rfl

theorem ringStopReport_maintenance (s : State) (l : LineNo) : ringStopReport s l .maintenance = s.freeRingReport l .park := by
  unfold ringStopReport freeRingReport
  cases s.ringOf l <;> rfl

theorem freeLine_eq (s : State) (l : LineNo) (c : TeardownCause) :
    s.freeLine l c
      = ((((s.giveUpTone l).freeRing l c).abandonOffer l .teardown).modLine l fun r => { r with digits := [], expected := 0 }).sendCommand
          l .discardPulseCount := by
  cases c
  · rw [← stopRing_maintenance]; rfl
  · have same : (s.giveUpTone l).freeRing l .remove = (s.giveUpTone l).freeRing l .park := rfl
    rw [same, ← stopRing_maintenance]; rfl
  · rw [← failRing_lineLost]; rfl

theorem movesOnly_freeRing (s : State) (l : LineNo) (c : TeardownCause) : MovesOnly [l] s (s.freeRing l c) := by
  unfold freeRing
  split
  · exact (movesOnly_report s l _).trans (movesOnly_endRing _ l)
  · exact movesOnly_refl _ s

/-- A ring that is freed touches neither the records nor the scanner's queues, the clock and the classes. -/
theorem freeRing_frame (s : State) (l : LineNo) (c : TeardownCause) :
    (s.freeRing l c).lines = s.lines ∧ (s.freeRing l c).scanCommands = s.scanCommands
    ∧ (s.freeRing l c).scanEvents = s.scanEvents ∧ (s.freeRing l c).clock = s.clock ∧ (s.freeRing l c).classes = s.classes := by
  unfold freeRing
  split <;> simp

theorem line_freeRingReport (s : State) (l k : LineNo) (c : TeardownCause) : (s.freeRingReport l c).line k = s.line k := by
  unfold freeRingReport
  split <;> simp

theorem SameReports.freeRing (a : SameReports v t) (line : t.line l = v.line l) (ring : t.ringOf l = v.ringOf l) (c : TeardownCause) :
    SameReports (v.freeRingReport l c) (t.freeRing l c) := by
  unfold freeRingReport State.freeRing
  rw [ring]
  split
  · exact (a.report (by rw [line]) _).trans (sameReports_endRing _ l)
  · exact a

theorem movesOnly_freeLine (s : State) (l : LineNo) (c : TeardownCause) : MovesOnly [l] s (s.freeLine l c) := by
  rw [freeLine_eq]
  exact (movesOnly_giveUpTone s l).trans ((movesOnly_freeRing _ l c).trans ((movesOnly_abandonOffer _ l _).trans
    ((movesOnly_setLine _ l _).trans (movesOnly_setCommands _ l _))))

theorem line_freeLine (s : State) (l : LineNo) (c : TeardownCause) :
    (s.freeLine l c).line l = { s.line l with digits := [], expected := 0 } := by
  obtain ⟨lines, -⟩ := (s.giveUpTone l).freeRing_frame l c
  have line : ((s.giveUpTone l).freeRing l c).line l = s.line l := (line_of_lines lines l).trans (line_giveUpTone s l l)
  rw [freeLine_eq]
  simp [sendCommand_eq, line]

theorem commandsOf_freeLine (s : State) (l : LineNo) (c : TeardownCause) :
    (s.freeLine l c).commandsOf l = s.commandsOf l ++ [.discardPulseCount] := by
  obtain ⟨-, commands, -⟩ := (s.giveUpTone l).freeRing_frame l c
  have same : ((s.giveUpTone l).freeRing l c).commandsOf l = s.commandsOf l := by
    rw [commandsOf, commands, giveUpTone_frame]
    rfl
  rw [freeLine_eq]
  simp [sendCommand_eq, modLine_eq, same]

/-- The freeing of a line changes no event queue, no class and not the clock. -/
theorem freeLine_frame (s : State) (l : LineNo) (c : TeardownCause) :
    (s.freeLine l c).scanEvents = s.scanEvents ∧ (s.freeLine l c).clock = s.clock ∧ (s.freeLine l c).classes = s.classes := by
  obtain ⟨-, -, events, clock, classes⟩ := (s.giveUpTone l).freeRing_frame l c
  rw [giveUpTone_frame] at events clock classes
  rw [freeLine_eq, giveUpTone_frame]
  simp [sendCommand_eq, modLine_eq, events, clock, classes]

/-- The reports of a freed line, with the report `b` of the line itself behind them (R16, R22). -/
theorem SameReports.freeLine (a : SameReports v t) (line : t.line l = v.line l) (ring : t.ringOf l = v.ringOf l) (c : TeardownCause)
    (b : ReportBody) :
    SameReports (((v.freeRingReport l c).abandonOffer l .teardown).report l b) ((t.freeLine l c).report l b) := by
  have tone : SameReports v (t.giveUpTone l) := a.trans (sameReports_giveUpTone t l)
  have freed := tone.freeRing (l := l) (by rw [line_giveUpTone, line]) (by rw [ringOf_giveUpTone, ring]) c
  obtain ⟨lines, -⟩ := (t.giveUpTone l).freeRing_frame l c
  have same : ((t.giveUpTone l).freeRing l c).line l = (v.freeRingReport l c).line l := by
    rw [line_of_lines lines, line_giveUpTone, line, line_freeRingReport]
  have abandoned := freed.abandonOffer same .teardown
  rw [freeLine_eq]
  refine SameReports.report (abandoned.trans ?_) ?_ b
  · exact ⟨rfl, rfl, rfl, rfl⟩
  · simp [sendCommand_eq, same]

/-! ## The teardown (R16) -/

/-- The fields that step 6 of R16 clears, with the digits that step 3 empties. -/
def clearedFields (r : LineRecord) : LineRecord :=
  { r with digits := [], expected := 0, holder := none, orphan := false, recallMark := false, reorigination := none, offer := .none,
           returnState := none, timer := none }

/-- IDLE, PARKED and OUT_OF_SERVICE have none of these fields, so that nothing is left to clear (R1, R4). -/
theorem enter_clearedFields (r : LineRecord) {st : LineState} (h : st.unheld = true) : (clearedFields r).enter st = r.enter st := by
  have call : (st == .held || st == .recalling) = false := by
    rcases unheld_iff.1 h with rfl | rfl | rfl <;> rfl
  rcases unheld_iff.1 h with rfl | rfl | rfl <;> simp [clearedFields, LineRecord.enter, LineState.unheld, LineState.originating, call]

/-- The record of a freed line whose fields are cleared. -/
theorem line_clearFields (s : State) (l : LineNo) (c : TeardownCause) (b : ReportBody) :
    (((s.freeLine l c).report l b).clearFields l).line l = clearedFields (s.line l) := by
  simp [clearFields, line_freeLine, clearedFields]

/-- Freeing a line and clearing its fields moves neither the time nor the line's class. -/
theorem clearFields_frame (s : State) (l : LineNo) (c : TeardownCause) (b : ReportBody) :
    (((s.freeLine l c).report l b).clearFields l).now = s.now
    ∧ (((s.freeLine l c).report l b).clearFields l).lineClass l = s.lineClass l := by
  obtain ⟨-, clock, classes⟩ := s.freeLine_frame l c
  rw [lineClass, line_clearFields]
  simp [clearFields, State.now, classOf, lineClass, clearedFields, modLine_eq, clock, classes]

/-- The report of a torn-down line (R16 step 5). -/
def teardownReport : TeardownCause → ReportBody
  | .park => .lineParked .maintenance
  | .remove | .cardLoss => .lineLost

/-- The record of a torn-down line. -/
def tornDown (s : State) (l : LineNo) : TeardownCause → LineRecord
  | .park =>
    { (s.line l).enter .parked with
      parkReason := some .maintenance
      timer := if (s.line l).hook = .on then some ⟨.parkRelease, s.now + (s.lineClass l).parkRelease⟩ else none }
  | .remove => { (s.line l).enter .outOfService with oosReason := some .admin, hook := .on }
  | .cardLoss => { (s.line l).enter .outOfService with oosReason := some .card, hook := .on }

/-- A torn-down line is freed and reported, and its record is replaced. -/
theorem teardown_eq (s : State) (l : LineNo) (c : TeardownCause) :
    s.teardown l c = ((s.freeLine l c).report l (teardownReport c)).setLine l (s.tornDown l c) := by
  have cleared := line_clearFields s l c (teardownReport c)
  obtain ⟨now, cls⟩ := clearFields_frame s l c (teardownReport c)
  have parked := enter_clearedFields (s.line l) (st := .parked) rfl
  have out := enter_clearedFields (s.line l) (st := .outOfService) rfl
  cases c <;> simp only [teardownReport] at cleared now cls <;> simp only [State.teardown, tornDown]
  · rw [enterParked_eq, cleared, now, cls, parked]
    exact setLine_setLine _ _ _ _
  · rw [enterOutOfService, modLine_eq, cleared, out]
    exact setLine_setLine _ _ _ _
  · rw [enterOutOfService, modLine_eq, cleared, out]
    exact setLine_setLine _ _ _ _

theorem movesOnly_teardown (s : State) (l : LineNo) (c : TeardownCause) : MovesOnly [l] s (s.teardown l c) := by
  rw [teardown_eq]
  exact (movesOnly_freeLine s l c).trans ((movesOnly_report _ l _).trans (movesOnly_setLine _ l _))

theorem line_teardown (s : State) (l : LineNo) (c : TeardownCause) : (s.teardown l c).line l = s.tornDown l c := by
  rw [teardown_eq, line_setLine_same]

theorem commandsOf_teardown (s : State) (l : LineNo) (c : TeardownCause) :
    (s.teardown l c).commandsOf l = s.commandsOf l ++ [.discardPulseCount] := by
  rw [teardown_eq]
  simp [commandsOf_freeLine]

theorem scanEvents_teardown (s : State) (l : LineNo) (c : TeardownCause) : (s.teardown l c).scanEvents = s.scanEvents := by
  obtain ⟨events, -⟩ := s.freeLine_frame l c
  rw [teardown_eq]
  simp [events]

theorem SameReports.teardown (a : SameReports v t) (line : t.line l = v.line l) (ring : t.ringOf l = v.ringOf l) (c : TeardownCause) :
    SameReports (((v.freeRingReport l c).abandonOffer l .teardown).report l (teardownReport c)) (t.teardown l c) := by
  rw [teardown_eq]
  exact (a.freeLine line ring c _).trans (sameReports_setLine _ l _)

/-! ## FORCE RELEASE (R22) -/

/-- The record that FORCE RELEASE leaves. -/
def forceReleasedRecord (s : State) (l : LineNo) : LineRecord :=
  if (s.line l).hook = .on then (s.line l).enter .idle else { (s.line l).enter .parked with parkReason := some .maintenance }

theorem forceReleased_eq (s : State) (l : LineNo) :
    s.forceReleased l = ((s.freeLine l .park).report l .releaseForced).setLine l (s.forceReleasedRecord l) := by
  have cleared := line_clearFields s l .park .releaseForced
  have sameHook : (clearedFields (s.line l)).hook = (s.line l).hook := rfl
  have idle := enter_clearedFields (s.line l) (st := .idle) rfl
  have parked := enter_clearedFields (s.line l) (st := .parked) rfl
  unfold State.forceReleased forceReleasedRecord
  dsimp only
  rw [cleared, sameHook]
  cases hook : (s.line l).hook
  · simp only [beq_self_eq_true, if_true, enterIdle_eq, cleared, idle]
    exact setLine_setLine _ _ _ _
  · have differ : (Hook.off == Hook.on) = false := rfl
    simp only [differ, Bool.false_eq_true, reduceCtorEq, if_false, enterParked_eq, cleared, sameHook, hook, parked]
    exact setLine_setLine _ _ _ _

theorem movesOnly_forceReleased (s : State) (l : LineNo) : MovesOnly [l] s (s.forceReleased l) := by
  rw [forceReleased_eq]
  exact (movesOnly_freeLine s l .park).trans ((movesOnly_report _ l _).trans (movesOnly_setLine _ l _))

/-! ## A request that leaves the line with nothing -/

/-- A settled line in a state that holds nothing is left alone by the grants and passes at the end of an event. -/
theorem line_finish (h : Agreed v) (e : (v.line l).state.holdsNothing = true) : v.finish.line l = v.line l := by
  obtain ⟨-, request, -, -, waits⟩ := bare_iff.1 ((h.at_ l).bare e)
  exact ((ended_finish v).line l waits request).1

theorem holdsNothing_of_agreed (h : Agreed v) (e : (v.line l).state.holdsNothing = true) : HoldsNothing v l :=
  bare_iff.1 ((h.at_ l).bare e)

theorem respond_queues (s : State) (p : Port) (k : Byte) (r : Reply) : (s.respond p k r).queues = s.queues := by cases p <;> rfl

/-- What an event at a line may change, once it has ended and is answered. -/
theorem onlyCallChanges_of_moves {p : Port} {k : Byte} {r : Reply} (settled : Settled s) (moves : MovesOnly [l] s v)
    (events : v.scanEvents = s.scanEvents) : OnlyCallChanges s (v.finish.respond p k r) l := by
  have ended := ended_finish v
  generalize v.finish = w at ended ⊢
  have frame := w.respond_frame p k r
  generalize w.respond p k r = z at frame ⊢
  refine ⟨?_, fun j other waits request => ?_⟩
  · obtain ⟨passDue, tapReturned⟩ := ended.settled
    obtain ⟨noPass, noTap⟩ := settled
    rw [frame, ended.frame, moves.frame, passDue, tapReturned, noPass, noTap, events]
  · have apart : j ∉ [l] := by simpa using other
    obtain ⟨line, entry⟩ := ended.line j (fun w hw => waits w (moves.waits w hw)) ((moves.request j apart).trans request)
    have relay : w.relay j = v.relay j := by
      rw [ended.frame]
      rfl
    rw [frame]
    exact ⟨line.trans (moves.line j apart), entry.trans (moves.entry j apart), relay.trans (moves.relay j apart)⟩

/-- A request of port M that leaves its line with nothing, once it is answered. -/
theorem answered_of_moves {kind : Nat} {act : State → Port → LineNo → State × Reply} {rest : List ReplyItem} (settled : Settled s)
    (asks : Asks s .M kind [byteOf l.val] rest) (small : kind < 256) (fits : bodyFits kind [byteOf l.val] = true)
    (may : permitted kind [byteOf l.val] .M = true) (acts : act (taken s .M rest) .M l = (v, .ok))
    (moves : MovesOnly [l] (taken s .M rest) v) (agreed : Agreed v) (free : (v.line l).state.holdsNothing = true)
    (commands : v.commandsOf l = s.commandsOf l ++ [.discardPulseCount]) (events : v.scanEvents = s.scanEvents)
    (reports : SameReports w v) :
    ∃ t, takeRequest kind .M (State.onLine act) s = .next t ∧ t.line l = v.line l ∧ HoldsNothing t l
      ∧ t.commandsOf l = s.commandsOf l ++ [.discardPulseCount] ∧ QueuesExtend w t ∧ OnlyCallChanges s t l
      ∧ (t.port .M).sent = (s.port .M).sent ++ [responseFrame (byteOf kind) .ok] := by
  have ended := ended_finish v
  have line : v.finish.line l = v.line l := line_finish agreed free
  have calls : OnlyCallChanges s (v.finish.respond .M (byteOf kind) .ok) l :=
    onlyCallChanges_of_moves settled ((movesOnly_taken s .M rest).trans moves) events
  have finished : Agreed v.finish := agreed.finish
  generalize hw : v.finish = x at *
  have answer : takeRequest kind .M (State.onLine act) s = .next (x.respond .M (byteOf kind) .ok) := by
    rw [takeRequest_of_asks asks small, handOver_ok fits may, onLine_byteOf, acts]
    dsimp only
    rw [hw]
  have unmoved := unmoved_respond x .M (byteOf kind) .ok
  have lineAfter : (x.respond .M (byteOf kind) .ok).line l = v.line l := (line_of_lines unmoved.lines l).trans line
  refine ⟨_, answer, lineAfter, holdsNothing_of_agreed (unmoved.agreed finished) (by rw [lineAfter]; exact free), ?_, ?_, calls, ?_⟩
  · rw [respond_frame, ended.frame]
    exact commands
  · exact queuesExtend_trans reports.extend (queuesExtend_trans ended.queues (queuesExtend_of_eq (respond_queues x _ _ _)))
  · have sent : (x.port .M).sent = (s.port .M).sent :=
      (ended.sent .M).trans ((moves.sent .M).trans (sameSent_taken s .M rest .M))
    rw [respond_def_ports]
    simp only [sent]

/-! ## The obligations on PARK, REMOVE LINE and FORCE RELEASE -/

theorem teardownReports_eq (s : State) (l : LineNo) (b : ReportBody) :
    teardownReports s l b = ((s.freeRingReport l .park).abandonOffer l .teardown).report l b := by
  rw [teardownReports, ringStopReport_maintenance]

theorem agreed_taken (h : Agreed s) (p : Port) (rest : List ReplyItem) : Agreed (taken s p rest) :=
  h.of_eq (by simp) (by simp) (by simp) (by simp) (by simp) (by simp)

theorem sameReports_refl (s : State) : SameReports s s := ⟨rfl, rfl, rfl, rfl⟩

theorem tornDown_taken (s : State) (p : Port) (rest : List ReplyItem) (l : LineNo) (c : TeardownCause) :
    (taken s p rest).tornDown l c = s.tornDown l c := by
  cases c <;> simp [tornDown]

theorem parkLine_of_in_service (p : Port) (out : (s.line l).state ≠ .outOfService) (parked : (s.line l).state ≠ .parked) :
    s.parkLine p l = (s.teardown l .park, .ok) := by
  unfold State.parkLine
  split
  · contradiction
  · contradiction
  · rfl

theorem removeLine_of_in_service (p : Port) (out : (s.line l).state ≠ .outOfService) :
    s.removeLine p l = ((s.teardown l .remove).modLine l fun r => { r with admin := true }, .ok) := by
  have service : ((s.line l).state == .outOfService) = false := by simpa using out
  simp [State.removeLine, service]

/-- PARK of a line in service (R16, R17). -/
theorem park_tears_down {rest : List ReplyItem} (consistent : Consistent s) (asks : Asks s .M 14 [byteOf l.val] rest)
    (out : (s.line l).state ≠ .outOfService) (parked : (s.line l).state ≠ .parked) :
    ∃ t, exec (.park .M) s = .next t ∧ t.line l = s.tornDown l .park ∧ HoldsNothing t l
      ∧ t.commandsOf l = s.commandsOf l ++ [.discardPulseCount]
      ∧ QueuesExtend (teardownReports (taken s .M rest) l (.lineParked .maintenance)) t ∧ OnlyCallChanges s t l
      ∧ (t.port .M).sent = (s.port .M).sent ++ [responseFrame 14#8 .ok] := by
  obtain ⟨settled, agreed⟩ := consistent_iff.1 consistent
  have torn := line_teardown (taken s .M rest) l .park
  rw [teardownReports_eq, ← tornDown_taken s .M rest, ← torn]
  exact answered_of_moves settled asks (by decide) rfl rfl (parkLine_of_in_service .M (by simpa using out) (by simpa using parked))
    (movesOnly_teardown _ l .park) (Loose.teardown (agreed_taken agreed .M rest) l .park) (by rw [torn]; rfl)
    (by simp [commandsOf_teardown]) (by simp [scanEvents_teardown]) (SameReports.teardown (sameReports_refl _) rfl rfl .park)

/-- REMOVE LINE of a line in service (R16, R20). -/
theorem removeLine_tears_down {rest : List ReplyItem} (consistent : Consistent s) (asks : Asks s .M 16 [byteOf l.val] rest)
    (out : (s.line l).state ≠ .outOfService) :
    ∃ t, exec (.removeLine .M) s = .next t ∧ t.line l = { s.tornDown l .remove with admin := true } ∧ HoldsNothing t l
      ∧ t.commandsOf l = s.commandsOf l ++ [.discardPulseCount]
      ∧ QueuesExtend (teardownReports (taken s .M rest) l .lineLost) t ∧ OnlyCallChanges s t l
      ∧ (t.port .M).sent = (s.port .M).sent ++ [responseFrame 16#8 .ok] := by
  obtain ⟨settled, agreed⟩ := consistent_iff.1 consistent
  have torn := line_teardown (taken s .M rest) l .remove
  have tornAgreed : Agreed ((taken s .M rest).teardown l .remove) := Loose.teardown (agreed_taken agreed .M rest) l .remove
  have reports := SameReports.teardown (sameReports_refl (taken s .M rest)) (l := l) rfl rfl .remove
  have moves := movesOnly_teardown (taken s .M rest) l .remove
  have commands := commandsOf_teardown (taken s .M rest) l .remove
  have events := scanEvents_teardown (taken s .M rest) l .remove
  have acts := removeLine_of_in_service (s := taken s .M rest) (l := l) .M (by simpa using out)
  rw [teardownReports_eq, ← tornDown_taken s .M rest, ← torn]
  generalize (taken s .M rest).teardown l .remove = x at *
  have answered := answered_of_moves settled asks (by decide) rfl rfl acts (moves.trans (movesOnly_setLine x l _))
    (tornAgreed.setLine rfl (tornAgreed.recordRight l).congr) (by rw [line_modLine_same, torn]; rfl)
    (by simpa [modLine_eq] using commands) (by simpa [modLine_eq] using events) (reports.trans (sameReports_setLine x l _))
  simp only [line_modLine_same] at answered
  exact answered

/-- Settles O22: PARK and REMOVE LINE are teardowns with one more report or mark, taken to the end of the event. -/
theorem parkAndRemoveTearTheLineDown : Obligations.ParkAndRemoveTearTheLineDown := by
  refine ⟨fun s l rest consistent asks => ?_, fun s l rest consistent asks => ?_⟩
  · have free := settled_taken consistent.1 .M rest
    refine ⟨fun out parked => park_tears_down consistent asks out parked, fun parked => ?_, fun out => ?_⟩
    · refine takeRequest_line asks (by decide) rfl rfl (by simp [parkLine, parked]) ?_
      simpa [Settled, modLine_eq] using free
    · exact takeRequest_line asks (by decide) rfl rfl (by simp [parkLine, out]) free
  · have free := settled_taken consistent.1 .M rest
    refine ⟨fun out => removeLine_tears_down consistent asks out, fun out => ?_⟩
    refine takeRequest_line asks (by decide) rfl rfl (by simp [removeLine, out]) ?_
    simpa [Settled, modLine_eq] using free

/-- FORCE RELEASE of a line with a holder or an orphan (R22). -/
theorem forceRelease_frees {rest : List ReplyItem} (consistent : Consistent s) (asks : Asks s .M 18 [byteOf l.val] rest)
    (held : (s.line l).holder.isSome ∨ (s.line l).orphan = true) :
    ∃ t, exec (.forceRelease .M) s = .next t ∧ t.line l = s.forceReleasedRecord l ∧ HoldsNothing t l
      ∧ t.commandsOf l = s.commandsOf l ++ [.discardPulseCount]
      ∧ QueuesExtend (teardownReports (taken s .M rest) l .releaseForced) t ∧ OnlyCallChanges s t l
      ∧ (t.port .M).sent = (s.port .M).sent ++ [responseFrame 18#8 .ok] := by
  obtain ⟨settled, agreed⟩ := consistent_iff.1 consistent
  have same : (taken s .M rest).forceReleasedRecord l = s.forceReleasedRecord l := by simp [forceReleasedRecord]
  have line : ((taken s .M rest).forceReleased l).line l = (taken s .M rest).forceReleasedRecord l := by
    rw [forceReleased_eq, line_setLine_same]
  have free : ((taken s .M rest).forceReleasedRecord l).state.holdsNothing = true := by
    unfold forceReleasedRecord
    split <;> rfl
  have released : Agreed ((taken s .M rest).forceReleased l) := Loose.forceReleased (agreed_taken agreed .M rest) l
  have acts : (taken s .M rest).forceRelease .M l = ((taken s .M rest).forceReleased l, .ok) := by
    simp [State.forceRelease, held]
  have commands : ((taken s .M rest).forceReleased l).commandsOf l = s.commandsOf l ++ [.discardPulseCount] := by
    simp [forceReleased_eq, commandsOf_freeLine]
  have events : ((taken s .M rest).forceReleased l).scanEvents = s.scanEvents := by
    obtain ⟨same, -⟩ := (taken s .M rest).freeLine_frame l .park
    simp [forceReleased_eq, same]
  have reports : SameReports (teardownReports (taken s .M rest) l .releaseForced) ((taken s .M rest).forceReleased l) := by
    rw [teardownReports_eq, forceReleased_eq]
    exact ((sameReports_refl _).freeLine rfl rfl .park .releaseForced).trans (sameReports_setLine _ l _)
  rw [← same, ← line]
  exact answered_of_moves settled asks (by decide) rfl rfl acts (movesOnly_forceReleased _ l) released (by rw [line]; exact free)
    commands events reports

/-- Settles O24: FORCE RELEASE frees the line as PARK does, reports RELEASE FORCED, and goes to IDLE or PARKED by the hook field. -/
theorem forceReleaseFreesTheLine : Obligations.ForceReleaseFreesTheLine := by
  intro s l rest consistent asks
  refine ⟨fun held => forceRelease_frees consistent asks held, fun none orphan => ?_⟩
  exact takeRequest_line asks (by decide) rfl rfl (by simp [forceRelease, none, orphan]) (settled_taken consistent.1 .M rest)

end Sys2Proof.Machine.State
end

section
/-! PROOFS. The card events at a card's eight line records (R24, R25): the walk over the lines, and what it makes of each record, of the
scanner's queues and of the report queues: the obligation O25. -/

namespace Sys2Proof.Machine.State

open Sys2Proof.Safety

variable {s t v w : State} {l : LineNo} {c : CardNo} {ks : List LineNo}

/-! ## The lines of a card -/

theorem mem_cardLines : l ∈ cardLines c ↔ cardOf l = c := by
  revert l c
  decide

theorem cardLines_nodup (c : CardNo) : (cardLines c).Nodup := by
  revert c
  decide

/-! ## Walks over lines -/

/-- A walk leaves what its steps leave at the other lines. -/
theorem foldl_other {α : Type} {f : State → LineNo → State} {read : State → LineNo → α}
    (other : ∀ s k j, j ≠ k → read (f s k) j = read s j) (h : l ∉ ks) (s : State) : read (ks.foldl f s) l = read s l := by
  induction ks generalizing s with
  | nil => rfl
  | cons k ks ih =>
    rw [List.mem_cons, not_or] at h
    exact (ih h.2 _).trans (other s k l h.1)

/-- What a walk makes of one of its lines is what the step at that line makes of it. -/
theorem foldl_at {α : Type} {f : State → LineNo → State} {read : State → LineNo → α} {g : α → α}
    (other : ∀ s k j, j ≠ k → read (f s k) j = read s j) (here : ∀ s k, read (f s k) k = g (read s k)) (nodup : ks.Nodup)
    (h : l ∈ ks) (s : State) : read (ks.foldl f s) l = g (read s l) := by
  induction ks generalizing s with
  | nil => simp at h
  | cons k ks ih =>
    obtain ⟨fresh, nodup⟩ := List.nodup_cons.1 nodup
    rcases List.mem_cons.1 h with rfl | later
    · exact (foldl_other other fresh _).trans (here s l)
    · have apart : l ≠ k := fun e => fresh (e ▸ later)
      exact (ih nodup later _).trans (congrArg g (other s k l apart))

/-- A frame that every step keeps, the walk keeps. -/
theorem foldl_frame {R : State → State → Prop} {f : State → LineNo → State} (refl : ∀ s, R s s)
    (trans : ∀ {a b d}, R a b → R b d → R a d) (step : ∀ s k, R s (f s k)) (ks : List LineNo) (s : State) : R s (ks.foldl f s) := by
  induction ks generalizing s with
  | nil => exact refl s
  | cons k ks ih => exact trans (step s k) (ih _)

/-- The walk of a card event: at each line the event leaves the scanner's queue and the line record acts on it. -/
def cardStep (act : State → LineNo → State) (s : State) (l : LineNo) : State := act (s.dropEvent l) l

theorem takeCardEvent_eq (s : State) (c : CardNo) (act : State → LineNo → State) :
    s.takeCardEvent c act = ((cardLines c).foldl (cardStep act) s).finish := rfl

/-- A card event is there to be taken when each of the card's lines has it first. -/
theorem cardEventDue_of_all {is : ScanEvent → Bool} (h : ∀ l, cardOf l = c → ∃ e es, s.eventsOf l = e :: es ∧ is e = true) :
    s.cardEventDue c is = true := by
  rw [cardEventDue, List.all_eq_true]
  intro l hl
  obtain ⟨e, es, events, named⟩ := h l (mem_cardLines.1 hl)
  simp [events, named]

/-! ## What a line record makes of its card event -/

/-- CARD LOSS at a record (R24). -/
def lostRecord (r : LineRecord) : LineRecord :=
  if r.state = .outOfService then { r with oosReason := some .card }
  else { r.enter .outOfService with oosReason := some .card, hook := .on }

/-- CARD PRESENT at a record (R25). -/
def presentRecord (r : LineRecord) : LineRecord := if r.oosReason = some .card then { r with oosReason := some .settle } else r

/-- CARD SETTLED at a record (R25). -/
def settledRecord (r : LineRecord) : LineRecord :=
  if r.state = .outOfService then
    if r.admin then { r with oosReason := some .admin } else { r.enter .idle with hook := .on }
  else r

theorem lineCardLost_eq (s : State) (l : LineNo) :
    s.lineCardLost l
      = if (s.line l).state = .outOfService then s.setLine l { s.line l with oosReason := some .card } else s.teardown l .cardLoss := by
  simp [lineCardLost, modLine_eq]

theorem lineCardPresent_eq (s : State) (l : LineNo) : s.lineCardPresent l = s.setLine l (presentRecord (s.line l)) := by
  unfold lineCardPresent presentRecord
  by_cases h : (s.line l).oosReason = some .card <;> simp [h, modLine_eq]

theorem line_lineCardLost (s : State) (l : LineNo) : (s.lineCardLost l).line l = lostRecord (s.line l) := by
  rw [lineCardLost_eq, lostRecord]
  split
  · simp
  · rw [line_teardown]; rfl

theorem movesOnly_lineCardLost (s : State) (l : LineNo) : MovesOnly [l] s (s.lineCardLost l) := by
  rw [lineCardLost_eq]
  split
  · exact movesOnly_setLine s l _
  · exact movesOnly_teardown s l .cardLoss

theorem scanEvents_lineCardLost (s : State) (l : LineNo) : (s.lineCardLost l).scanEvents = s.scanEvents := by
  rw [lineCardLost_eq]
  split
  · rfl
  · exact scanEvents_teardown s l .cardLoss

theorem movesOnly_lossStep (s : State) (l : LineNo) : MovesOnly [l] s (cardStep lineCardLost s l) :=
  (movesOnly_setEvents s l _).trans (movesOnly_lineCardLost _ l)

/-- The event queues after one line's part of a card event. -/
theorem eventsOf_cardStep {act : State → LineNo → State} (keeps : ∀ s l, (act s l).scanEvents = s.scanEvents) (s : State) (l : LineNo) :
    (cardStep act s l).eventsOf l = (s.eventsOf l).tail ∧ ∀ k, k ≠ l → (cardStep act s l).eventsOf k = s.eventsOf k := by
  have same (k : LineNo) : (cardStep act s l).eventsOf k = (s.dropEvent l).eventsOf k := by
    simp only [cardStep, eventsOf, keeps]
  exact ⟨by rw [same]; simp [dropEvent], fun k hk => by rw [same]; simp [dropEvent, hk]⟩

/-! ## The reports of a walk -/

/-- The reports of a walk so far stand in `v`, which is `s` but for its report queues, and in `t`, and the lines to come are in `t` as
they were. -/
structure WalkSoFar (s v t : State) (ks : List LineNo) : Prop where
  reports : SameReports v t
  reported : v = { s with queues := v.queues, ports := v.ports }
  line : ∀ k ∈ ks, t.line k = s.line k
  ring : ∀ k ∈ ks, t.ringOf k = s.ringOf k

theorem walkSoFar_refl (s : State) (ks : List LineNo) : WalkSoFar s s s ks :=
  ⟨sameReports_refl s, rfl, fun _ _ => rfl, fun _ _ => rfl⟩

theorem WalkSoFar.line_eq (a : WalkSoFar s v t (l :: ks)) : t.line l = v.line l := by
  rw [a.line l List.mem_cons_self, a.reported]
  rfl

theorem WalkSoFar.ringOf_eq (a : WalkSoFar s v t (l :: ks)) : t.ringOf l = v.ringOf l := by
  rw [a.ring l List.mem_cons_self, a.reported]
  rfl

/-- A walk makes the reports that `rep` makes line by line, when each of its steps does at its line. -/
theorem WalkSoFar.walk {rep f : State → LineNo → State} {P : LineNo → Prop} (moves : ∀ t k, MovesOnly [k] t (f t k))
    (frame : ∀ v k, rep v k = { v with queues := (rep v k).queues, ports := (rep v k).ports })
    (step : ∀ {v t k ks}, P k → WalkSoFar s v t (k :: ks) → SameReports (rep v k) (f t k)) (nodup : ks.Nodup) (all : ∀ k ∈ ks, P k)
    (a : WalkSoFar s v t ks) : SameReports (ks.foldl rep v) (ks.foldl f t) := by
  induction ks generalizing v t with
  | nil => exact a.reports
  | cons k ks ih =>
    obtain ⟨fresh, nodup⟩ := List.nodup_cons.1 nodup
    have apart {j : LineNo} (hj : j ∈ ks) : j ∉ [k] := by
      rw [List.mem_singleton]
      exact fun e => fresh (e ▸ hj)
    refine ih nodup (fun j hj => all j (List.mem_cons_of_mem k hj)) ⟨step (all k List.mem_cons_self) a, ?_, ?_, ?_⟩
    · rw [frame, a.reported]
    · exact fun j hj => ((moves t k).line j (apart hj)).trans (a.line j (List.mem_cons_of_mem k hj))
    · intro j hj
      have same : (f t k).ringOf j = t.ringOf j := by
        simp only [ringOf, (moves t k).entry j (apart hj), (moves t k).request j (apart hj)]
      exact same.trans (a.ring j (List.mem_cons_of_mem k hj))

/-! ## CARD LOSS (R24) -/

/-- The reports of one line at a card loss (R16, R24), as `cardLossReports` makes them: `v` carries the reports made so far. -/
def lossReport (s v : State) (l : LineNo) : State :=
  if (s.line l).state = .outOfService then v
  else
    let v := match s.ringOf l with
      | some (party, program, cycles) => v.report l (.ringFailed .lineLost party program cycles)
      | none => v
    (v.abandonOffer l .teardown).report l .lineLost

theorem cardLossReports_eq (s : State) (c : CardNo) : cardLossReports s c = (cardLines c).foldl (lossReport s) s := rfl

/-- With the ring as it was, a line's part of the loss reports is that of a freed line. -/
theorem lossReport_eq {s v : State} (ring : v.ringOf l = s.ringOf l) :
    lossReport s v l
      = if (s.line l).state = .outOfService then v
        else ((v.freeRingReport l .cardLoss).abandonOffer l .teardown).report l .lineLost := by
  unfold lossReport freeRingReport
  rw [ring]
  cases s.ringOf l <;> rfl

theorem lossReport_frame (s v : State) (l : LineNo) :
    lossReport s v l = { v with queues := (lossReport s v l).queues, ports := (lossReport s v l).ports } := by
  unfold lossReport
  split
  · rfl
  · dsimp only
    split
    · rw [report_frame, abandonOffer_frame, report_frame]
    · rw [report_frame, abandonOffer_frame]

/-- One line's part of a card loss makes that line's reports. -/
theorem sameReports_lossStep (a : WalkSoFar s v t (l :: ks)) : SameReports (lossReport s v l) (cardStep lineCardLost t l) := by
  have ring : v.ringOf l = s.ringOf l := a.ringOf_eq.symm.trans (a.ring l List.mem_cons_self)
  have state : ((t.dropEvent l).line l).state = (s.line l).state := congrArg LineRecord.state (a.line l List.mem_cons_self)
  have dropped : SameReports v (t.dropEvent l) := a.reports.trans ⟨rfl, rfl, rfl, rfl⟩
  rw [lossReport_eq ring, cardStep, lineCardLost_eq, state]
  split
  · exact dropped.trans (sameReports_setLine _ l _)
  · exact dropped.teardown a.line_eq a.ringOf_eq .cardLoss

/-- The walk of a card loss makes the reports of the loss. -/
theorem sameReports_loss (s : State) (c : CardNo) : SameReports (cardLossReports s c) ((cardLines c).foldl (cardStep lineCardLost) s) := by
  rw [cardLossReports_eq]
  exact WalkSoFar.walk (P := fun _ => True) movesOnly_lossStep (lossReport_frame s) (fun _ a => sameReports_lossStep a) (cardLines_nodup c)
    (fun _ _ => trivial) (walkSoFar_refl s _)

/-- The card event of a loss, taken at all eight records. -/
theorem exec_cardLoss (h : ∀ l, cardOf l = c → ∃ at_ es, s.eventsOf l = .cardLoss at_ :: es) :
    exec (.cardLoss c) s = .next ((cardLines c).foldl (cardStep lineCardLost) s).finish := by
  have due : s.cardEventDue c ScanEvent.isCardLoss = true := cardEventDue_of_all fun l hl => by
    obtain ⟨at_, es, events⟩ := h l hl
    exact ⟨_, es, events, rfl⟩
  simp only [exec, execCardLoss, due, if_true, takeCardEvent_eq]

theorem lostRecord_state (r : LineRecord) : (lostRecord r).state = .outOfService := by
  unfold lostRecord
  split
  · assumption
  · rfl

/-- The part of O25 about a card loss. -/
theorem cardLoss_moves_the_lines (consistent : Consistent s) (events : ∀ l, cardOf l = c → ∃ at_ es, s.eventsOf l = .cardLoss at_ :: es) :
    ∃ t, exec (.cardLoss c) s = .next t
      ∧ (∀ l, cardOf l = c → t.line l = lostRecord (s.line l) ∧ t.eventsOf l = (s.eventsOf l).tail ∧ HoldsNothing t l)
      ∧ QueuesExtend (cardLossReports s c) t
      ∧ t = { s with lines := t.lines, tone := t.tone, programs := t.programs, alloc := t.alloc, entries := t.entries,
                     relays := t.relays, indications := t.indications, scanEvents := t.scanEvents,
                     scanCommands := t.scanCommands, queues := t.queues, ports := t.ports }
      ∧ ∀ l, cardOf l ≠ c → (∀ w ∈ s.tone.queue, w.line ≠ l) → s.request l = none →
          t.line l = s.line l ∧ t.eventsOf l = s.eventsOf l := by
  obtain ⟨⟨noPass, noTap⟩, agreed⟩ := consistent_iff.1 consistent
  refine ⟨_, exec_cardLoss events, ?_⟩
  have walked : Agreed ((cardLines c).foldl (cardStep lineCardLost) s) :=
    Loose.foldLines (fun h l => (h.dropEvent l).lineCardLost l) (cardLines c) agreed
  have moves : MovesOnly (cardLines c) s ((cardLines c).foldl (cardStep lineCardLost) s) :=
    movesOnly_foldl movesOnly_lossStep (fun _ h => h) s
  have reports := sameReports_loss s c
  have line {l : LineNo} (hl : cardOf l = c) : ((cardLines c).foldl (cardStep lineCardLost) s).line l = lostRecord (s.line l) :=
    foldl_at (read := State.line) (fun t k j hj => (movesOnly_lossStep t k).line j (by simpa using hj))
      (fun t k => line_lineCardLost (t.dropEvent k) k) (cardLines_nodup c) (mem_cardLines.2 hl) s
  have tails {l : LineNo} (hl : cardOf l = c) : ((cardLines c).foldl (cardStep lineCardLost) s).eventsOf l = (s.eventsOf l).tail :=
    foldl_at (read := State.eventsOf) (fun t k => (eventsOf_cardStep scanEvents_lineCardLost t k).2)
      (fun t k => (eventsOf_cardStep scanEvents_lineCardLost t k).1) (cardLines_nodup c) (mem_cardLines.2 hl) s
  have others {l : LineNo} (hl : cardOf l ≠ c) : ((cardLines c).foldl (cardStep lineCardLost) s).eventsOf l = s.eventsOf l :=
    foldl_other (read := State.eventsOf) (fun t k => (eventsOf_cardStep scanEvents_lineCardLost t k).2) (mt mem_cardLines.1 hl) s
  generalize (cardLines c).foldl (cardStep lineCardLost) s = v at *
  have ended := ended_finish v
  have finished : Agreed v.finish := walked.finish
  have kept {l : LineNo} (hl : cardOf l = c) : v.finish.line l = v.line l :=
    line_finish walked (by rw [line hl, lostRecord_state]; rfl)
  generalize v.finish = t at *
  have sameEvents (l : LineNo) : t.eventsOf l = v.eventsOf l := by
    rw [ended.frame]
    rfl
  refine ⟨fun l hl => ⟨(kept hl).trans (line hl), (sameEvents l).trans (tails hl), ?_⟩, queuesExtend_trans reports.extend ended.queues, ?_,
    fun l hl waits request => ?_⟩
  · exact holdsNothing_of_agreed finished (by rw [kept hl, line hl, lostRecord_state]; rfl)
  · obtain ⟨passDue, tapReturned⟩ := ended.settled
    rw [ended.frame, moves.frame, passDue, tapReturned, noPass, noTap]
  · have apart : l ∉ cardLines c := mt mem_cardLines.1 hl
    obtain ⟨same, -⟩ := ended.line l (fun w hw => waits w (moves.waits w hw)) ((moves.request l apart).trans request)
    exact ⟨same.trans (moves.line l apart), (sameEvents l).trans (others hl)⟩

/-! ## CARD PRESENT (R25) -/

/-- Only line records and event queues differ. -/
def RecordsOnly (s t : State) : Prop := t = { s with lines := t.lines, scanEvents := t.scanEvents }

theorem RecordsOnly.trans (a : RecordsOnly s t) (b : RecordsOnly t v) : RecordsOnly s v := by
  unfold RecordsOnly at *
  rw [b, a]

theorem RecordsOnly.settled (a : RecordsOnly s t) (h : Settled s) : Settled t :=
  ⟨(congrArg State.passDue a).trans h.1, (congrArg State.tapReturned a).trans h.2⟩

theorem recordsOnly_presentStep (s : State) (l : LineNo) : RecordsOnly s (cardStep lineCardPresent s l) := by
  rw [cardStep, lineCardPresent_eq]
  rfl

theorem exec_cardPresent (h : ∀ l, cardOf l = c → ∃ at_ es, s.eventsOf l = .cardPresent at_ :: es) :
    exec (.cardPresent c) s = .next ((cardLines c).foldl (cardStep lineCardPresent) s).finish := by
  have due : s.cardEventDue c ScanEvent.isCardPresent = true := cardEventDue_of_all fun l hl => by
    obtain ⟨at_, es, events⟩ := h l hl
    exact ⟨_, es, events, rfl⟩
  simp only [exec, execCardPresent, due, if_true, takeCardEvent_eq]

theorem line_presentStep (s : State) (l k : LineNo) (h : k ≠ l) : (cardStep lineCardPresent s l).line k = s.line k := by
  rw [cardStep, lineCardPresent_eq, line_setLine_other _ _ _ _ h]
  rfl

theorem scanEvents_lineCardPresent (s : State) (l : LineNo) : (s.lineCardPresent l).scanEvents = s.scanEvents := by
  rw [lineCardPresent_eq]
  rfl

/-- The part of O25 about a card that is present. -/
theorem cardPresent_moves_the_lines (settled : Settled s) (events : ∀ l, cardOf l = c → ∃ at_ es, s.eventsOf l = .cardPresent at_ :: es) :
    ∃ t, exec (.cardPresent c) s = .next t
      ∧ (∀ l, t.line l = (if cardOf l = c ∧ (s.line l).oosReason = some .card then { s.line l with oosReason := some .settle }
                          else s.line l)
          ∧ t.eventsOf l = (if cardOf l = c then (s.eventsOf l).tail else s.eventsOf l))
      ∧ t = { s with lines := t.lines, scanEvents := t.scanEvents } := by
  have frame : RecordsOnly s ((cardLines c).foldl (cardStep lineCardPresent) s) :=
    foldl_frame (R := RecordsOnly) (fun _ => rfl) (fun a b => a.trans b) recordsOnly_presentStep _ s
  have quiet : Settled ((cardLines c).foldl (cardStep lineCardPresent) s) := frame.settled settled
  have tails (t : State) (k : LineNo) := eventsOf_cardStep scanEvents_lineCardPresent t k
  refine ⟨_, (exec_cardPresent events).trans (congrArg _ (finish_settled quiet)), fun l => ?_, frame⟩
  by_cases hl : cardOf l = c
  · have line : ((cardLines c).foldl (cardStep lineCardPresent) s).line l = presentRecord (s.line l) :=
      foldl_at (read := State.line) line_presentStep (fun t k => by rw [cardStep, lineCardPresent_eq, line_setLine_same]; rfl)
        (cardLines_nodup c) (mem_cardLines.2 hl) s
    have queue := foldl_at (read := State.eventsOf) (fun t k => (tails t k).2) (fun t k => (tails t k).1) (cardLines_nodup c)
      (mem_cardLines.2 hl) s
    rw [line, queue]
    simp [presentRecord, hl]
  · rw [foldl_other (read := State.line) line_presentStep (mt mem_cardLines.1 hl) s,
      foldl_other (read := State.eventsOf) (fun t k => (tails t k).2) (mt mem_cardLines.1 hl) s]
    simp [hl]

/-! ## CARD SETTLED (R25) -/

/-- Only line records, the scanner's queues, the report queues and the ports differ. -/
def ReturnsOnly (s t : State) : Prop :=
  t = { s with lines := t.lines, scanEvents := t.scanEvents, scanCommands := t.scanCommands, queues := t.queues, ports := t.ports }

theorem ReturnsOnly.trans (a : ReturnsOnly s t) (b : ReturnsOnly t v) : ReturnsOnly s v := by
  unfold ReturnsOnly at *
  rw [b, a]

theorem ReturnsOnly.settled (a : ReturnsOnly s t) (h : Settled s) : Settled t :=
  ⟨(congrArg State.passDue a).trans h.1, (congrArg State.tapReturned a).trans h.2⟩

/-- CARD SETTLED at a line out of service: the record, and for a line that returns the command and the report. -/
theorem lineCardSettled_eq (s : State) (l : LineNo) :
    s.lineCardSettled l
      = if (s.line l).state = .outOfService ∧ (s.line l).admin = false then
          ((s.setLine l (settledRecord (s.line l))).sendCommand l .takeAfresh).report l .lineRestored
        else s.setLine l (settledRecord (s.line l)) := by
  unfold lineCardSettled settledRecord
  by_cases out : (s.line l).state = .outOfService <;> cases admin : (s.line l).admin <;>
    simp [out, admin, restoreService_eq, modLine_eq]

theorem returnsOnly_settledStep (s : State) (l : LineNo) : ReturnsOnly s (cardStep lineCardSettled s l) := by
  rw [cardStep, lineCardSettled_eq]
  split
  · rw [report_frame]
    rfl
  · rfl

/-- A line's record and the commands to the scanner about it. -/
def recordAndCommands (s : State) (l : LineNo) : LineRecord × List ScanCommand := (s.line l, s.commandsOf l)

/-- What CARD SETTLED makes of them. -/
def settledPair (x : LineRecord × List ScanCommand) : LineRecord × List ScanCommand :=
  (settledRecord x.1, x.2 ++ if x.1.state = .outOfService ∧ x.1.admin = false then [.takeAfresh] else [])

theorem recordAndCommands_settledStep (s : State) (l : LineNo) :
    recordAndCommands (cardStep lineCardSettled s l) l = settledPair (recordAndCommands s l)
    ∧ ∀ k, k ≠ l → recordAndCommands (cardStep lineCardSettled s l) k = recordAndCommands s k := by
  have line : (s.dropEvent l).line l = s.line l := rfl
  rw [cardStep, lineCardSettled_eq, line]
  split
  · rename_i returns
    refine ⟨?_, fun k hk => ?_⟩
    · simp [recordAndCommands, settledPair, returns, sendCommand_eq, dropEvent]
    · simp [recordAndCommands, sendCommand_eq, dropEvent, hk]
  · rename_i stays
    refine ⟨?_, fun k hk => ?_⟩
    · simp [recordAndCommands, settledPair, stays, dropEvent]
    · simp [recordAndCommands, dropEvent, hk]

theorem scanEvents_lineCardSettled (s : State) (l : LineNo) : (s.lineCardSettled l).scanEvents = s.scanEvents := by
  rw [lineCardSettled_eq]
  split <;> simp [sendCommand_eq]

theorem movesOnly_settledStep (s : State) (l : LineNo) : MovesOnly [l] s (cardStep lineCardSettled s l) := by
  rw [cardStep, lineCardSettled_eq]
  have dropped : MovesOnly [l] s (s.dropEvent l) := movesOnly_setEvents s l _
  split
  · exact dropped.trans ((movesOnly_setLine _ l _).trans ((movesOnly_setCommands _ l _).trans (movesOnly_report _ l _)))
  · exact dropped.trans (movesOnly_setLine _ l _)

/-- The report of one line of a settled card: `v` carries the reports made so far. -/
def returnReport (s v : State) (l : LineNo) : State := if !(s.line l).admin then v.report l .lineRestored else v

theorem restoredReports_eq (s : State) (c : CardNo) : restoredReports s c = (cardLines c).foldl (returnReport s) s := by
  rw [restoredReports, List.foldl_filter]
  rfl

theorem returnReport_frame (s v : State) (l : LineNo) :
    returnReport s v l = { v with queues := (returnReport s v l).queues, ports := (returnReport s v l).ports } := by
  unfold returnReport
  split
  · exact v.report_frame l _
  · rfl

/-- A line out of service has no holder, before and after it returns, so that its report goes the same way. -/
theorem sameReports_settledStep {ks : List LineNo} (right : LineRecordRight (s.line l)) (out : (s.line l).state = .outOfService)
    (a : WalkSoFar s v t (l :: ks)) : SameReports (returnReport s v l) (cardStep lineCardSettled t l) := by
  have line : (t.dropEvent l).line l = s.line l := a.line l List.mem_cons_self
  have holder : (s.line l).holder = none := right.holder_none (by rw [out]; rfl)
  have before : (v.line l).holder = none := by
    rw [← a.line_eq]
    exact (congrArg LineRecord.holder line).trans holder
  have dropped : SameReports v (t.dropEvent l) := a.reports.trans ⟨rfl, rfl, rfl, rfl⟩
  rw [returnReport, cardStep, lineCardSettled_eq, line]
  cases admin : (s.line l).admin
  · simp only [out, Bool.not_false, and_self, if_true]
    refine SameReports.report (dropped.trans ?_) ?_ .lineRestored
    · exact ⟨rfl, rfl, rfl, rfl⟩
    · simp [sendCommand_eq, settledRecord, out, admin, before, LineRecord.enter, LineState.unheld]
  · simp only [Bool.not_true, Bool.false_eq_true, Bool.true_eq_false, and_false, if_false]
    exact dropped.trans (sameReports_setLine _ l _)

/-- The walk of a settled card reports LINE RESTORED for each line that returns. -/
theorem sameReports_settled (agreed : Agreed s) (out : ∀ l, cardOf l = c → (s.line l).state = .outOfService) :
    SameReports (restoredReports s c) ((cardLines c).foldl (cardStep lineCardSettled) s) := by
  rw [restoredReports_eq]
  exact WalkSoFar.walk (P := fun k => (s.line k).state = .outOfService) movesOnly_settledStep (returnReport_frame s)
    (fun {_ _ k _} out a => sameReports_settledStep (agreed.recordRight k) out a) (cardLines_nodup c)
    (fun k hk => out k (mem_cardLines.1 hk)) (walkSoFar_refl s _)

theorem exec_cardSettled (h : ∀ l, cardOf l = c → ∃ at_ es, s.eventsOf l = .cardSettled at_ :: es) :
    exec (.cardSettled c) s = .next ((cardLines c).foldl (cardStep lineCardSettled) s).finish := by
  have due : s.cardEventDue c ScanEvent.isCardSettled = true := cardEventDue_of_all fun l hl => by
    obtain ⟨at_, es, events⟩ := h l hl
    exact ⟨_, es, events, rfl⟩
  simp only [exec, execCardSettled, due, if_true, takeCardEvent_eq]

/-- The part of O25 about a settled card. -/
theorem cardSettled_moves_the_lines (consistent : Consistent s)
    (events : ∀ l, cardOf l = c → (s.line l).state = .outOfService ∧ ∃ at_ es, s.eventsOf l = .cardSettled at_ :: es) :
    ∃ t, exec (.cardSettled c) s = .next t
      ∧ (∀ l, t.line l = (if cardOf l = c then
                            (if (s.line l).admin then { s.line l with oosReason := some .admin }
                             else { (s.line l).enter .idle with hook := .on })
                          else s.line l)
          ∧ t.commandsOf l = s.commandsOf l ++ (if cardOf l = c ∧ (s.line l).admin = false then [.takeAfresh] else [])
          ∧ t.eventsOf l = (if cardOf l = c then (s.eventsOf l).tail else s.eventsOf l))
      ∧ t.queues = (restoredReports s c).queues ∧ t.ports = (restoredReports s c).ports
      ∧ t = { s with lines := t.lines, scanEvents := t.scanEvents, scanCommands := t.scanCommands, queues := t.queues,
                     ports := t.ports } := by
  obtain ⟨settled, agreed⟩ := consistent_iff.1 consistent
  have frame : ReturnsOnly s ((cardLines c).foldl (cardStep lineCardSettled) s) :=
    foldl_frame (R := ReturnsOnly) (fun _ => rfl) (fun a b => a.trans b) returnsOnly_settledStep _ s
  have quiet : Settled ((cardLines c).foldl (cardStep lineCardSettled) s) := frame.settled settled
  have reports := sameReports_settled agreed fun l hl => (events l hl).1
  have pairs (t : State) (k : LineNo) := recordAndCommands_settledStep t k
  have tails (t : State) (k : LineNo) := eventsOf_cardStep scanEvents_lineCardSettled t k
  refine ⟨_, (exec_cardSettled fun l hl => (events l hl).2).trans (congrArg _ (finish_settled quiet)), fun l => ?_, reports.queues,
    reports.ports, frame⟩
  by_cases hl : cardOf l = c
  · have pair := foldl_at (read := recordAndCommands) (fun t k => (pairs t k).2) (fun t k => (pairs t k).1) (cardLines_nodup c)
      (mem_cardLines.2 hl) s
    obtain ⟨line, commands⟩ := Prod.mk.inj pair
    have queue := foldl_at (read := State.eventsOf) (fun t k => (tails t k).2) (fun t k => (tails t k).1) (cardLines_nodup c)
      (mem_cardLines.2 hl) s
    rw [line, commands, queue]
    simp [recordAndCommands, settledRecord, (events l hl).1, hl]
  · have pair := foldl_other (read := recordAndCommands) (fun t k => (pairs t k).2) (mt mem_cardLines.1 hl) s
    obtain ⟨line, commands⟩ := Prod.mk.inj pair
    rw [line, commands, foldl_other (read := State.eventsOf) (fun t k => (tails t k).2) (mt mem_cardLines.1 hl) s]
    simp [hl]

/-- Settles O25: each card event is a walk over the card's eight lines, which acts at each line alone. -/
theorem cardEventsMoveTheCardsLines : Obligations.CardEventsMoveTheCardsLines :=
  ⟨fun _ _ consistent events => cardLoss_moves_the_lines consistent events,
    fun _ _ consistent =>
      ⟨fun events => cardPresent_moves_the_lines consistent.1 events, fun events => cardSettled_moves_the_lines consistent events⟩⟩

end Sys2Proof.Machine.State
end

section
/-! PROOFS. A step (R28), and the commands and ringing indications taken at a scanner record (R40, R44, R45): the obligations O1, O31
and O32. -/

namespace Sys2Proof.Machine.State

variable {s : State} {l : LineNo}

/-! ## A step (R28) -/

theorem step_of_pending {c : Instr} {rest : List Instr} (h : s.pending = c :: rest) :
    Machine.step s = exec c { s with pending := rest } := by
  simp only [Machine.step, h]

theorem step_of_no_pending (h : s.pending = []) : Machine.step s = .next s.tick := by
  simp only [Machine.step, h]

/-- Settles O1: the step looks at the queue alone. -/
theorem stepRunsTheFrontCommand : Obligations.StepRunsTheFrontCommand :=
  ⟨fun _ _ _ waiting => step_of_pending waiting, fun _ none => step_of_no_pending none⟩

/-! ## The mode of a scanner record -/

theorem setMode_eq (s : State) (l : LineNo) (m : ScanMode) : s.setMode l m = s.setScan l ⟨m, (s.scan l).ground⟩ := rfl

theorem setScan_scan (s : State) (l : LineNo) : s.setScan l (s.scan l) = s := by
  cases s
  simp [setScan, scan]

/-- A record put into the mode it is in stays as it is. -/
theorem setMode_same (s : State) (l : LineNo) : s.setMode l (s.scan l).mode = s := s.setScan_scan l

/-! ## The ringing indications (R40, R44) -/

theorem exec_stepOn {js : List RingIndication} (h : s.indicationsOf l = .stepOn :: js) :
    exec (.stepOn l) s = .next ((s.setIndications l js).setMode l ((s.scan l).mode.indicated .stepOn)) := by
  simp only [exec, execStepOn, h]

theorem exec_stepOff {js : List RingIndication} (h : s.indicationsOf l = .stepOff :: js) :
    exec (.stepOff l) s = .next ((s.setIndications l js).setMode l ((s.scan l).mode.indicated .stepOff)) := by
  simp only [exec, execStepOff, h]

theorem exec_ringEnd {js : List RingIndication} (h : s.indicationsOf l = .ringEnd :: js) :
    exec (.ringEnd l) s = .next ((s.setIndications l js).setMode l ((s.scan l).mode.indicated .ringEnd)) := by
  simp only [exec, execRingEnd, h]

/-- Settles O31: each command takes its indication, and the table of R40 has a row for each mode. -/
theorem indicationsMoveTheScannerRecord : Obligations.IndicationsMoveTheScannerRecord := by
  refine ⟨fun s l js => ⟨exec_stepOn, exec_stepOff, exec_ringEnd⟩, fun i => ?_, fun run => ?_, fun run fed => ?_, fun run => ?_,
    fun f => ?_⟩
  case refine_1 => cases i <;> rfl
  all_goals exact ⟨rfl, rfl, rfl⟩

/-! ## The Line Table's commands (R45) -/

theorem exec_takeAfresh {cs : List ScanCommand} (h : s.commandsOf l = .takeAfresh :: cs) :
    exec (.takeAfresh l) s = .next ((s.setCommands l cs).takeAfresh l) := by
  simp only [exec, execTakeAfresh, h]

theorem exec_discardPulseCount {cs : List ScanCommand} (h : s.commandsOf l = .discardPulseCount :: cs) :
    exec (.discardPulseCount l) s = .next ((s.setCommands l cs).setMode l (s.scan l).mode.discardPulses) := by
  simp only [exec, execDiscardPulseCount, h]

theorem takeAfresh_in_service (h : (s.card (cardOf l)).state = .inService) : s.takeAfresh l = s.setMode l (.onHook none) := by
  simp [takeAfresh, cardInService, h]

theorem takeAfresh_elsewhere (h : (s.card (cardOf l)).state ≠ .inService) : s.takeAfresh l = s := by
  simp [takeAfresh, cardInService, h]

/-- A mode without a pulse count has none to discard. -/
theorem discardPulses_elsewhere {m : ScanMode} (h : ∀ f, m ≠ .offHook f) : m.discardPulses = m := by
  cases m with
  | offHook f => exact absurd rfl (h f)
  | _ => rfl

/-- Settles O32, by the card's state for take afresh and by the record's mode for discard pulse count. -/
theorem tableCommandsMoveTheScannerRecord : Obligations.TableCommandsMoveTheScannerRecord := by
  refine fun s l cs => ⟨fun command inService => ?_, fun command out => ?_, fun f command mode => ?_, fun command mode => ?_⟩
  · rw [exec_takeAfresh command, takeAfresh_in_service (by simpa using inService)]
    rfl
  · rw [exec_takeAfresh command, takeAfresh_elsewhere (by simpa using out)]
  · rw [exec_discardPulseCount command, mode]
    rfl
  · rw [exec_discardPulseCount command, discardPulses_elsewhere mode]
    exact congrArg _ (setMode_same (s.setCommands l cs) l)

end Sys2Proof.Machine.State
end

section
/-! PROOFS. A sample of one line (R29 to R44): the runs that qualify, and the breaks and makes of an off-hook line: the obligations O28
and O30. -/

namespace Sys2Proof.Machine

variable {v : LineSenses} {t : Ms} {c : LineClass}

/-! ## Runs (R29, R32, R41, R43) -/

theorem Run.not_reached {r : Run} (h : t + 5 - r.start < r.qualify) : ¬r.reached t = true := by
  rw [r.reached_iff]
  exact Nat.not_le.2 h

/-- A run is 5 ms long at its first sample (R29). -/
theorem lengthAt_first (t : Ms) : lengthAt t t = 5 := Nat.add_sub_cancel_left t 5

theorem Run.first_not_reached {q : Nat} (h : 5 < q) : ¬(⟨t, q⟩ : Run).reached t = true :=
  Run.not_reached ((lengthAt_first t).trans_lt h)

namespace ScanMode

/-- No run reaches its qualify time at this sample: the mode keeps the run as sampled. -/
theorem onHook_waits {run next : Option OffHookRun} (sampled : OffHookRun.sample run v.offHook t c = next)
    (short : ∀ r, next = some r → ¬r.reached t = true) : (ScanMode.onHook run).sample v t c = (.onHook next, [], false) := by
  simp only [ScanMode.sample, sampled, Option.filter_eq_none_iff.2 short]

theorem onHook_qualifies {run : Option OffHookRun} {r : OffHookRun} (sampled : OffHookRun.sample run v.offHook t c = some r)
    (reached : r.reached t = true) :
    (ScanMode.onHook run).sample v t c = (.offHook (.fresh r.start r.interdigitMake false), [.offHook t r.start], false) := by
  simp only [ScanMode.sample, sampled, Option.filter_some, reached, if_true]

theorem ringOff_waits {run next : Option OffHookRun} (sampled : OffHookRun.sample run v.offHook t c = next)
    (short : ∀ r, next = some r → ¬r.reached t = true) : (ScanMode.ringOff run).sample v t c = (.ringOff next, [], false) := by
  simp only [ScanMode.sample, sampled, Option.filter_eq_none_iff.2 short]

theorem ringOff_qualifies {run : Option OffHookRun} {r : OffHookRun} (sampled : OffHookRun.sample run v.offHook t c = some r)
    (reached : r.reached t = true) :
    (ScanMode.ringOff run).sample v t c
      = (.offHook (.fresh r.start r.interdigitMake true), [.answer t .offHook .off r.start], false) := by
  simp only [ScanMode.sample, sampled, Option.filter_some, reached, if_true]

theorem ringOn_waits {run next : Option Run} (fed : Bool) (sampled : Run.sample run v.ringTrip t c = next)
    (short : ∀ r, next = some r → ¬r.reached t = true) :
    (ScanMode.ringOn run fed).sample v t c = (.ringOn next (fed || v.ringCurrent), [], v.ringCurrent && !fed) := by
  simp only [ScanMode.sample, sampled, Option.filter_eq_none_iff.2 short]

theorem ringOn_qualifies {run : Option Run} {r : Run} (fed : Bool) (sampled : Run.sample run v.ringTrip t c = some r)
    (reached : r.reached t = true) :
    (ScanMode.ringOn run fed).sample v t c
      = (.offHook (.fresh t c.interdigitMake true), [.answer t .ringTrip .on r.start], v.ringCurrent && !fed) := by
  simp only [ScanMode.sample, sampled, Option.filter_some, reached, if_true]

end ScanMode

/-- Settles O28: in each of the three modes a sample ends, begins or extends the run, and the run so sampled waits or qualifies. -/
theorem runsQualifyAtTheirLatchedTime : Obligations.RunsQualifyAtTheirLatchedTime := by
  intro v t c r q fed
  dsimp only
  refine ⟨fun old off => ?_, fun off long => ?_, fun off short => ?_, fun off reached => ?_, fun old trip => ?_, fun trip long => ?_,
    fun trip short => ?_, fun trip reached => ?_⟩
  · have ended : OffHookRun.sample old v.offHook t c = none := by simp [off]
    exact ⟨ScanMode.onHook_waits ended (by simp), ScanMode.ringOff_waits ended (by simp)⟩
  · have begun : OffHookRun.sample none v.offHook t c = some ⟨⟨t, c.originationQualify⟩, c.interdigitMake⟩ := by simp [off]
    have waits : ∀ b : OffHookRun, some ⟨⟨t, c.originationQualify⟩, c.interdigitMake⟩ = some b → ¬b.reached t = true := by
      rintro b ⟨⟩
      exact Run.first_not_reached long
    exact ⟨ScanMode.onHook_waits begun waits, ScanMode.ringOff_waits begun waits⟩
  · have extended : OffHookRun.sample (some r) v.offHook t c = some r := by simp [off]
    have waits : ∀ b : OffHookRun, some r = some b → ¬b.reached t = true := by
      rintro b ⟨⟩
      exact Run.not_reached short
    exact ⟨ScanMode.onHook_waits extended waits, ScanMode.ringOff_waits extended waits⟩
  · have extended : OffHookRun.sample (some r) v.offHook t c = some r := by simp [off]
    have qualified : r.reached t = true := (Run.reached_iff _ t).2 reached
    exact ⟨ScanMode.onHook_qualifies extended qualified, ScanMode.ringOff_qualifies extended qualified⟩
  · exact ScanMode.ringOn_waits fed (by simp [trip]) (by simp)
  · refine ScanMode.ringOn_waits fed (next := some ⟨t, c.ringTripQualify⟩) (by simp [trip]) ?_
    rintro b ⟨⟩
    exact Run.first_not_reached long
  · refine ScanMode.ringOn_waits fed (next := some q) (by simp [trip]) ?_
    rintro b ⟨⟩
    exact Run.not_reached short
  · exact ScanMode.ringOn_qualifies fed (by simp [trip]) ((q.reached_iff t).2 reached)

/-! ## Breaks under measurement (R33, R35, R36, R44) -/

section Breaks

variable {f g : OffHookScan} {b : BreakRun} {es : List ScanEvent}

namespace OffHookScan

/-- A sample of the break `b`, the one that runs or else the one that begins, after an owed digit has ended. At its flash max the
break is a disconnect (R35). -/
theorem breakSample_disconnect (owed : f.endDigitOwed t = (g, es)) (run : f.breakRun.getD (c.beginBreak t) = b)
    (long : b.flashMax ≤ lengthAt b.start t) :
    f.breakSample t c = (.onHook none, es ++ [.disconnect t b.start g.discarded]) := by
  simp only [breakSample, owed, run, long, if_true]
  rfl

/-- From its hit limit on a break is a true break, which takes a deferral back (R36). -/
theorem breakSample_trueBreak (owed : f.endDigitOwed t = (g, es)) (run : f.breakRun.getD (c.beginBreak t) = b)
    (short : lengthAt b.start t < b.flashMax) (long : b.hitLimit ≤ lengthAt b.start t) :
    f.breakSample t c = (.offHook { g with breakRun := some b, deferred := false }, es) := by
  simp only [breakSample, owed, run, Nat.not_le.2 short, long, if_true, if_false]

/-- Below its hit limit a break defers the end of the digit that its make would end (R36). -/
theorem breakSample_below_hitLimit (owed : f.endDigitOwed t = (g, es)) (run : f.breakRun.getD (c.beginBreak t) = b)
    (short : lengthAt b.start t < b.flashMax) (hit : lengthAt b.start t < b.hitLimit) :
    f.breakSample t c
      = (.offHook { g with breakRun := some b,
                           deferred := g.deferred
                             || (decide (0 < g.pulses) && decide (g.interdigitMake ≤ lengthAt g.makeStart t)) }, es) := by
  simp only [breakSample, owed, run, Nat.not_le.2 short, Nat.not_le.2 hit, if_false]
  split
  · rename_i reached
    simp only [reached, Bool.or_true]
  · rename_i early
    simp only [Bool.eq_false_iff.2 early, Bool.or_false]

/-! ## The end of a break (R33, R34, R37, R38) -/

theorem endBreak_hit (hit : t - b.start < b.hitLimit) :
    f.endBreak b t c = ({ f with breakRun := none, deferred := false } : OffHookScan).endDigit t := by
  simp only [endBreak, hit, if_true]

/-- A true break of the length of no pulse and no flash is a bad break (R38). -/
theorem endBreak_bad (long : b.hitLimit ≤ t - b.start)
    (odd : t - b.start < b.pulseBreakMin
      ∨ (b.pulseBreakMin ≤ t - b.start ∧ b.pulseBreakMax < t - b.start ∧ t - b.start < b.flashMin)) :
    f.endBreak b t c = (f.newMake t c).badBreak t b.start (t - b.start) := by
  simp only [endBreak, Nat.not_lt.2 long, if_false]
  rcases odd with below | ⟨above, tooLong, noFlash⟩
  · simp only [below, if_true]
  · simp only [Nat.not_lt.2 above, Nat.not_le.2 tooLong, noFlash, if_true, if_false]

theorem endBreak_pulse (long : b.hitLimit ≤ t - b.start) (low : b.pulseBreakMin ≤ t - b.start)
    (high : t - b.start ≤ b.pulseBreakMax) : f.endBreak b t c = (f.newMake t c).countPulse t (t - b.start) := by
  simp only [endBreak, Nat.not_lt.2 long, Nat.not_lt.2 low, high, if_true, if_false]

theorem endBreak_flash (long : b.hitLimit ≤ t - b.start) (low : b.pulseBreakMin ≤ t - b.start)
    (high : b.pulseBreakMax < t - b.start) (flash : b.flashMin ≤ t - b.start) :
    f.endBreak b t c
      = ({ f.newMake t c with pulses := 0, overlong := false }, [.flash t b.start (t - b.start) f.discarded]) := by
  simp only [endBreak, Nat.not_lt.2 long, Nat.not_lt.2 low, Nat.not_le.2 high, Nat.not_lt.2 flash, if_false]

theorem countPulse_counts (n : Nat) (whole : f.overlong = false) (few : f.pulses < 10) :
    f.countPulse t n = ({ f with pulses := f.pulses + 1 }, [.pulse t n (f.pulses + 1)]) := by
  simp [countPulse, whole, Nat.not_le.2 few]

theorem countPulse_overlong (n : Nat) (many : f.overlong = true ∨ 10 ≤ f.pulses) :
    f.countPulse t n = ({ f with overlong := true }, []) := by
  simp [countPulse, many]

/-! ## A make (R36, R37) -/

theorem endDigit_runs (h : f.pulses = 0 ∨ t + 5 - f.makeStart < f.interdigitMake) : f.endDigit t = (f, []) :=
  f.endDigitOf_runs t _ h

theorem endDigit_ends (pulses : 0 < f.pulses) (long : f.interdigitMake ≤ t + 5 - f.makeStart) :
    f.endDigit t
      = ({ f with pulses := 0, overlong := false, deferred := false }, [.digitEnd t f.outcome f.discarded]) :=
  f.endDigitOf_ends t _ pulses long

end OffHookScan

/-! ## A sample in OFF-HOOK mode (R33, R44) -/

namespace ScanMode

theorem offHook_sample_on_hook {m : ScanMode} (on : v.offHook = false) (latch : f.ringLatch = false)
    (sampled : f.breakSample t c = (m, es)) : (ScanMode.offHook f).sample v t c = (m, es, false) := by
  simp [ScanMode.sample, OffHookScan.sample, on, latch, sampled]

theorem offHook_sample_make (off : v.offHook = true ∨ f.ringLatch = true) (idle : f.breakRun = none)
    (counted : f.endDigit t = (g, es)) : (ScanMode.offHook f).sample v t c = (.offHook g, es, false) := by
  simp [ScanMode.sample, OffHookScan.sample, off, idle, counted]

theorem offHook_sample_end (off : v.offHook = true ∨ f.ringLatch = true) (run : f.breakRun = some b)
    (ended : f.endBreak b t c = (g, es)) : (ScanMode.offHook f).sample v t c = (.offHook g, es, false) := by
  simp [ScanMode.sample, OffHookScan.sample, off, run, ended]

end ScanMode

end Breaks

/-- Settles O30: an on-hook sample extends the running break or begins one, by its length; an off-hook sample counts in the make, or
ends the running break and classifies it by its length. -/
theorem longBreaksDisconnectAndMakesEndDigits : Obligations.LongBreaksDisconnectAndMakesEndDigits := by
  refine ⟨fun f b v at_ c on latch => ?_, fun f v at_ c off _ _ => ?_, fun f b v at_ c run off _ hitShort pulseRange flashAbove _ => ?_⟩
  · have owed (run : f.breakRun = some b) := f.endDigitOwed_running at_ b run
    have current (run : f.breakRun = some b) : f.breakRun.getD (c.beginBreak at_) = b := by simp [run]
    have begun (idle : f.breakRun = none) : f.breakRun.getD (c.beginBreak at_) = c.beginBreak at_ := by simp [idle]
    have notOwed (idle : f.breakRun = none) (early : f.pulses = 0 ∨ at_ - f.makeStart < f.interdigitMake) :
        f.endDigitOwed at_ = (f, []) := (f.endDigitOwed_first at_ idle).trans (f.endDigitOf_runs at_ _ early)
    have first := lengthAt_first at_
    refine ⟨fun run long => ?_, fun run short long => ?_, fun run short hit => ?_, fun idle early hit short => ?_,
      fun idle early long short => ?_, fun idle pulses _ _ long short => ?_⟩
    · exact ScanMode.offHook_sample_on_hook on latch (OffHookScan.breakSample_disconnect (owed run) (current run) long)
    · refine ScanMode.offHook_sample_on_hook on latch ?_
      rw [OffHookScan.breakSample_trueBreak (owed run) (current run) short long, ← run]
    · refine ScanMode.offHook_sample_on_hook on latch ?_
      rw [OffHookScan.breakSample_below_hitLimit (owed run) (current run) short hit, ← run]
      rfl
    · exact ScanMode.offHook_sample_on_hook on latch
        (OffHookScan.breakSample_below_hitLimit (notOwed idle early) (begun idle) (first.trans_lt short) (first.trans_lt hit))
    · exact ScanMode.offHook_sample_on_hook on latch
        (OffHookScan.breakSample_trueBreak (notOwed idle early) (begun idle) (first.trans_lt short) (long.trans_eq first.symm))
    · have ended := (f.endDigitOwed_first at_ idle).trans (f.endDigitOf_ends at_ _ pulses long)
      refine ScanMode.offHook_sample_on_hook on latch ?_
      rcases Nat.lt_or_ge 5 c.hitLimit with hit | long
      · exact OffHookScan.breakSample_below_hitLimit ended (begun idle) (first.trans_lt short) (first.trans_lt hit)
      · exact OffHookScan.breakSample_trueBreak ended (begun idle) (first.trans_lt short) (long.trans_eq first.symm)
  · refine ⟨fun idle early => ?_, fun idle pulses long => ?_, fun b run hit pulses long => ?_⟩
    · exact ScanMode.offHook_sample_make off idle (OffHookScan.endDigit_runs early)
    · refine ScanMode.offHook_sample_make off idle ?_
      rw [OffHookScan.endDigit_ends pulses long, ← idle]
      rfl
    · exact ScanMode.offHook_sample_end off run ((OffHookScan.endBreak_hit hit).trans (OffHookScan.endDigit_ends pulses long))
  · refine ⟨fun hit early => ?_, fun long below => ?_, fun low high whole few => ?_, fun low high many => ?_,
      fun high noFlash => ?_, fun flash _ => ?_⟩ <;> refine ScanMode.offHook_sample_end off run ?_
    · exact (OffHookScan.endBreak_hit hit).trans (OffHookScan.endDigit_runs early)
    · exact OffHookScan.endBreak_bad long (.inl below)
    · exact (OffHookScan.endBreak_pulse (hitShort.le.trans low) low high).trans (OffHookScan.countPulse_counts _ whole few)
    · exact (OffHookScan.endBreak_pulse (hitShort.le.trans low) low high).trans (OffHookScan.countPulse_overlong _ many)
    · have low := pulseRange.trans high.le
      exact OffHookScan.endBreak_bad (hitShort.le.trans low) (.inr ⟨low, high, noFlash⟩)
    · have high := flashAbove.trans_le flash
      have low := pulseRange.trans high.le
      exact OffHookScan.endBreak_flash (hitShort.le.trans low) low high flash

end Sys2Proof.Machine
end

section
/-! PROOFS. The shelf at a scan instant: the card-present sense (R47), the settling of a card (R48), and the walk over the cards and
their lines (R28, R29, R46): the obligations O26 and O27. -/

namespace Sys2Proof.Machine

/-! ## The card-present sense (R47) -/

namespace CardRecord

variable {c : CardRecord} {present : Bool} {t : Ms}

theorem agrees_iff : (present == (c.state != .absent)) = true ↔ (present = true ↔ c.state ≠ .absent) := by
  cases present <;> simp

theorem sample_agrees (h : present = true ↔ c.state ≠ .absent) : c.sample present t = { c with differed := false } := by
  rw [sample, if_pos (agrees_iff.2 h)]

theorem sample_differs_first (h : ¬(present = true ↔ c.state ≠ .absent)) (first : c.differed = false) :
    c.sample present t = { c with differed := true } := by
  rw [sample, if_neg (mt agrees_iff.1 h), first]
  rfl

theorem sample_differs_again (h : ¬(present = true ↔ c.state ≠ .absent)) (again : c.differed = true) :
    c.sample present t = if present then ⟨.settling, some t, false⟩ else ⟨.absent, none, false⟩ := by
  rw [sample, if_neg (mt agrees_iff.1 h), again]
  rfl

/-- A card that has settled goes IN SERVICE (R48). -/
def settled (c : CardRecord) : CardRecord := { c with state := .inService, settleStart := none }

end CardRecord

namespace State

variable {s t : State} {l : LineNo} {c : CardNo}

/-! ## What a walk makes of one thing that is read -/

section Walk

variable {κ α : Type} {f : State → κ → State} {read : State → α} {g : α → α} {k : κ} {ks : List κ}

/-- A walk leaves what none of its steps changes. -/
theorem foldl_unread (other : ∀ j ∈ ks, ∀ s, read (f s j) = read s) (s : State) : read (ks.foldl f s) = read s := by
  induction ks generalizing s with
  | nil => rfl
  | cons k ks ih =>
    obtain ⟨here, later⟩ := List.forall_mem_cons.1 other
    exact (ih later _).trans (here s)

/-- What only one step of a walk changes is, after the walk, what that step makes of it. The step may depend on its place, which
`foldl_at` does not allow. -/
theorem foldl_once (other : ∀ j, j ≠ k → ∀ s, read (f s j) = read s) (here : ∀ s, read (f s k) = g (read s)) (nodup : ks.Nodup)
    (h : k ∈ ks) (s : State) : read (ks.foldl f s) = g (read s) := by
  induction ks generalizing s with
  | nil => simp at h
  | cons i ks ih =>
    obtain ⟨fresh, nodup⟩ := List.nodup_cons.1 nodup
    rcases List.mem_cons.1 h with rfl | later
    · exact (foldl_unread (fun j hj => other j fun e => fresh (e ▸ hj)) _).trans (here s)
    · have apart : i ≠ k := fun e => fresh (e ▸ later)
      exact (ih nodup later _).trans (congrArg g (other i apart s))

end Walk

/-! ## What a line's scanner holds -/

/-- The things a scan instant reads and writes for one line: its card, its class, its scanner record, and its notices. -/
structure LineScan where
  card : CardRecord
  cls : LineClass
  scan : ScanRecord
  events : List ScanEvent
  bursts : List Ms

def lineScan (s : State) (l : LineNo) : LineScan :=
  ⟨s.card (cardOf l), s.lineClass l, s.scan l, s.eventsOf l, s.burstsOf l⟩

namespace LineScan

/-- The line is sampled at the instant `at_` (R29). -/
def sampled (w : LineScan) (v : LineSenses) (at_ : Ms) : LineScan :=
  { w with scan := ⟨(w.scan.mode.sample v at_ w.cls).1, v.grounded⟩
           events := w.events ++ (w.scan.mode.sample v at_ w.cls).2.1
           bursts := w.bursts ++ if (w.scan.mode.sample v at_ w.cls).2.2 then [at_] else [] }

/-- An event is delivered to the line (R31). -/
def told (w : LineScan) (e : ScanEvent) : LineScan := { w with events := w.events ++ [e] }

/-- The line's card is lost (R47). -/
def lost (w : LineScan) (at_ : Ms) : LineScan := { w.told (.cardLoss at_) with scan := ⟨.out, false⟩ }

/-- The card-present sense of the line's card is sampled (R47). -/
def sensed (w : LineScan) (present : Bool) (at_ : Ms) : LineScan := { w with card := w.card.sample present at_ }

/-- One scan instant at the line, given the card-present sense, whether a lost card's lines are still sampled (log 6), and the
senses of the line (R29, R47). -/
def scanned (w : LineScan) (present still : Bool) (v : LineSenses) (at_ : Ms) : LineScan :=
  let w' := w.sensed present at_
  match w.card.state, w'.card.state with
  | .inService, .absent => (if still then w'.sampled v at_ else w').lost at_
  | .settling, .absent => w'.lost at_
  | .absent, .settling => w'.told (.cardPresent at_)
  | .inService, _ => w'.sampled v at_
  | _, _ => w'

section Scanned

variable {w : LineScan} {present : Bool} {at_ : Ms} (still : Bool) (v : LineSenses)

theorem scanned_card : (w.scanned present still v at_).card = w.card.sample present at_ := by
  unfold scanned
  dsimp only
  split
  · split <;> rfl
  all_goals rfl

theorem scanned_in_service (old : w.card.state = .inService) (new : (w.card.sample present at_).state = .inService) :
    w.scanned present still v at_ = (w.sensed present at_).sampled v at_ := by
  simp only [scanned, sensed, old, new]

theorem scanned_stays_out (old : w.card.state ≠ .inService) (new : (w.card.sample present at_).state = w.card.state) :
    w.scanned present still v at_ = w.sensed present at_ := by
  unfold scanned
  cases state : w.card.state <;> simp_all [sensed]

theorem scanned_returns (old : w.card.state = .absent) (new : (w.card.sample present at_).state = .settling) :
    w.scanned present still v at_ = (w.sensed present at_).told (.cardPresent at_) := by
  simp only [scanned, sensed, old, new]

/-- The record of a line whose card is not in service is kept unless the card is lost. -/
theorem scanned_scan (old : w.card.state ≠ .inService) (new : (w.card.sample present at_).state ≠ .absent) :
    (w.scanned present still v at_).scan = w.scan := by
  unfold scanned
  dsimp only
  split
  case h_5 => rfl
  all_goals simp_all [sensed, told]

/-- A lost card's lines may be sampled first when the card was in service (log 6). -/
theorem scanned_lost (old : w.card.state ≠ .absent) (new : (w.card.sample present at_).state = .absent) :
    w.scanned present still v at_ = (w.sensed present at_).lost at_
    ∨ w.card.state = .inService
      ∧ w.scanned present still v at_ = ((w.sensed present at_).sampled v at_).lost at_ := by
  cases state : w.card.state with
  | absent => exact absurd state old
  | settling => simp [scanned, sensed, state, new]
  | inService => cases still <;> simp [scanned, sensed, state, new]

end Scanned

end LineScan

/-! ## One line (R29, R31, R47) -/

@[simp] theorem lineClass_setScan (s : State) (k : LineNo) (r : ScanRecord) : (s.setScan k r).lineClass l = s.lineClass l := rfl

@[simp] theorem lineClass_setEvents (s : State) (k : LineNo) (es : List ScanEvent) :
    (s.setEvents k es).lineClass l = s.lineClass l := rfl

@[simp] theorem lineClass_setBursts (s : State) (k : LineNo) (ts : List Ms) : (s.setBursts k ts).lineClass l = s.lineClass l := rfl

@[simp] theorem lineClass_setCard (s : State) (k : CardNo) (r : CardRecord) : (s.setCard k r).lineClass l = s.lineClass l := rfl

theorem lineScan_sampleLine (s : State) (v : LineSenses) (at_ : Ms) (l : LineNo) :
    (s.sampleLine v at_ l).lineScan l = (s.lineScan l).sampled v at_ := by
  unfold sampleLine
  dsimp only
  split
  · rename_i burst
    simp [lineScan, LineScan.sampled, burst]
  · rename_i quiet
    simp [lineScan, LineScan.sampled, quiet]

theorem lineScan_sampleLine_other (s : State) (v : LineSenses) (at_ : Ms) (k l : LineNo) (h : l ≠ k) :
    (s.sampleLine v at_ k).lineScan l = s.lineScan l := by
  unfold sampleLine
  dsimp only
  split <;> simp [lineScan, h]

theorem lineScan_declareEvent (s : State) (l : LineNo) (e : ScanEvent) : (s.declareEvent l e).lineScan l = (s.lineScan l).told e := by
  simp [declareEvent_eq, lineScan, LineScan.told]

theorem lineScan_declareEvent_other (s : State) (e : ScanEvent) (k l : LineNo) (h : l ≠ k) :
    (s.declareEvent k e).lineScan l = s.lineScan l := by
  simp [declareEvent_eq, lineScan, h]

/-- What the loss of a card does at one of its lines (R47). -/
def loseLine (at_ : Ms) (s : State) (l : LineNo) : State := (s.setScan l ⟨.out, false⟩).declareEvent l (.cardLoss at_)

theorem loseCard_eq (s : State) (at_ : Ms) (c : CardNo) : s.loseCard at_ c = (cardLines c).foldl (loseLine at_) s := rfl

theorem lineScan_loseLine (s : State) (at_ : Ms) (l : LineNo) : (s.loseLine at_ l).lineScan l = (s.lineScan l).lost at_ := by
  simp [loseLine, declareEvent_eq, lineScan, LineScan.lost, LineScan.told]

theorem lineScan_loseLine_other (s : State) (at_ : Ms) (k l : LineNo) (h : l ≠ k) :
    (s.loseLine at_ k).lineScan l = s.lineScan l := by
  simp [loseLine, declareEvent_eq, lineScan, h]

/-! ## The lines of a card -/

/-- A walk over a card's lines that acts at each line alone does to each of them, and to no other, what its step does. -/
theorem lineScan_walk {f : State → LineNo → State} {g : LineNo → LineScan → LineScan}
    (other : ∀ s k l, l ≠ k → (f s k).lineScan l = s.lineScan l) (here : ∀ s k, (f s k).lineScan k = g k (s.lineScan k)) (s : State)
    (c : CardNo) (l : LineNo) :
    ((cardLines c).foldl f s).lineScan l = if cardOf l = c then g l (s.lineScan l) else s.lineScan l := by
  split
  · rename_i mine
    exact foldl_once (read := (lineScan · l)) (fun k hk s => other s k l hk.symm) (fun s => here s l) (cardLines_nodup c)
      (mem_cardLines.2 mine) s
  · rename_i elsewhere
    exact foldl_other other (mt mem_cardLines.1 elsewhere) s

theorem lineScan_sampleLines (s : State) (v : ShelfSample) (at_ : Ms) (c : CardNo) (l : LineNo) :
    (s.sampleLines v at_ c).lineScan l = if cardOf l = c then (s.lineScan l).sampled v.lines[l] at_ else s.lineScan l :=
  lineScan_walk (g := fun l w => w.sampled v.lines[l] at_) (fun s k l h => s.lineScan_sampleLine_other _ at_ k l h)
    (fun s k => s.lineScan_sampleLine _ at_ k) s c l

theorem lineScan_declareCard (s : State) (c : CardNo) (e : ScanEvent) (l : LineNo) :
    (s.declareCard c e).lineScan l = if cardOf l = c then (s.lineScan l).told e else s.lineScan l :=
  lineScan_walk (g := fun _ w => w.told e) (fun s k l h => s.lineScan_declareEvent_other e k l h)
    (fun s k => s.lineScan_declareEvent k e) s c l

theorem lineScan_loseCard (s : State) (at_ : Ms) (c : CardNo) (l : LineNo) :
    (s.loseCard at_ c).lineScan l = if cardOf l = c then (s.lineScan l).lost at_ else s.lineScan l :=
  lineScan_walk (g := fun _ w => w.lost at_) (fun s k l h => s.lineScan_loseLine_other at_ k l h)
    (fun s k => s.lineScan_loseLine at_ k) s c l

/-! ## One card at a scan instant (R29, R47) -/

theorem lineScan_setCard (s : State) (c : CardNo) (r : CardRecord) (l : LineNo) :
    (s.setCard c r).lineScan l = if cardOf l = c then { s.lineScan l with card := r } else s.lineScan l := by
  split
  · rename_i mine
    simp [lineScan, mine]
  · rename_i elsewhere
    simp [lineScan, elsewhere]

theorem lineScan_scanCard (s : State) (v : ShelfSample) (at_ : Ms) (l : LineNo) :
    (s.scanCard v at_ (cardOf l)).lineScan l
      = (s.lineScan l).scanned v.cards[cardOf l] (Config.lostCardStillSampled (cardOf l) at_) v.lines[l] at_ := by
  have old : (s.lineScan l).card = s.card (cardOf l) := rfl
  unfold scanCard LineScan.scanned LineScan.sensed
  dsimp only
  rw [old]
  cases (s.card (cardOf l)).state <;> cases ((s.card (cardOf l)).sample v.cards[cardOf l] at_).state <;>
    simp only [lineScan_setCard, lineScan_sampleLines, lineScan_declareCard, lineScan_loseCard, if_true]
  cases Config.lostCardStillSampled (cardOf l) at_ <;> simp [lineScan_setCard, lineScan_sampleLines]

theorem lineScan_scanCard_other (s : State) (v : ShelfSample) (at_ : Ms) (h : cardOf l ≠ c) :
    (s.scanCard v at_ c).lineScan l = s.lineScan l := by
  unfold scanCard
  dsimp only
  split <;> simp only [lineScan_setCard, lineScan_sampleLines, lineScan_declareCard, lineScan_loseCard, h, if_false]
  split <;> simp [lineScan_setCard, lineScan_sampleLines, h]

/-! ## What a scan instant leaves unchanged -/

/-- Between the states only the scanner records and the scanner's notices differ. -/
def LinesScanned (s t : State) : Prop :=
  t = { s with scans := t.scans, scanEvents := t.scanEvents, burstNotices := t.burstNotices }

theorem LinesScanned.trans {u : State} (a : LinesScanned s t) (b : LinesScanned t u) : LinesScanned s u := by
  unfold LinesScanned at *
  rw [b, a]

theorem linesScanned_sampleLine (s : State) (v : LineSenses) (at_ : Ms) (l : LineNo) : LinesScanned s (s.sampleLine v at_ l) := by
  unfold sampleLine
  dsimp only
  split <;> rfl

theorem linesScanned_sampleLines (s : State) (v : ShelfSample) (at_ : Ms) (c : CardNo) : LinesScanned s (s.sampleLines v at_ c) :=
  foldl_frame (R := LinesScanned) (fun _ => rfl) .trans (fun s k => s.linesScanned_sampleLine _ at_ k) _ s

theorem linesScanned_loseCard (s : State) (at_ : Ms) (c : CardNo) : LinesScanned s (s.loseCard at_ c) :=
  foldl_frame (R := LinesScanned) (f := loseLine at_) (fun _ => rfl) .trans (fun _ _ => rfl) _ s

theorem declareCard_frame (s : State) (c : CardNo) (e : ScanEvent) :
    s.declareCard c e = { s with scanEvents := (s.declareCard c e).scanEvents } :=
  foldl_frame (R := fun s t => t = { s with scanEvents := t.scanEvents }) (fun _ => rfl) (fun a b => by rw [b, a]) (fun _ _ => rfl) _ s

theorem cards_declareCard (s : State) (c : CardNo) (e : ScanEvent) : (s.declareCard c e).cards = s.cards := by
  rw [declareCard_frame]

/-- Between the states only the scanner and its notices differ. -/
def ScannerOnly (s t : State) : Prop :=
  t = { s with cards := t.cards, scans := t.scans, scanEvents := t.scanEvents, burstNotices := t.burstNotices }

theorem ScannerOnly.trans {u : State} (a : ScannerOnly s t) (b : ScannerOnly t u) : ScannerOnly s u := by
  unfold ScannerOnly at *
  rw [b, a]

theorem ScannerOnly.clock_eq (a : ScannerOnly s t) : t.clock = s.clock := by
  unfold ScannerOnly at a
  rw [a]

theorem LinesScanned.scannerOnly (a : LinesScanned s t) : ScannerOnly s t := by
  unfold LinesScanned at a
  rw [a]
  rfl

theorem scannerOnly_scanCard (s : State) (v : ShelfSample) (at_ : Ms) (c : CardNo) : ScannerOnly s (s.scanCard v at_ c) := by
  unfold scanCard
  dsimp only
  generalize hq : s.setCard c _ = q
  have sensed : ScannerOnly s q := hq ▸ rfl
  refine sensed.trans ?_
  split
  · split
    · exact ((linesScanned_sampleLines q v at_ c).trans (linesScanned_loseCard _ at_ c)).scannerOnly
    · exact (linesScanned_loseCard q at_ c).scannerOnly
  · exact (linesScanned_loseCard q at_ c).scannerOnly
  · rw [declareCard_frame]
    rfl
  · exact (linesScanned_sampleLines q v at_ c).scannerOnly
  · rfl

/-! ## The shelf at a scan instant (R28, R29) -/

/-- The cards in the order of a scan instant. -/
def allCards : List CardNo := (List.range 8).map (Fin.ofNat 8)

theorem mem_allCards (c : CardNo) : c ∈ allCards := by
  revert c
  decide

theorem allCards_nodup : allCards.Nodup := by decide

theorem exists_line_of_card (c : CardNo) : ∃ l, cardOf l = c := by
  revert c
  decide

/-- The part with its clock at the scan instant that is taken (log 2). -/
def atScan (s : State) : State := { s with clock := { s.clock with elapsed := s.scanTime, nextScan := s.scanTime + 5 } }

theorem scanShelf_eq (s : State) (v : ShelfSample) :
    s.scanShelf v = allCards.foldl (fun u c => u.scanCard v s.scanTime c) s.atScan := rfl

theorem lineScan_scanShelf (s : State) (v : ShelfSample) (l : LineNo) :
    (s.scanShelf v).lineScan l
      = (s.lineScan l).scanned v.cards[cardOf l] (Config.lostCardStillSampled (cardOf l) s.scanTime) v.lines[l] s.scanTime := by
  rw [scanShelf_eq]
  exact foldl_once (read := (lineScan · l)) (g := fun w => w.scanned _ _ _ _) (fun _ h u => u.lineScan_scanCard_other v _ h.symm)
    (fun u => u.lineScan_scanCard v _ l) allCards_nodup (mem_allCards _) s.atScan

theorem scannerOnly_scanShelf (s : State) (v : ShelfSample) : ScannerOnly s.atScan (s.scanShelf v) := by
  rw [scanShelf_eq]
  exact List.foldlRecOn (motive := ScannerOnly s.atScan) allCards _ rfl fun _ soFar c _ =>
    soFar.trans (scannerOnly_scanCard _ v _ c)

theorem card_scanShelf (s : State) (v : ShelfSample) (c : CardNo) :
    (s.scanShelf v).card c = (s.card c).sample v.cards[c] s.scanTime := by
  obtain ⟨l, rfl⟩ := exists_line_of_card c
  exact (congrArg LineScan.card (s.lineScan_scanShelf v l)).trans (LineScan.scanned_card _ _)

/-- Settles O26: the walk over the cards acts at each card and its lines alone, so each line sees one scan instant of its card. -/
theorem scanInstantSamplesTheShelf : Obligations.ScanInstantSamplesTheShelf := by
  intro s v
  dsimp only
  have exec_eq : exec (.scanInstant v) s = .next (s.scanShelf v) := rfl
  have frame := s.scannerOnly_scanShelf v
  have card := s.card_scanShelf v
  have line := s.lineScan_scanShelf v
  generalize s.scanShelf v = t at exec_eq frame card line
  have clock := frame.clock_eq
  refine ⟨t, exec_eq, Eq.trans frame ?_, congrArg Clock.elapsed clock, congrArg Clock.nextScan clock, (congrArg Clock.slot clock :), card,
    fun l old new => ?_, fun l old new => ?_, fun l old new => ?_, fun l old new => ?_, fun l old new => ?_⟩
  · rw [clock]
    rfl
  all_goals rw [card] at new
  · have w := (line l).trans (LineScan.scanned_in_service _ _ old new)
    exact ⟨congrArg LineScan.scan w, congrArg LineScan.events w, congrArg LineScan.bursts w⟩
  · exact (congrArg LineScan.scan (line l)).trans (LineScan.scanned_scan _ _ old new)
  · have w := (line l).trans (LineScan.scanned_stays_out _ _ old new)
    exact ⟨congrArg LineScan.scan w, congrArg LineScan.events w, congrArg LineScan.bursts w⟩
  · have w := (line l).trans (LineScan.scanned_returns _ _ old new)
    exact ⟨congrArg LineScan.scan w, congrArg LineScan.events w, congrArg LineScan.bursts w⟩
  · have lost := LineScan.scanned_lost (w := s.lineScan l) (Config.lostCardStillSampled (cardOf l) s.scanTime) v.lines[l] old new
    rcases lost with h | ⟨served, h⟩
    · have w := (line l).trans h
      exact ⟨congrArg LineScan.scan w, .inl ⟨congrArg LineScan.events w, congrArg LineScan.bursts w⟩⟩
    · have w := (line l).trans h
      exact ⟨congrArg LineScan.scan w, .inr ⟨served, congrArg LineScan.events w, congrArg LineScan.bursts w⟩⟩

/-! ## A card that has settled (R48) -/

theorem settleCard_eq (s : State) (c : CardNo) :
    s.settleCard c = (s.setCard c (s.card c).settled).declareCard c (.cardSettled s.now) := rfl

theorem settleDue_of_settled {at_ : Ms} (settling : (s.card c).state = .settling) (start : (s.card c).settleStart = some at_)
    (long : at_ + 2000 ≤ s.now) : s.settleDue c = true := by
  simp only [settleDue, settling, start]
  exact decide_eq_true long

theorem settleCard_frame (s : State) (c : CardNo) :
    s.settleCard c = { s with cards := (s.settleCard c).cards, scanEvents := (s.settleCard c).scanEvents } := by
  rw [settleCard_eq, declareCard_frame]
  rfl

theorem card_settleCard (s : State) (c d : CardNo) :
    (s.settleCard c).card d = (s.setCard c (s.card c).settled).card d := by
  rw [card, settleCard_eq, cards_declareCard]
  rfl

theorem eventsOf_settleCard (s : State) (c : CardNo) (l : LineNo) :
    (s.settleCard c).eventsOf l = s.eventsOf l ++ if cardOf l = c then [.cardSettled s.now] else [] := by
  have w := (s.setCard c (s.card c).settled).lineScan_declareCard c (.cardSettled s.now) l
  refine (congrArg LineScan.events w).trans ?_
  split
  · rfl
  · exact (List.append_nil _).symm

/-- Settles O27: the four answers of the card-present sense, and the walk over the lines of a card that has settled. -/
theorem cardsAreQualifiedAndSettle : Obligations.CardsAreQualifiedAndSettle := by
  refine ⟨fun r present at_ =>
      ⟨CardRecord.sample_agrees, CardRecord.sample_differs_first, fun fitted again => ?_, fun out again => ?_⟩,
    fun s c at_ settling start long => ?_⟩
  · exact CardRecord.sample_differs_again (by simpa using fitted) again
  · exact CardRecord.sample_differs_again (by simpa using out) again
  · have card := s.card_settleCard c
    refine ⟨s.settleCard c, ?_, s.settleCard_frame c, ?_, fun d hd => ?_, s.eventsOf_settleCard c⟩
    · simp only [exec, execCardSettleTimeout, settleDue_of_settled settling start long, if_true]
    · simp [card, CardRecord.settled]
    · simp [card, hd]

end State

end Sys2Proof.Machine
end

section
/-! PROOFS. The hook events that a line takes with nothing owed at the end: digits, bad breaks and flashes (R63, R67, R68, R72 to R75): the
obligations O39 and O40. -/

namespace Sys2Proof.Machine.State

open Sys2Proof.Safety

variable {s v : State} {l : LineNo} {es : List ScanEvent}

/-! ## The taking of a hook event (R31) -/

theorem dropEvent_of_eventsOf {e : ScanEvent} (h : s.eventsOf l = e :: es) : s.dropEvent l = s.setEvents l es := by
  simp [dropEvent, h]

theorem exec_pulse {at_ : Ms} {len n : Nat} (h : s.eventsOf l = .pulse at_ len n :: es) :
    exec (.pulse l) s = .next ((s.setEvents l es).pulsed l).finish := by
  simp only [exec, execPulse, h, dropEvent_of_eventsOf h]

theorem exec_flash {at_ start : Ms} {len n : Nat} (h : s.eventsOf l = .flash at_ start len n :: es) :
    exec (.flash l) s = .next ((s.setEvents l es).flashed l n).finish := by
  simp only [exec, execFlash, h, dropEvent_of_eventsOf h]

theorem exec_badBreak {at_ start : Ms} {len : Nat} (h : s.eventsOf l = .badBreak at_ start len :: es) :
    exec (.badBreak l) s = .next ((s.setEvents l es).badBroken l start len).finish := by
  simp only [exec, execBadBreak, h, dropEvent_of_eventsOf h]

theorem exec_disconnect {at_ start : Ms} {n : Nat} (h : s.eventsOf l = .disconnect at_ start n :: es) :
    exec (.disconnect l) s = .next ((s.setEvents l es).hungUp l start n).finish := by
  simp only [exec, execDisconnect, h, dropEvent_of_eventsOf h]

theorem exec_digitEnd {at_ : Ms} {o : DigitOutcome} {n : Nat} (h : s.eventsOf l = .digitEnd at_ o n :: es) :
    exec (.digitEnd l) s = .next ((s.setEvents l es).digitEnded l o n).finish := by
  simp only [exec, execDigitEnd, h, dropEvent_of_eventsOf h]

/-- An event whose act owes nothing ends as the act leaves it. -/
theorem next_finish {w : State} (acts : w = v) (settled : Settled v) :
    (.next w.finish : Answer) = .next v := by
  rw [acts, finish_settled settled]

/-! ## What an act at a line leaves settled -/

theorem settled_setEvents (h : Settled s) (l : LineNo) (es : List ScanEvent) : Settled (s.setEvents l es) := h

theorem settled_setLine (h : Settled s) (l : LineNo) (r : LineRecord) : Settled (s.setLine l r) := h

theorem settled_report (h : Settled s) (l : LineNo) (b : ReportBody) : Settled (s.report l b) := by
  simpa [Settled] using h

theorem settled_askTone (h : Settled s) (l : LineNo) : Settled (s.askTone l) := by
  simpa [Settled] using h

/-! ## Timers, buffers and counts of digits (R63, R64) -/

section

variable (s)

theorem restartInterdigit_held (h : (s.line l).holder.isSome) :
    s.restartInterdigit l
      = s.setLine l { s.line l with timer := some ⟨.interdigit, s.now + (s.lineClass l).interdigitTimeout⟩ } := by
  simp [restartInterdigit, h, startInterdigit, startTimer_eq]

theorem restartInterdigit_unheld (h : (s.line l).holder = none) : s.restartInterdigit l = s := by
  simp [restartInterdigit, h]

theorem bufferDigit_room (d : Digit) (n : Nat) (h : (s.line l).digits.length < 16) :
    s.bufferDigit l d n = s.setLine l { s.line l with digits := (s.line l).digits ++ [d] } := by
  simp [bufferDigit, Config.digitBufferSize, h, modLine_eq]

theorem bufferDigit_full (d : Digit) (n : Nat) (h : 16 ≤ (s.line l).digits.length) :
    s.bufferDigit l d n = s.report l (.digitError .bufferFull n) := by
  simp [bufferDigit, Config.digitBufferSize, Nat.not_lt.2 h]

/-- A digit of a claimed line that awaits more, or an open-ended count (R63). -/
theorem digitToHolder_more (d : Digit) (held : (s.line l).holder.isSome) (more : (s.line l).expected ≠ 1) :
    s.digitToHolder l d
      = (s.report l (.digit d false)).setLine l
          { s.line l with
            delivered := min ((s.line l).delivered + 1) 255, expected := (s.line l).expected - 1
            timer := some ⟨.interdigit, s.now + (s.lineClass l).interdigitTimeout⟩ } := by
  simp [digitToHolder, more, modLine_eq, restartInterdigit, held, startInterdigit, startTimer_eq, lineClass, Config.countMax]

/-- The last awaited digit of a claimed line (R63). -/
theorem digitToHolder_last (d : Digit) (last : (s.line l).expected = 1) :
    s.digitToHolder l d
      = (((s.report l (.digit d false)).setLine l
          { s.line l with delivered := min ((s.line l).delivered + 1) 255, expected := 0 }).report l
            (.dialingComplete (min ((s.line l).delivered + 1) 255))).modLine l (·.enter .held) := by
  simp [digitToHolder, last, modLine_eq, dialingDone, enter_eq, Config.countMax]

/-- A DIGIT END in a state that takes none is discarded (R63, R68, R73). -/
theorem digitEnded_discarded (o : DigitOutcome) (n : Nat) (h1 : (s.line l).state ≠ .digits) (h2 : (s.line l).state ≠ .held)
    (h3 : (s.line l).state ≠ .recalling) : s.digitEnded l o n = s := by
  unfold digitEnded
  split
  case h_7 => rfl
  all_goals contradiction

end

/-! ## DIGIT END and BAD BREAK (R63, R68, R73, R75) -/

section

variable (s : State) (d : Digit) (n : Nat)

/-- A DIGIT END with a digit in DIGITS (R63): to the buffer of an unclaimed line, to the holder of a claimed one. -/
theorem digitEnded_digits (digits : (s.line l).state = .digits) :
    s.digitEnded l (.digit d) n = if (s.line l).holder.isSome then s.digitToHolder l d else s.bufferDigit l d n := by
  simp only [digitEnded, digits]

theorem digitEnded_call (call : (s.line l).state = .held) : s.digitEnded l (.digit d) n = s.report l (.digit d true) := by
  simp only [digitEnded, call]

theorem digitEnded_recalling (recalling : (s.line l).state = .recalling) :
    s.digitEnded l (.digit d) n = (s.setLine l { s.line l with digitInProgress := some false }).bufferDigit l d n := by
  simp only [digitEnded, recalling, modLine_eq]

/-- A DIGIT END without a digit (R63, R73, R75): reported where digits are taken, with the timer of the state. -/
theorem digitEnded_fails {o : DigitOutcome} (fails : ∀ d, o ≠ .digit d) :
    ((s.line l).state = .digits → s.digitEnded l o n = (s.report l (.digitError o.errorCause n)).restartInterdigit l)
    ∧ ((s.line l).state = .held → s.digitEnded l o n = s.report l (.digitError o.errorCause n))
    ∧ ((s.line l).state = .recalling →
        s.digitEnded l o n
          = (s.setLine l { s.line l with digitInProgress := some false }).report l (.digitError o.errorCause n)) := by
  cases o with
  | digit d => exact absurd rfl (fails d)
  | tooManyPulses | badBreak =>
    refine ⟨fun digits => ?_, fun call => ?_, fun recalling => ?_⟩
    · simp only [digitEnded, digits]
    · simp only [digitEnded, call]
    · simp only [digitEnded, recalling, modLine_eq]

theorem badBroken_call (start : Ms) (h : (s.line l).state = .held ∨ (s.line l).state = .recalling) :
    s.badBroken l start n = s.report l (.unclassifiedBreak start n) := by
  rcases h with h | h <;> simp only [badBroken, h]

theorem badBroken_discarded (start : Ms) (h1 : (s.line l).state ≠ .held) (h2 : (s.line l).state ≠ .recalling) :
    s.badBroken l start n = s := by
  unfold badBroken
  split
  case h_1 e => exact absurd e h1
  case h_2 e => exact absurd e h2
  case h_3 => rfl

end

/-- Settles O39, by the outcome of the digit and the state of the line. -/
theorem digitsAndBadBreaksAtALine : Obligations.DigitsAndBadBreaksAtALine := by
  refine ⟨fun s l at_ d n es settled event => ?_, fun s l es settled => ?_⟩ <;> dsimp only
  · have free : Settled (s.setEvents l es) := settled_setEvents settled l es
    rw [exec_digitEnd event]
    refine ⟨fun digits holder room => next_finish ?_ (settled_setLine free l _),
      fun digits holder full => next_finish ?_ (settled_report free l _),
      fun digits held more => next_finish ?_ (settled_setLine (settled_report free l _) l _),
      fun digits held last => next_finish ?_
        (settled_setLine (settled_report (settled_setLine (settled_report free l _) l _) l _) l _),
      fun call => next_finish (digitEnded_call _ d n call) (settled_report free l _),
      fun recalling room => next_finish ?_ (settled_setLine free l _),
      fun recalling full => next_finish ?_ (settled_report (settled_setLine free l _) l _),
      fun digits call recalling => next_finish (digitEnded_discarded _ _ n digits call recalling) free⟩
    · rw [digitEnded_digits (s.setEvents l es) d n digits, line_setEvents, if_neg (by simp [holder])]
      exact bufferDigit_room _ d n room
    · rw [digitEnded_digits (s.setEvents l es) d n digits, line_setEvents, if_neg (by simp [holder])]
      exact bufferDigit_full _ d n full
    · rw [digitEnded_digits (s.setEvents l es) d n digits, line_setEvents, if_pos held]
      exact digitToHolder_more _ d held more
    · rw [digitEnded_digits (s.setEvents l es) d n digits, line_setEvents, if_pos held]
      exact digitToHolder_last _ d last
    · rw [digitEnded_recalling (s.setEvents l es) d n recalling, bufferDigit_room _ d n (by simpa using room)]
      simp
    · rw [digitEnded_recalling (s.setEvents l es) d n recalling]
      exact bufferDigit_full _ d n (by simpa using full)
  · have free : Settled (s.setEvents l es) := settled_setEvents settled l es
    refine ⟨fun at_ start len event => ?_, fun at_ n o cause outcome event => ?_⟩
    · rw [exec_badBreak event]
      exact ⟨fun call => next_finish (badBroken_call _ len start call) (settled_report free l _),
        fun held recalling => next_finish (badBroken_discarded _ len start held recalling) free⟩
    · have reported : o.errorCause = cause := by rcases outcome with ⟨rfl, rfl⟩ | ⟨rfl, rfl⟩ <;> rfl
      have fails : ∀ d, o ≠ .digit d := by rcases outcome with ⟨rfl, rfl⟩ | ⟨rfl, rfl⟩ <;> simp
      subst reported
      obtain ⟨inDigits, inCall, inRecall⟩ := digitEnded_fails (s.setEvents l es) (l := l) n fails
      rw [exec_digitEnd event]
      refine ⟨fun call => next_finish (inCall call) (settled_report free l _),
        fun recalling => next_finish (inRecall recalling) (settled_report (settled_setLine free l _) l _),
        fun digits holder => next_finish ((inDigits digits).trans ?_) (settled_report free l _),
        fun digits held => next_finish ((inDigits digits).trans ?_) (settled_setLine (settled_report free l _) l _),
        fun digits call recalling => next_finish (digitEnded_discarded _ _ n digits call recalling) free⟩
      · exact restartInterdigit_unheld _ (by simpa using holder)
      · rw [restartInterdigit_held _ (by simpa using held)]
        simp [lineClass]

/-! ## FLASH (R67, R72, R75) -/

section

variable (s : State) (n : Nat)

theorem askTone_classes (l : LineNo) : (s.askTone l).classes = s.classes := by rw [askTone_frame]

@[simp] theorem now_askTone (l : LineNo) : (s.askTone l).now = s.now := by rw [askTone_frame]; rfl

/-- Asking for a tap does not change the class that the line names. -/
theorem line_askTone_cls (l : LineNo) : ((s.askTone l).line l).cls = (s.line l).cls := by
  unfold askTone
  split
  · split <;> simp [enter_eq, assignTap, setTone, joinToneQueue, LineRecord.enter] <;> rfl
  · simp [joinToneQueue, LineRecord.enter]

@[simp] theorem lineClass_askTone (l : LineNo) : (s.askTone l).lineClass l = s.lineClass l := by
  simp [lineClass, classOf, line_askTone_cls, askTone_classes]

theorem lineClass_setLine_same (l : LineNo) (r : LineRecord) : (s.setLine l r).lineClass l = s.classOf r.cls := by
  simp [lineClass]

/-- The recall that a FLASH starts (R72, R75). -/
theorem startRecall_eq :
    s.startRecall l n
      = (s.setLine l { (s.line l).enter .recalling with
          digits := [], digitInProgress := some false
          timer := some ⟨.recallWindow, s.now + (s.lineClass l).recallWindow⟩ }).report l
        (.flash (s.line l).state (s.line l).digits.length n (s.now + (s.lineClass l).recallWindow)) := by
  simp [startRecall, modLine_eq, startTimer_eq]

/-- The dial restart of a line in DIGITS (R67). -/
theorem restartDialling_eq :
    s.restartDialling l n
      = (((s.setLine l { s.line l with
          digits := [], expected := if (s.line l).holder.isSome then 0 else (s.line l).expected
          timer := none }).askTone l).startTimer l .firstDigit (s.lineClass l).firstDigitTimeout).report l
        (.dialRestart (s.line l).digits.length n) := by
  simp only [restartDialling, modLine_eq, startFirstDigit, lineClass_askTone, lineClass_setLine_same]
  rfl

/-- A FLASH on tone (R67): the first-digit timer restarts. -/
theorem flashed_tone (tone : (s.line l).state = .dialTone ∨ (s.line l).state = .toneWait) :
    s.flashed l n = (s.startFirstDigit l).report l (.dialRestart 0 n) := by
  rcases tone with tone | tone <;> simp only [flashed, tone]

theorem flashed_discarded (h1 : (s.line l).state.originating = false) (h2 : (s.line l).state ≠ .held)
    (h3 : (s.line l).state ≠ .recalling) : s.flashed l n = s := by
  unfold flashed
  split
  case h_6 => rfl
  all_goals simp_all [LineState.originating]

end

/-- Settles O40, by the branches of `flashed`. -/
theorem flashStartsARecallOrRestartsDialling : Obligations.FlashStartsARecallOrRestartsDialling := by
  intro s l at_ start len n es settled event
  dsimp only
  have free : Settled (s.setEvents l es) := settled_setEvents settled l es
  rw [exec_flash event]
  refine ⟨fun call => next_finish (Eq.trans ?_ (startRecall_eq (s.setEvents l es) n))
      (settled_report (settled_setLine free l _) l _),
    fun tone => next_finish (flashed_tone _ n tone) (settled_report (settled_setLine free l _) l _),
    fun digits => next_finish (Eq.trans ?_ (restartDialling_eq (s.setEvents l es) n)) ?_,
    fun still call recalling => next_finish (flashed_discarded _ n still call recalling) free⟩
  · rcases call with call | call <;> simp only [flashed, line_setEvents, call]
  · simp only [flashed, line_setEvents, digits]
  · exact settled_report (settled_setLine (settled_askTone (settled_setLine free l _) l) l _) l _

end Sys2Proof.Machine.State
end

section
/-! PROOFS. An origination by a lift in IDLE (R50, R136): the obligation O33. -/

namespace Sys2Proof.Machine.State

open Sys2Proof.Safety

variable {s v : State} {l : LineNo} {es : List ScanEvent}

/-! ## The offer of an origination (R50) -/

theorem offerPort_home (h : s.present (s.lineClass l).home = true) : s.offerPort l = some (.home, (s.lineClass l).home) := by
  simp [offerPort, h]

theorem offerPort_alternate {p : Port} (home : s.present (s.lineClass l).home = false) (names : (s.lineClass l).alternate = some p)
    (h : s.present p = true) : s.offerPort l = some (.alternate, p) := by
  simp [offerPort, home, names, h]

theorem offerPort_none (home : s.present (s.lineClass l).home = false)
    (h : ∀ p, (s.lineClass l).alternate = some p → s.present p = false) : s.offerPort l = none := by
  unfold offerPort
  simp only [home, Bool.false_eq_true, if_false]
  split
  · rename_i p names
    simp [h p names]
  · rfl

/-- The record of a line that originates, before it asks for a tap (R50). -/
def originatingRecord (s : State) (l : LineNo) (stage : OfferStage) (p : Port) : LineRecord :=
  { s.line l with
    digits := [], expected := 0, recallMark := false, holder := none, dialling := some (s.lineClass l).dialling, offer := stage
    offeredPort := some p, offerDeadline := some (s.now + (s.lineClass l).claimWindow) }

theorem originate_offered {stage : OfferStage} {p : Port} (h : s.offerPort l = some (stage, p)) :
    s.originate l
      = (((s.setLine l (s.originatingRecord l stage p)).askTone l).startTimer l .firstDigit
          (s.lineClass l).firstDigitTimeout).sendOriginate l := by
  simp only [originate, h, offerTo, modLine_eq, line_setLine_same, lineClass_setLine_same, now_setLine, setLine_setLine]
  rfl

theorem originate_parked (h : s.offerPort l = none) :
    s.originate l = (s.enterParked l .noController).report l (.lineParked .noController) := by
  simp [originate, h]

/-- A lift in IDLE, by an OFF-HOOK or an ANSWER event (R50, R136). -/
theorem exec_lift_idle {c : Instr} (settled : Settled s)
    (event : (c = .offHook l ∧ ∃ at_ run, s.eventsOf l = .offHook at_ run :: es)
      ∨ (c = .answer l ∧ ∃ at_ q k run, s.eventsOf l = .answer at_ q k run :: es))
    (idle : (s.line l).state = .idle) :
    exec c s = .next (((s.setEvents l es).setHook l .off).originate l) := by
  have free : Settled (((s.setEvents l es).setHook l .off).originate l) := by simpa [Settled, setHook, modLine_eq] using settled
  have lift (q : Qualification) (kind : Option StepKind) :
      (s.setEvents l es).lifted l q kind = ((s.setEvents l es).setHook l .off).originate l := by
    simp only [lifted, line_setEvents, idle]
  rcases event with ⟨rfl, at_, run, e⟩ | ⟨rfl, at_, q, k, run, e⟩
  · simp only [exec, execOffHook, e, dropEvent_of_eventsOf e, lift, finish_settled free]
  · simp only [exec, execAnswer, e, dropEvent_of_eventsOf e, lift, finish_settled free]

theorem setHook_eq (s : State) (l : LineNo) (h : Hook) : s.setHook l h = s.setLine l { s.line l with hook := h } := rfl

/-- The origination of a lifted line that had no holder, once its offer has a port. -/
theorem originate_lifted {stage : OfferStage} {p : Port} (unheld : (s.line l).holder = none)
    (h : (s.setHook l .off).offerPort l = some (stage, p)) :
    (s.setHook l .off).originate l
      = (((s.setLine l { s.line l with
          hook := .off, digits := [], expected := 0, recallMark := false, dialling := some (s.lineClass l).dialling, offer := stage
          offeredPort := some p, offerDeadline := some (s.now + (s.lineClass l).claimWindow) }).askTone l).startTimer l .firstDigit
            (s.lineClass l).firstDigitTimeout).sendOriginate l := by
  rw [originate_offered h, originatingRecord]
  simp only [setHook_eq, line_setLine_same, lineClass_setLine_same, now_setLine, setLine_setLine, ← unheld]
  rfl

/-- The parking of a lifted line that no port can take (R50, R18): the handset is off, so no timer starts. -/
theorem originate_lifted_parks (h : (s.setHook l .off).offerPort l = none) :
    (s.setHook l .off).originate l
      = (s.setLine l { (s.line l).enter .parked with hook := .off, parkReason := some .noController }).report l
        (.lineParked .noController) := by
  rw [originate_parked h, enterParked_eq, setHook_eq]
  simp only [line_setLine_same, setLine_setLine, reduceCtorEq, if_false]
  rfl

/-- Settles O33: the lift sets the hook field and originates, and the offer goes to the first PRESENT port of the class. -/
theorem offHookOriginatesAnIdleLine : Obligations.OffHookOriginatesAnIdleLine := by
  intro s l es c consistent event idle
  dsimp only
  obtain ⟨settled, agreed⟩ := consistent_iff.1 consistent
  have unheld : ((s.setEvents l es).line l).holder = none := (agreed.recordRight l).holder_none (by rw [idle]; rfl)
  have cls : ((s.setEvents l es).setHook l .off).lineClass l = s.lineClass l := lineClass_setLine_same _ l _
  have port (q : Port) : ((s.setEvents l es).setHook l .off).present q = s.present q := by simp [setHook_eq]
  rw [exec_lift_idle settled event idle]
  refine ⟨fun home => congrArg _ (originate_lifted unheld ?_),
    fun p away names alternate => congrArg _ (originate_lifted unheld ?_),
    fun away absent => congrArg _ (originate_lifted_parks ?_)⟩
  · rw [← cls] at home ⊢
    exact offerPort_home ((port _).trans home)
  · rw [← cls] at away names
    exact offerPort_alternate ((port _).trans away) names ((port p).trans alternate)
  · rw [← cls] at away absent
    exact offerPort_none ((port _).trans away) fun p names => (port p).trans (absent p names)

end Sys2Proof.Machine.State
end

section
/-! PROOFS. CLAIM (R53, R54): the obligation O36. -/

namespace Sys2Proof.Safety.LineRecordRight

open Sys2Proof.Machine

variable {r : LineRecord}

/-- The offer of an originating line with no holder is open (R1). -/
theorem open_of_unheld (h : LineRecordRight r) (e : r.state.originating = true) (unheld : r.holder = none) :
    r.offer.open = true := by
  rcases (h.offered e).offer with ⟨-, opened⟩ | ⟨held, -⟩
  · exact opened
  · simp [unheld] at held

/-- The offer of an originating line with a holder is claimed (R1). -/
theorem claimed_of_held (h : LineRecordRight r) (e : r.state.originating = true) (held : r.holder.isSome) :
    r.offer = .claimed := by
  rcases (h.offered e).offer with ⟨unheld, -⟩ | ⟨-, claimed⟩
  · simp [unheld] at held
  · exact claimed

end Sys2Proof.Safety.LineRecordRight

namespace Sys2Proof.Machine.State

open Sys2Proof.Safety

variable {s v : State} {p : Port} {l : LineNo} {n : Byte} {rest : List ReplyItem}

/-! ## CLAIM (R53, R54) -/

/-- A request with a line and a count in range reaches its owner (R170). -/
theorem onLineAndCount_byteOf (act : State → Port → LineNo → Nat → State × Reply) (s : State) (p : Port) (l : LineNo)
    (h : n.toNat ≤ 16) : State.onLineAndCount act s p [byteOf l.val, n] = act s p l n.toNat := by
  simp [State.onLineAndCount, inRange, h]

/-- A count above 16 is refused before the owner sees it (R53, R170). -/
theorem onLineAndCount_refused (act : State → Port → LineNo → Nat → State × Reply) (s : State) (p : Port) (l : LineNo)
    (h : 16 < n.toNat) : State.onLineAndCount act s p [byteOf l.val, n] = (s, .refuse .badValue) := by
  simp [State.onLineAndCount, inRange, Nat.not_le.2 h]

section
variable (s : State) (p : Port) (l : LineNo)

/-- ABANDON goes to an offered port that is not the one that claims (R54). -/
def abandonElsewhere : State := if (s.line l).offeredPort = some p then s else s.abandonOffer l .claimedElsewhere

theorem abandonElsewhere_eq :
    (if (s.line l).offeredPort == some p then s else s.abandonOffer l .claimedElsewhere) = s.abandonElsewhere p l := by
  simp [abandonElsewhere]

/-- The record of a line that a port has claimed, but for its timer (R54). -/
def claimedRecord (k : Nat) : LineRecord :=
  { s.line l with
    holder := some p, offer := .claimed, offeredPort := none, offerDeadline := none, digits := []
    delivered := (s.line l).digits.length, expected := awaited k (s.line l).digits.length }

theorem abandonElsewhere_frame :
    s.abandonElsewhere p l
      = { s with queues := (s.abandonElsewhere p l).queues, ports := (s.abandonElsewhere p l).ports } := by
  unfold abandonElsewhere
  split
  · rfl
  · exact s.abandonOffer_frame l _

@[simp] theorem line_abandonElsewhere (k : LineNo) : (s.abandonElsewhere p l).line k = s.line k := by
  rw [abandonElsewhere_frame]; rfl

@[simp] theorem lineClass_abandonElsewhere (k : LineNo) : (s.abandonElsewhere p l).lineClass k = s.lineClass k := by
  rw [abandonElsewhere_frame]; rfl

@[simp] theorem classOf_abandonElsewhere (c : ClassNo) : (s.abandonElsewhere p l).classOf c = s.classOf c := by
  rw [abandonElsewhere_frame]; rfl

@[simp] theorem abandonElsewhere_tone : (s.abandonElsewhere p l).tone = s.tone := by rw [abandonElsewhere_frame]

@[simp] theorem now_abandonElsewhere : (s.abandonElsewhere p l).now = s.now := by rw [abandonElsewhere_frame]; rfl

theorem settled_abandonElsewhere (h : Settled s) : Settled (s.abandonElsewhere p l) := by
  rw [abandonElsewhere_frame]; exact h

/-- A claim whose count is not complete (R54): the interdigit timer runs in DIGITS. -/
theorem claimLine_counting {k : Nat} (h : k = 0 ∨ (s.line l).digits.length < k) :
    s.claimLine p l k
      = ((s.abandonElsewhere p l).setLine l
          { s.claimedRecord p l k with
            timer := if (s.line l).state = .digits then some ⟨.interdigit, s.now + (s.lineClass l).interdigitTimeout⟩
                     else (s.line l).timer },
        .okWith ([byteOf (s.line l).state.code, byteOf ((s.tone.tapOf l).getD 255), byteOf (s.line l).digits.length]
          ++ (s.line l).digits.map fun d => byteOf d.val)) := by
  have open_ : (decide (0 < k) && decide (k ≤ (s.line l).digits.length)) = false := by
    rcases h with rfl | h
    · rfl
    · simp [h]
  simp only [claimLine, open_, abandonElsewhere_eq, modLine_eq, Bool.false_eq_true, if_false, line_abandonElsewhere]
  by_cases digits : (s.line l).state = .digits
  · simp [digits, startInterdigit, startTimer_eq, callData, claimedRecord, lineClass, LineState.code]
  · simp [digits, callData, claimedRecord]

/-- A claim whose count is complete (R54): DIALING COMPLETE, and the line goes to HELD. -/
theorem claimLine_complete {k : Nat} (digits : (s.line l).state = .digits) (some_ : 0 < k) (h : k ≤ (s.line l).digits.length) :
    s.claimLine p l k
      = ((((s.abandonElsewhere p l).setLine l (s.claimedRecord p l k)).report l
            (.dialingComplete (s.line l).digits.length)).modLine l (·.enter .held),
        .okWith ([5#8, byteOf ((s.tone.tapOf l).getD 255), byteOf (s.line l).digits.length]
          ++ (s.line l).digits.map fun d => byteOf d.val)) := by
  have complete : (decide (0 < k) && decide (k ≤ (s.line l).digits.length)) = true := by simp [some_, h]
  simp only [claimLine, complete, abandonElsewhere_eq, modLine_eq, if_true, line_abandonElsewhere]
  rw [giveUpTone_eq _ l (by simp [digits]) (by simp [digits])]
  simp [dialingDone, enter_eq, callData, claimedRecord, LineState.code]
  rfl

/-- A claim of an unclaimed originating line (R53). -/
theorem claim_open (k : Nat) (originating : (s.line l).state.originating = true) (holder : (s.line l).holder = none)
    (open_ : (s.line l).offer.open = true) : s.claim p l k = s.claimLine p l k := by
  simp [claim, LineRecord.heldElsewhere, originating, holder, open_]

/-- A claim by the holder (R54): only the expected digits change. -/
theorem claim_again (k : Nat) (originating : (s.line l).state.originating = true) (holder : (s.line l).holder = some p)
    (claimed : (s.line l).offer = .claimed) :
    s.claim p l k
      = (s.setLine l { s.line l with expected := k },
        .okWith [byteOf (s.line l).state.code, byteOf ((s.tone.tapOf l).getD 255), 0#8]) := by
  simp [claim, LineRecord.heldElsewhere, originating, holder, claimed, OfferStage.open, modLine_eq, callData]
  rfl

theorem claim_heldElsewhere (k : Nat) {q : Port} (holder : (s.line l).holder = some q) (other : q ≠ p) :
    s.claim p l k = (s, .refuse .heldElsewhere) := by
  simp [claim, LineRecord.heldElsewhere, holder, other]

theorem claim_lineActive (k : Nat) (still : (s.line l).state.originating = false)
    (holder : (s.line l).holder = none ∨ (s.line l).holder = some p) : s.claim p l k = (s, .refuse .lineActive) := by
  rcases holder with holder | holder <;> simp [claim, LineRecord.heldElsewhere, holder, still]

variable (rest : List ReplyItem)

theorem abandonElsewhere_taken :
    (taken s p rest).abandonElsewhere p l
      = if (s.line l).offeredPort = some p then taken s p rest else (taken s p rest).abandonOffer l .claimedElsewhere := by
  rw [abandonElsewhere, line_taken]

theorem claimedRecord_taken (k : Nat) : (taken s p rest).claimedRecord p l k = s.claimedRecord p l k := by
  simp only [claimedRecord, line_taken]

end

/-- CLAIM with a count in range is answered as its owner answers it. -/
theorem exec_claim {r : Reply} (asks : Asks s p 3 [byteOf l.val, n] rest) (small : n.toNat ≤ 16)
    (acts : (taken s p rest).claim p l n.toNat = (v, r)) (settled : Settled v) :
    exec (.claim p) s = .next (v.respond p 3#8 r) :=
  takeRequest_settled asks (by decide) rfl rfl ((onLineAndCount_byteOf _ _ p l small).trans acts) settled

/-- Settles O36, by the branches of `claim` and of `claimLine`. -/
theorem claimTakesTheLineOrIsRefused : Obligations.ClaimTakesTheLineOrIsRefused := by
  refine ⟨fun s p l n rest consistent asks small => ?_, fun s p l n rest consistent asks => ?_⟩ <;> dsimp only
  all_goals
    obtain ⟨settled, agreed⟩ := consistent_iff.1 consistent
    have free := settled_taken settled p rest
    rw [← abandonElsewhere_taken]
  · intro originating holder counting
    have opened := (agreed.recordRight l).open_of_unheld originating holder
    refine exec_claim asks small ?_ (settled_setLine (settled_abandonElsewhere _ p l free) l _)
    rw [claim_open _ p l _ (by simpa using originating) (by simpa using holder) (by simpa using opened),
      claimLine_counting _ p l (by simpa using counting), claimedRecord_taken]
    simp only [line_taken, now_taken, lineClass_taken, taken_tone]
    rfl
  · refine ⟨fun small digits holder some_ complete => ?_, fun small originating holder => ?_,
      fun q small holder other => exec_claim asks small (claim_heldElsewhere _ p l _ (by simpa using holder) other) free,
      fun small still holder => exec_claim asks small
        (claim_lineActive _ p l _ (by simpa using still) (by simpa using holder)) free,
      fun large => takeRequest_settled asks (by decide) rfl rfl (onLineAndCount_refused _ _ p l large) free⟩
    · have opened := (agreed.recordRight l).open_of_unheld (by rw [digits]; rfl) holder
      refine exec_claim asks small ?_
        (settled_setLine (settled_report (settled_setLine (settled_abandonElsewhere _ p l free) l _) l _) l _)
      rw [claim_open _ p l _ (by simp [digits, LineState.originating]) (by simpa using holder) (by simpa using opened),
        claimLine_complete _ p l (by simpa using digits) some_ (by simpa using complete), claimedRecord_taken]
      have counts : awaited n.toNat (s.line l).digits.length = 0 := by simp [awaited, complete]
      simp only [line_taken, taken_tone, claimedRecord, counts]
    · have claimed := (agreed.recordRight l).claimed_of_held originating (by simp [holder])
      refine exec_claim asks small ?_ (settled_setLine free l _)
      rw [claim_again _ p l _ (by simpa using originating) (by simpa using holder) (by simpa using claimed)]
      simp only [line_taken, taken_tone]

end Sys2Proof.Machine.State
end

section
/-! PROOFS. A line that an event takes off tone (R57), and the events and requests that do: PULSE, END TONE, CONNECT and DISCONNECT (R62, R66,
R69, R70, R73, R79, R80): the obligations O37, O38 and O41. -/

namespace Sys2Proof.Machine.State

open Sys2Proof.Safety

variable {s v t : State} {p : Port} {l : LineNo} {es : List ScanEvent} {rest : List ReplyItem}

/-! ## A line that gives up tone (R57) -/

/-- `v` is `s` after an event has taken the line off tone, before the grants: the line has given up its place in the Tone Pool, and
besides only its record, report queues and attention differ. -/
structure TakenOffTone (l : LineNo) (s v : State) : Prop where
  frame : v = { s with lines := v.lines, tone := (s.giveUpTone l).tone, tapReturned := (s.giveUpTone l).tapReturned,
                       queues := v.queues, ports := v.ports }
  line : ∀ k, k ≠ l → v.line k = s.line k
  sent : SameSent s v

theorem takenOffTone_giveUpTone (s : State) (l : LineNo) : TakenOffTone l s (s.giveUpTone l) := by
  have frame := giveUpTone_frame s l
  exact ⟨by rw [frame], fun k _ => by simp, sameSent_of_ports (by rw [frame])⟩

theorem TakenOffTone.reports (a : TakenOffTone l s v) (h : t = { v with queues := t.queues, ports := t.ports })
    (sent : SameSent v t) : TakenOffTone l s t where
  frame := by rw [h, a.frame]
  line k other := by rw [h]; exact a.line k other
  sent := a.sent.trans sent

theorem TakenOffTone.report (a : TakenOffTone l s v) (b : ReportBody) : TakenOffTone l s (v.report l b) :=
  a.reports (v.report_frame l b) (sameSent_report v l b)

theorem TakenOffTone.abandonOffer (a : TakenOffTone l s v) (c : AbandonCause) : TakenOffTone l s (v.abandonOffer l c) :=
  a.reports (v.abandonOffer_frame l c) (sameSent_abandonOffer v l c)

theorem TakenOffTone.setLine (a : TakenOffTone l s v) (r : LineRecord) : TakenOffTone l s (v.setLine l r) where
  frame := by rw [State.setLine, a.frame]
  line k other := (line_setLine_other v l k r other).trans (a.line k other)
  sent := a.sent.trans (sameSent_of_ports rfl)

/-! ## The grants after it -/

theorem settleTone_passDue (s : State) : s.settleTone.passDue = s.passDue := by
  obtain ⟨t, ⟨frame, -⟩, eq⟩ := settleTone_after s
  rw [eq, frame]

/-- An event that calls for no pass ends with the grants (R57, R114). -/
theorem finish_eq_settleTone (h : s.passDue = false) : s.finish = s.settleTone :=
  settlePasses_eq _ ((settleTone_passDue s).trans h)

/-- What is left of a line that an event has taken off tone, at the end of the event. -/
structure OffTone (l : LineNo) (s v t : State) : Prop where
  line : t.line l = v.line l
  taps : ∀ k : Fin 12, t.tone.taps[k] ≠ some l
  waits : ∀ w ∈ t.tone.queue, w.line ≠ l
  queues : t.queues = v.queues
  ports : t.ports = v.ports
  commands : t.scanCommands = s.scanCommands
  only : OnlyToneChanges s t l

theorem TakenOffTone.waits (a : TakenOffTone l s v) : ∀ w ∈ v.tone.queue, w ∈ s.tone.queue := by
  rw [a.frame]
  exact (movesOnly_giveUpTone (ls := []) s l).waits

theorem TakenOffTone.finish (a : TakenOffTone l s v) (settled : Settled s) (agreed : Agreed v)
    (free : (v.line l).state.holdsNothing = true) : OffTone l s v v.finish := by
  have line := line_finish agreed free
  obtain ⟨-, -, -, taps, waits⟩ := holdsNothing_of_agreed agreed.finish (by rw [line]; exact free)
  obtain ⟨noPass, noTap⟩ := settled
  have ended : v.finish = v.settleTone := finish_eq_settleTone (by rw [a.frame]; exact noPass)
  obtain ⟨x, ⟨granted, kept, -⟩, eq⟩ := settleTone_after v
  have frame : v.finish = { s with lines := v.finish.lines, tone := v.finish.tone, queues := v.queues, ports := v.ports } := by
    rw [ended, eq, granted, a.frame]
    simp [noTap]
  have others (k : LineNo) (other : k ≠ l) (still : ∀ w ∈ s.tone.queue, w.line ≠ k) : v.finish.line k = s.line k := by
    rw [ended, eq]
    exact (kept k fun w hw => still w (a.waits w hw)).trans (a.line k other)
  refine ⟨line, taps, waits, by rw [frame], by rw [frame], by rw [frame], by rw [frame],
    fun k other still => ⟨others k other still, ?_⟩⟩
  rw [frame]
  rfl

theorem agreed_setEvents (h : Agreed s) (l : LineNo) (es : List ScanEvent) : Agreed (s.setEvents l es) := h.of_eq

/-! ## PULSE (R62, R73, R74) -/

/-- The first PULSE takes a line off tone into DIGITS, with the interdigit timer of a claimed line (R62). -/
theorem pulsed_tone (s : State) (tone : (s.line l).state = .dialTone ∨ (s.line l).state = .toneWait) :
    s.pulsed l
      = (s.giveUpTone l).setLine l { (s.line l).enter .digits with
          timer := if (s.line l).holder.isSome then some ⟨.interdigit, s.now + (s.lineClass l).interdigitTimeout⟩
                   else none } := by
  have acts : s.pulsed l = ((s.giveUpTone l).enter l .digits).restartInterdigit l := by
    rcases tone with tone | tone <;> simp only [pulsed, tone]
  have holder : ((s.line l).enter .digits).holder = (s.line l).holder := rfl
  rw [acts, enter_eq, line_giveUpTone]
  simp only [restartInterdigit, line_setLine_same, holder]
  split
  · simp only [startInterdigit, startTimer_eq, line_setLine_same, setLine_setLine, lineClass_setLine_same, now_setLine,
      now_giveUpTone, classOf_giveUpTone]
    rfl
  · rfl

theorem pulsed_digits (s : State) (digits : (s.line l).state = .digits) : s.pulsed l = s.restartInterdigit l := by
  simp only [pulsed, digits]

theorem pulsed_recalling (s : State) (recalling : (s.line l).state = .recalling) :
    s.pulsed l = s.setLine l { s.line l with digitInProgress := some true } := by
  simp only [pulsed, recalling, modLine_eq]

theorem pulsed_discarded (s : State) (still : (s.line l).state.originating = false) (h : (s.line l).state ≠ .recalling) :
    s.pulsed l = s := by
  unfold pulsed
  split
  case h_5 => rfl
  all_goals simp_all [LineState.originating]

/-- Settles O38, by the branches of `pulsed`. -/
theorem pulsesMoveTheLineToDigits : Obligations.PulsesMoveTheLineToDigits := by
  intro s l at_ len n es consistent event
  dsimp only
  obtain ⟨settled, agreed⟩ := consistent_iff.1 consistent
  have free := settled_setEvents settled l es
  rw [exec_pulse event]
  refine ⟨fun tone => ?_, fun digits held => next_finish ?_ (settled_setLine free l _),
    fun digits unheld => next_finish ((pulsed_digits (s.setEvents l es) digits).trans (restartInterdigit_unheld _ unheld)) free,
    fun recalling => next_finish (pulsed_recalling _ recalling) (settled_setLine free l _),
    fun still recalling => next_finish (pulsed_discarded _ still recalling) free⟩
  · have acts := pulsed_tone (s.setEvents l es) tone
    have pulsed := Loose.pulsed (agreed_setEvents agreed l es) l
    rw [acts] at pulsed ⊢
    have off := ((takenOffTone_giveUpTone (s.setEvents l es) l).setLine _).finish free pulsed (by rw [line_setLine_same]; rfl)
    have silent := sameReports_giveUpTone (s.setEvents l es) l
    exact ⟨_, rfl, off.line.trans (line_setLine_same _ l _), off.taps, off.waits, off.queues.trans silent.queues,
      off.ports.trans silent.ports, off.commands, off.only⟩
  · rw [if_pos held]
    exact (pulsed_digits (s.setEvents l es) digits).trans (restartInterdigit_held _ held)

/-! ## Requests that take a line off tone (R69, R70) -/

/-- What an event after the taking of a request changes, it changes of the part before it. -/
theorem onlyToneChanges_of_taken (h : OnlyToneChanges (taken s p rest) t l) : OnlyToneChanges s t l := by
  obtain ⟨frame, others⟩ := h
  refine ⟨?_, fun k other still => ?_⟩
  · rw [frame, taken_frame]
  · obtain ⟨line, commands⟩ := others k other (by rw [taken_tone]; exact still)
    exact ⟨line.trans (line_taken s p rest k), commands.trans (commandsOf_taken s p rest k)⟩

theorem onlyToneChanges_respond {k : Byte} {r : Reply} (h : OnlyToneChanges s t l) : OnlyToneChanges s (t.respond p k r) l := by
  obtain ⟨frame, others⟩ := h
  refine ⟨?_, fun j other still => ?_⟩
  · rw [respond_frame, frame]
  · rw [respond_frame]
    exact others j other still

/-- A request about one line, at the end of its event (R152). -/
theorem takeRequest_line_of_asks {kind : Nat} {act : State → Port → LineNo → State × Reply} {r : Reply}
    (asks : Asks s p kind [byteOf l.val] rest) (small : kind < 256) (fits : bodyFits kind [byteOf l.val] = true)
    (may : permitted kind [byteOf l.val] p = true) (acts : act (taken s p rest) p l = (v, r)) :
    takeRequest kind p (State.onLine act) s = .next (v.finish.respond p (byteOf kind) r) := by
  rw [takeRequest_of_asks asks small, handOver_ok fits may, onLine_byteOf, acts]

/-- A request that takes its line off tone, gives it the record `r` and makes no report, once it is answered. -/
theorem answered_off_tone {kind : Nat} {act : State → Port → LineNo → State × Reply} {r : LineRecord} (settled : Settled s)
    (asks : Asks s p kind [byteOf l.val] rest) (small : kind < 256) (fits : bodyFits kind [byteOf l.val] = true)
    (may : permitted kind [byteOf l.val] p = true)
    (acts : act (taken s p rest) p l = (((taken s p rest).giveUpTone l).setLine l r, .ok))
    (agreed : Agreed (((taken s p rest).giveUpTone l).setLine l r)) (free : r.state.holdsNothing = true) :
    ∃ t, takeRequest kind p (State.onLine act) s = .next t ∧ t.line l = r
      ∧ (∀ k : Fin 12, t.tone.taps[k] ≠ some l) ∧ (∀ w ∈ t.tone.queue, w.line ≠ l)
      ∧ t.queues = (taken s p rest).queues ∧ t.scanCommands = s.scanCommands
      ∧ OnlyToneChanges s t l ∧ (t.port p).sent = (s.port p).sent ++ [responseFrame (byteOf kind) .ok] := by
  have left : TakenOffTone l (taken s p rest) (((taken s p rest).giveUpTone l).setLine l r) :=
    (takenOffTone_giveUpTone _ l).setLine r
  have silent := (sameReports_giveUpTone (taken s p rest) l).queues
  have record := line_setLine_same ((taken s p rest).giveUpTone l) l r
  have off := left.finish (settled_taken settled p rest) agreed (by rw [record]; exact free)
  have sent := (sameSent_of_ports off.ports p).trans ((left.sent p).trans (sameSent_taken s p rest p))
  refine ⟨_, takeRequest_line_of_asks asks small fits may acts, ?_, ?_, ?_,
    (respond_queues _ _ _ _).trans (off.queues.trans silent), ?_, onlyToneChanges_respond (onlyToneChanges_of_taken off.only), ?_⟩
  · exact (line_of_lines (respond_lines _ _ _ _) l).trans (off.line.trans record)
  · rw [respond_tone]; exact off.taps
  · rw [respond_tone]; exact off.waits
  · exact (respond_scanCommands _ _ _ _).trans (off.commands.trans (taken_scanCommands s p rest))
  · rw [respond_def_ports, sent]

section
variable (s : State) (p : Port) (l : LineNo)

/-- END TONE on tone (R69, R64): the interdigit timer starts unless the dialling is TONE. -/
theorem endTone_tone (holder : (s.line l).holder = some p) (tone : (s.line l).state = .dialTone ∨ (s.line l).state = .toneWait) :
    s.endTone p l
      = ((s.giveUpTone l).setLine l { (s.line l).enter .digits with
          timer := if (s.line l).dialling = some .tone then none
                   else some ⟨.interdigit, s.now + (s.lineClass l).interdigitTimeout⟩ }, .ok) := by
  have acts : s.endTone p l
      = (if (s.line l).dialling == some .tone then (s.giveUpTone l).enter l .digits
         else ((s.giveUpTone l).enter l .digits).startInterdigit l, .ok) := by
    rcases tone with tone | tone <;> simp [endTone, holder, tone]
  rw [acts, enter_eq, line_giveUpTone]
  by_cases dialling : (s.line l).dialling = some .tone
  · simp only [dialling, beq_self_eq_true, if_true]
    rfl
  · simp only [beq_iff_eq, dialling, if_false, startInterdigit, startTimer_eq, line_setLine_same, setLine_setLine,
      lineClass_setLine_same, now_setLine, now_giveUpTone, classOf_giveUpTone]
    rfl

theorem endTone_digits (holder : (s.line l).holder = some p) (digits : (s.line l).state = .digits) :
    s.endTone p l = (s, .ok) := by
  simp [endTone, holder, digits]

theorem endTone_notHolder (holder : (s.line l).holder ≠ some p) : s.endTone p l = (s, .refuse .notHolder) := by
  simp [endTone, holder]

theorem endTone_lineActive (holder : (s.line l).holder = some p) (still : (s.line l).state.originating = false) :
    s.endTone p l = (s, .refuse .lineActive) := by
  unfold endTone
  simp only [holder, bne_self_eq_false, Bool.false_eq_true, if_false]
  split
  case h_4 => rfl
  all_goals simp_all [LineState.originating]

/-- CONNECT in an originating state (R70). -/
theorem connect_originating (holder : (s.line l).holder = some p) (originating : (s.line l).state.originating = true) :
    s.connect p l = ((s.giveUpTone l).setLine l ((s.line l).enter .held), .ok) := by
  simp [connect, holder, originating, enter_eq]

theorem connect_notHolder (holder : (s.line l).holder ≠ some p) : s.connect p l = (s, .refuse .notHolder) := by
  simp [connect, holder]

theorem connect_lineActive (holder : (s.line l).holder = some p) (still : (s.line l).state.originating = false) :
    s.connect p l = (s, .refuse .lineActive) := by
  simp [connect, holder, still]

end

/-- Settles O37, by the branches of `endTone` and `connect`. -/
theorem holderTakesTheLineOffTone : Obligations.HolderTakesTheLineOffTone := by
  intro s p l rest consistent
  dsimp only
  obtain ⟨settled, agreed⟩ := consistent_iff.1 consistent
  have free := settled_taken settled p rest
  have owner := agreed_taken agreed p rest
  have line := line_taken s p rest l
  refine ⟨fun asks holder tone => ?_, fun asks holder digits => ?_, fun asks holder => ?_, fun asks holder still => ?_,
    fun asks holder originating => ?_, fun asks holder => ?_, fun asks holder still => ?_⟩ <;>
    rw [← line] at holder
  · have acts := endTone_tone _ p l holder (by rw [line]; exact tone)
    have ended := owner.endTone p l
    rw [acts] at ended
    obtain ⟨t, next, record, others⟩ := answered_off_tone settled asks (by decide) rfl rfl acts ended rfl
    refine ⟨t, next, record.trans ?_, others⟩
    simp only [line_taken, now_taken, lineClass_taken]
  · exact takeRequest_line asks (by decide) rfl rfl (endTone_digits _ p l holder (by rw [line]; exact digits)) free
  · exact takeRequest_line asks (by decide) rfl rfl (endTone_notHolder _ p l holder) free
  · exact takeRequest_line asks (by decide) rfl rfl (endTone_lineActive _ p l holder (by rw [line]; exact still)) free
  · have acts := connect_originating _ p l holder (by rw [line]; exact originating)
    have ended := owner.connect p l
    rw [acts] at ended
    obtain ⟨t, next, record, others⟩ := answered_off_tone settled asks (by decide) rfl rfl acts ended rfl
    exact ⟨t, next, record.trans (by rw [line]), others⟩
  · exact takeRequest_line asks (by decide) rfl rfl (connect_notHolder _ p l holder) free
  · exact takeRequest_line asks (by decide) rfl rfl (connect_lineActive _ p l holder (by rw [line]; exact still)) free

/-! ## DISCONNECT (R66, R73, R79, R80) -/

/-- ABANDON reads the offer, the offered port and the digits of the line alone (R71). -/
theorem SameReports.abandonOffer_of_offer (a : SameReports v t) (offer : (t.line l).offer = (v.line l).offer)
    (port : (t.line l).offeredPort = (v.line l).offeredPort) (digits : (t.line l).digits = (v.line l).digits) (c : AbandonCause) :
    SameReports (v.abandonOffer l c) (t.abandonOffer l c) := by
  unfold State.abandonOffer
  dsimp only
  rw [offer, port, digits]
  split
  · obtain ⟨queues, ports⟩ := deliver_congr a.queues a.ports _ _
    unfold State.reportTo
    rw [a.now_eq]
    exact ⟨queues, ports, by simp [a.routes], by simp [a.clock]⟩
  · exact a

theorem not_call_of_originating {st : LineState} (h : st.originating = true) : st ≠ .held ∧ st ≠ .recalling := by
  cases st <;> simp [LineState.originating] at h ⊢

section
variable (s : State) (l : LineNo) (start : Ms) (n : Nat)

/-- The part once a subscriber on tone or in a call has hung up: the hook field is ON and tone is given up. -/
def hangUpTone : State := (s.giveUpTone l).setLine l { s.line l with hook := .on }

/-- The record of a line whose call a hang-up has ended (R66, R79, R80, R5). -/
def hungUpRecord : LineRecord :=
  if (s.line l).holder.isSome then
    { (s.line l).enter .cleared with
      hook := .on, reorigination := some false, timer := some ⟨.releaseWait, s.now + (s.lineClass l).releaseWait⟩ }
  else { (s.line l).enter .idle with hook := .on }

theorem giveUpTone_setHook : (s.setHook l .on).giveUpTone l = s.hangUpTone l := giveUpTone_setLine s l rfl

@[simp] theorem line_hangUpTone : (s.hangUpTone l).line l = { s.line l with hook := .on } := line_setLine_same _ l _

theorem takenOffTone_hangUpTone : TakenOffTone l s (s.hangUpTone l) := (takenOffTone_giveUpTone s l).setLine _

theorem sameReports_hangUpTone : SameReports s (s.hangUpTone l) := (sameReports_giveUpTone s l).trans (sameReports_setLine _ l _)

theorem clearCall_setHook :
    (s.setHook l .on).clearCall l n
      = ((s.hangUpTone l).report l (.clear (s.line l).state n (s.line l).orphan)).setLine l (s.hungUpRecord l) := by
  simp only [clearCall, giveUpTone_setHook, line_setHook, hungUpRecord]
  split
  · rw [enterCleared_eq]
    simp [lineClass, hangUpTone]
    rfl
  · rw [enterIdle_eq]
    simp
    rfl

/-- What a hang-up of the line with this record reports in `v` (R66, R79): CLEAR to the holder or of an orphan, else ABANDON to the
offered port. -/
def hangUpReport (v : State) (l : LineNo) (r : LineRecord) (n : Nat) : State :=
  if r.holder.isSome ∨ r.orphan = true then v.report l (.clear r.state n r.orphan) else v.abandonOffer l .onHook

/-- A hang-up on tone or in a call: tone is given up, the hang-up is reported, and the line goes to CLEARED with its holder, or to
IDLE. -/
theorem hungUp_tone_or_call (right : LineRecordRight (s.line l))
    (h : (s.line l).state.originating = true ∨ (s.line l).state = .held ∨ (s.line l).state = .recalling) :
    s.hungUp l start n = ((s.hangUpTone l).hangUpReport l (s.line l) n).setLine l (s.hungUpRecord l) := by
  have call (e : (s.line l).holder.isSome ∨ (s.line l).orphan = true) :
      (s.setHook l .on).clearCall l n = ((s.hangUpTone l).hangUpReport l (s.line l) n).setLine l (s.hungUpRecord l) := by
    rw [clearCall_setHook, hangUpReport, if_pos e]
  rcases h with originating | held
  · have acts : s.hungUp l start n
        = if (s.line l).holder.isSome then (s.setHook l .on).clearCall l n
          else ((s.hangUpTone l).abandonOffer l .onHook).enterIdle l := by
      rw [← giveUpTone_setHook]
      unfold hungUp
      split <;> simp_all [LineState.originating]
    rw [acts]
    split
    · rename_i held
      exact call (.inl held)
    · rename_i unheld
      have noOrphan : (s.line l).orphan = false := right.orphan_false (not_call_of_originating originating)
      have record : s.hungUpRecord l = { (s.line l).enter .idle with hook := .on } := if_neg unheld
      rw [hangUpReport, if_neg (by simp [unheld, noOrphan]), enterIdle_eq, record, line_abandonOffer, line_hangUpTone]
      rfl
  · have orphan := right.orphan_iff held
    rw [← call (by cases holder : (s.line l).holder <;> simp_all)]
    rcases held with held | held <;> simp only [hungUp, held]

theorem sameReports_hangUpReport : SameReports (s.hangUpReport l (s.line l) n) ((s.hangUpTone l).hangUpReport l (s.line l) n) := by
  have same := s.sameReports_hangUpTone l
  unfold hangUpReport
  split
  · exact same.report (by rw [line_hangUpTone]) _
  · exact same.abandonOffer_of_offer (by rw [line_hangUpTone]) (by rw [line_hangUpTone]) (by rw [line_hangUpTone]) _

theorem takenOffTone_hangUpReport : TakenOffTone l s ((s.hangUpTone l).hangUpReport l (s.line l) n) := by
  unfold hangUpReport
  split
  · exact (s.takenOffTone_hangUpTone l).report _
  · exact (s.takenOffTone_hangUpTone l).abandonOffer _

theorem holdsNothing_hungUpRecord : (s.hungUpRecord l).state.holdsNothing = true := by
  unfold hungUpRecord
  split <;> rfl

theorem hungUp_cleared (cleared : (s.line l).state = .cleared) :
    s.hungUp l start n = s.setLine l { s.line l with hook := .on, reorigination := some false } := by
  simp [hungUp, cleared, setHook_eq, modLine_eq]

theorem hungUp_parked (parked : (s.line l).state = .parked) :
    s.hungUp l start n
      = if start + (s.lineClass l).parkRelease ≤ s.now then
          (s.setLine l { (s.line l).enter .idle with hook := .on }).report l .lineUnparked
        else s.setLine l { s.line l with hook := .on, timer := some ⟨.parkRelease, start + (s.lineClass l).parkRelease⟩ } := by
  have acts : s.hungUp l start n = (s.setHook l .on).parkedHangUp l start := by simp only [hungUp, parked]
  have cls : (s.setHook l .on).lineClass l = s.lineClass l := lineClass_setLine_same s l _
  have time : (s.setHook l .on).now = s.now := rfl
  rw [acts]
  simp only [parkedHangUp, cls, time, unparkToIdle_eq, modLine_eq, line_setHook]
  split
  · rw [setHook_eq, setLine_setLine]
    rfl
  · rw [setHook_eq, setLine_setLine]

theorem hungUp_hookOnly (h : (s.line l).state = .idle ∨ (s.line l).state = .ringWait ∨ (s.line l).state = .ringing) :
    s.hungUp l start n = s.setHook l .on := by
  rcases h with h | h | h <;> simp only [hungUp, h]

theorem hungUp_outOfService (out : (s.line l).state = .outOfService) : s.hungUp l start n = s := by
  simp only [hungUp, out]

end

/-- Settles O41, by the branches of `hungUp`. -/
theorem disconnectEndsTheCall : Obligations.DisconnectEndsTheCall := by
  intro s l at_ start n es consistent event
  dsimp only
  obtain ⟨settled, agreed⟩ := consistent_iff.1 consistent
  have free := settled_setEvents settled l es
  rw [exec_disconnect event]
  refine ⟨fun call => ?_, fun cleared => next_finish (hungUp_cleared _ l start n cleared) (settled_setLine free l _),
    fun parked early => next_finish ((hungUp_parked (s.setEvents l es) l start n parked).trans (if_neg (Nat.not_le.2 early)))
      (settled_setLine free l _),
    fun parked late => next_finish ((hungUp_parked (s.setEvents l es) l start n parked).trans (if_pos late))
      (settled_report (settled_setLine free l _) l _),
    fun still => next_finish (hungUp_hookOnly _ l start n still) (settled_setLine free l _),
    fun out => next_finish (hungUp_outOfService _ l start n out) free⟩
  have acts := hungUp_tone_or_call (s.setEvents l es) l start n (agreed.recordRight l) call
  have ended := Loose.hungUp (agreed_setEvents agreed l es) l start n
  rw [acts] at ended ⊢
  have off := ((takenOffTone_hangUpReport (s.setEvents l es) l n).setLine _).finish free ended
    (by rw [line_setLine_same]; exact holdsNothing_hungUpRecord _ l)
  exact ⟨_, rfl, off.line.trans (line_setLine_same _ l _), off.taps, off.waits,
    queuesExtend_of_eq (off.queues.trans (sameReports_hangUpReport (s.setEvents l es) l n).queues), off.only⟩

end Sys2Proof.Machine.State
end

section
/-! PROOFS. The expiries of the supervision timer, of a claim window and of a tone delay (R51, R52, R61, R64, R65, R76, R81, R83): the
obligation O45. -/

namespace Sys2Proof.Machine.State

open Sys2Proof.Safety

variable {s v t : State} {l : LineNo} {d : Ms}

/-! ## The expiries of the supervision timer (R6) -/

/-- A timer runs in a state of its purpose, so that its expiry is there to be taken once the deadline has passed (R6). -/
theorem timerExpired_of_timer {q : TimerPurpose} (agreed : Agreed s) (timer : (s.line l).timer = some ⟨q, d⟩)
    (passed : d ≤ s.now) :
    s.timerExpired l q = true := by
  simp [timerExpired, timer, passed, (agreed.recordRight l).timer_runs _ timer]

theorem exec_interdigitExpiry (h : s.timerExpired l .interdigit = true) :
    exec (.interdigitExpiry l) s = .next (s.interdigitExpired l).finish := congrArg _ (if_pos h)

theorem exec_recallWindowExpiry (h : s.timerExpired l .recallWindow = true) :
    exec (.recallWindowExpiry l) s = .next (s.recallLapsed l).finish := congrArg _ (if_pos h)

theorem exec_releaseWaitExpiry (h : s.timerExpired l .releaseWait = true) :
    exec (.releaseWaitExpiry l) s = .next (s.releaseCleared l).finish := congrArg _ (if_pos h)

theorem exec_parkReleaseExpiry (h : s.timerExpired l .parkRelease = true) :
    exec (.parkReleaseExpiry l) s = .next (s.unparkToIdle l).finish := congrArg _ (if_pos h)

theorem exec_firstDigitExpiry (h : s.timerExpired l .firstDigit = true) :
    exec (.firstDigitExpiry l) s = .next (s.firstDigitExpired l).finish := congrArg _ (if_pos h)

theorem exec_offerAdvance (h : s.offerAdvanceDue l = true) :
    exec (.offerAdvance l) s = .next (s.advanceOffer l).finish := congrArg _ (if_pos h)

theorem exec_toneDelayExpiry (h : s.toneDelayDue l = true) :
    exec (.toneDelayExpiry l) s = .next (s.toneDelayed l).finish := congrArg _ (if_pos h)

section
variable (s : State) (l : LineNo)

theorem interdigitExpired_eq :
    s.interdigitExpired l
      = if (s.line l).recallMark = true then
          (s.report l (.recallLapsed (.interdigit (s.line l).delivered (s.line l).expected))).setLine l ((s.line l).enter .held)
        else
          (s.report l (.interdigitTimeout (s.line l).delivered (s.line l).expected)).setLine l { s.line l with timer := none } := by
  simp [interdigitExpired, enter_eq, stopTimer_eq]

theorem recallLapsed_eq :
    s.recallLapsed l = (s.report l (.recallLapsed (.window (s.line l).digits.length))).setLine l ((s.line l).enter .held) := by
  simp [recallLapsed, enter_eq]

/-- A CLEARED line whose subscriber has not lifted again is released to IDLE (R83). -/
theorem releaseCleared_idle (h : (s.line l).reorigination ≠ some true) :
    s.releaseCleared l = s.setLine l ((s.line l).enter .idle) := by
  simp [releaseCleared, h, modLine_eq, enterIdle_eq]
  rfl

/-- A CLEARED line whose subscriber has lifted again originates when it is released (R83). -/
theorem releaseCleared_originates (h : (s.line l).reorigination = some true) :
    s.releaseCleared l = (s.setLine l { s.line l with holder := none, timer := none, reorigination := none }).originate l := by
  simp [releaseCleared, h, modLine_eq]

/-- A line in a call that was taken back to dialling goes back to it when no digit comes (R81). -/
theorem firstDigitExpired_recall (h : (s.line l).recallMark = true) :
    s.firstDigitExpired l
      = ((s.giveUpTone l).report l (.recallLapsed .firstDigit)).setLine l ((s.line l).enter .held) := by
  simp [firstDigitExpired, h, enter_eq]

theorem firstDigitExpired_parks (h : (s.line l).recallMark = false) :
    s.firstDigitExpired l = s.parkFromOrigination l .permanentSignal .permanentSignal := by
  simp [firstDigitExpired, h]

/-- A line whose handset is off parks from origination (R52, R18): no park release timer starts. -/
theorem parkFromOrigination_eq (reason : ParkReason) (cause : AbandonCause) (off : (s.line l).hook = .off) :
    s.parkFromOrigination l reason cause
      = (((s.giveUpTone l).abandonOffer l cause).report l (.lineParked reason)).setLine l
          { (s.line l).enter .parked with parkReason := some reason } := by
  simp [parkFromOrigination, enterParked_eq, off]

/-- An offer in its HOME stage passes to a PRESENT alternate (R51). -/
theorem advanceOffer_alternate {q : Port} (home : (s.line l).offer = .home) (names : (s.lineClass l).alternate = some q)
    (present : s.present q = true) :
    s.advanceOffer l
      = (s.setLine l { s.line l with
          offer := .alternate, offeredPort := some q
          offerDeadline := some (s.now + (s.lineClass l).claimWindow) }).sendOriginate l := by
  simp [advanceOffer, home, names, present, offerTo, modLine_eq]

/-- An offer that no other port can take parks the line (R51, R52). -/
theorem advanceOffer_parks (h : (s.line l).offer = .home → ∀ q, (s.lineClass l).alternate = some q → s.present q = false) :
    s.advanceOffer l = s.parkFromOrigination l .noController .noController := by
  unfold advanceOffer
  cases names : (s.lineClass l).alternate with
  | none => rfl
  | some q =>
    have passes : ((s.line l).offer == .home && s.present q) = false := by
      by_cases home : (s.line l).offer = .home
      · simp [h home q names]
      · simp [home]
    simp [passes]

theorem toneDelayed_eq {w : Ms} (start : (s.line l).toneWaitStart = some w) :
    s.toneDelayed l
      = (s.setLine l { s.line l with toneDelayReported := some true }).report l
          (.toneDelay (s.now - w) (s.tone.position l) s.tone.inUse s.tone.currentLimit) := by
  simp [toneDelayed, start, modLine_eq]

end

theorem settled_sendOriginate (h : Settled s) (l : LineNo) : Settled (s.sendOriginate l) := by
  simpa [Settled] using h

theorem settled_originate (h : Settled s) (l : LineNo) : Settled (s.originate l) := by
  simpa [Settled] using h

/-- A line whose handset is off, once it has parked from origination (R52). -/
theorem parked_off_tone (settled : Settled s) (agreed : Agreed s) (originating : (s.line l).state.originating = true)
    (hook : (s.line l).hook = .off) (reason : ParkReason) (cause : AbandonCause) :
    let t := (s.parkFromOrigination l reason cause).finish
    t.line l = { (s.line l).enter .parked with parkReason := some reason }
      ∧ (∀ k : Fin 12, t.tone.taps[k] ≠ some l) ∧ (∀ w ∈ t.tone.queue, w.line ≠ l)
      ∧ QueuesExtend ((s.abandonOffer l cause).report l (.lineParked reason)) t ∧ OnlyToneChanges s t l := by
  dsimp only
  have acts := s.parkFromOrigination_eq l reason cause hook
  have ended := agreed.parkFromOrigination originating reason cause
  rw [acts] at ended ⊢
  have off := ((((takenOffTone_giveUpTone s l).abandonOffer cause).report (.lineParked reason)).setLine _).finish settled ended
    (by rw [line_setLine_same]; rfl)
  have abandoned := (sameReports_giveUpTone s l).abandonOffer (line_giveUpTone s l l) cause
  have same := abandoned.report (l := l) (by simp) (.lineParked reason)
  exact ⟨off.line.trans (line_setLine_same _ l _), off.taps, off.waits, queuesExtend_of_eq (off.queues.trans same.queues),
    off.only⟩

/-- A line that was taken back to dialling from a call, once it has gone back to the call (R81). -/
theorem recalled_off_tone (settled : Settled s) (agreed : Agreed s) (originating : (s.line l).state.originating = true)
    (mark : (s.line l).recallMark = true) :
    let t := (s.firstDigitExpired l).finish
    t.line l = (s.line l).enter .held
      ∧ (∀ k : Fin 12, t.tone.taps[k] ≠ some l) ∧ (∀ w ∈ t.tone.queue, w.line ≠ l)
      ∧ QueuesExtend (s.report l (.recallLapsed .firstDigit)) t ∧ OnlyToneChanges s t l := by
  dsimp only
  have acts := s.firstDigitExpired_recall l mark
  have ended := agreed.firstDigitExpired originating
  rw [acts] at ended ⊢
  have off := (((takenOffTone_giveUpTone s l).report (.recallLapsed .firstDigit)).setLine _).finish settled ended
    (by rw [line_setLine_same]; rfl)
  have same := (sameReports_giveUpTone s l).report (l := l) (by simp) (.recallLapsed .firstDigit)
  exact ⟨off.line.trans (line_setLine_same _ l _), off.taps, off.waits, queuesExtend_of_eq (off.queues.trans same.queues),
    off.only⟩

theorem offerAdvanceDue_of_deadline (deadline : (s.line l).offerDeadline = some d)
    (originating : (s.line l).state.originating = true)
    (stage : (s.line l).offer = .home ∨ (s.line l).offer = .alternate) (passed : d ≤ s.now) : s.offerAdvanceDue l = true := by
  simp [offerAdvanceDue, deadline, originating, stage_open stage, deadlinePassed, passed]

theorem toneDelayDue_of_waiter (waits : (s.line l).state = .toneWait) (unreported : (s.line l).toneDelayReported = some false)
    (waiter : (⟨l, d⟩ : ToneWaiter) ∈ s.tone.queue) (passed : d ≤ s.now) : s.toneDelayDue l = true := by
  simp only [toneDelayDue, waits, unreported, beq_self_eq_true, Bool.true_and, List.any_eq_true]
  exact ⟨_, waiter, by simp [passed]⟩

/-- Settles O45: each expiry by the one purpose that runs in the state, and the deadlines of an offer and of a wait for tone. -/
theorem timersAndDeadlinesMoveTheLine : Obligations.TimersAndDeadlinesMoveTheLine := by
  refine ⟨fun s l d consistent passed => ?_, fun s l d consistent passed => ?_⟩ <;> dsimp only <;>
    obtain ⟨settled, agreed⟩ := consistent_iff.1 consistent
  · refine ⟨fun timer plain => ?_, fun timer mark => ?_, fun timer => ?_, fun timer still => ?_, fun timer lifted => ?_,
      fun timer => ?_, fun timer hook => ?_⟩
    all_goals have due := timerExpired_of_timer agreed timer passed
    · rw [exec_interdigitExpiry due]
      exact next_finish ((interdigitExpired_eq s l).trans (if_neg (by simp [plain])))
        (settled_setLine (settled_report settled l _) l _)
    · rw [exec_interdigitExpiry due]
      exact next_finish ((interdigitExpired_eq s l).trans (if_pos mark)) (settled_setLine (settled_report settled l _) l _)
    · rw [exec_recallWindowExpiry due]
      exact next_finish (recallLapsed_eq s l) (settled_setLine (settled_report settled l _) l _)
    · rw [exec_releaseWaitExpiry due]
      exact next_finish (releaseCleared_idle s l still) (settled_setLine settled l _)
    · rw [exec_releaseWaitExpiry due]
      exact next_finish (releaseCleared_originates s l lifted) (settled_originate (settled_setLine settled l _) l)
    · rw [exec_parkReleaseExpiry due]
      exact next_finish (unparkToIdle_eq s l) (settled_report (settled_setLine settled l _) l _)
    · have originating := originating_of_firstDigit due
      rw [exec_firstDigitExpiry due]
      by_cases mark : (s.line l).recallMark = true
      · simp only [mark, if_true]
        exact ⟨_, rfl, recalled_off_tone settled agreed originating mark⟩
      · simp only [mark, Bool.false_eq_true, if_false]
        rw [firstDigitExpired_parks s l (by simpa using mark)]
        exact ⟨_, rfl, parked_off_tone settled agreed originating hook _ _⟩
  · refine ⟨fun q deadline originating home names present => ?_, fun deadline originating hook stage => ?_,
      fun w waits unreported start waiter => ?_⟩
    · rw [exec_offerAdvance (offerAdvanceDue_of_deadline deadline originating (.inl home) passed)]
      exact next_finish (advanceOffer_alternate s l home names present) (settled_sendOriginate (settled_setLine settled l _) l)
    · have due := offerAdvanceDue_of_deadline deadline originating (stage.symm.imp_left And.left) passed
      have parks := advanceOffer_parks s l fun home => by
        rcases stage with alternate | ⟨-, absent⟩
        · simp [alternate] at home
        · exact absent
      rw [exec_offerAdvance due, parks]
      exact ⟨_, rfl, parked_off_tone settled agreed originating hook _ _⟩
    · rw [exec_toneDelayExpiry (toneDelayDue_of_waiter waits unreported waiter passed)]
      exact next_finish (toneDelayed_eq s l start) (settled_report (settled_setLine settled l _) l _)

end Sys2Proof.Machine.State
end

section
/-! PROOFS. Asking for a tap, the grants, and the tap that goes to the head of the tone wait queue (R56, R57, R61): the obligation O35. -/

namespace Sys2Proof.Machine.State

open Sys2Proof.Safety

variable {s v t : State} {l : LineNo} {w : ToneWaiter} {ws : List ToneWaiter} {k : Fin 12} {es : List ScanEvent}

/-! ## Asking for a tap (R56, R61) -/

theorem hasRoom_iff {t : TonePool} : t.hasRoom = true ↔ t.inUse < t.currentLimit := by simp [TonePool.hasRoom]

/-- A line that finds room, nobody waiting and a free tap gets the lowest free one (R56). -/
theorem askTone_granted (free : s.tone.freeTap = some k) (room : s.tone.inUse < s.tone.currentLimit) (nobody : s.tone.queue = []) :
    s.askTone l = (s.assignTap k l).enter l .dialTone := by
  simp [askTone, free, hasRoom_iff.2 room, nobody]

/-- A line that finds no room, others waiting or no free tap joins the queue (R56). -/
theorem askTone_joins
    (h : s.tone.currentLimit ≤ s.tone.inUse ∨ s.tone.queue ≠ [] ∨ s.tone.freeTap = none) :
    s.askTone l = s.joinToneQueue l := by
  unfold askTone
  split
  · rename_i k free
    refine if_neg fun asks => ?_
    rw [Bool.and_eq_true, hasRoom_iff, List.isEmpty_iff] at asks
    obtain ⟨room, nobody⟩ := asks
    rcases h with full | others | none
    · omega
    · exact others nobody
    · simp [none] at free
  · rfl

/-! ## Grants (R56, R57) -/

theorem grantHead_eq (waits : s.tone.queue = w :: ws) (free : s.tone.freeTap = some k) :
    s.grantHead
      = ({ s with tone := { s.tone with queue := ws, taps := s.tone.taps.set k (some w.line) } }).setLine w.line
          { (s.line w.line).enter .dialTone with timer := (s.line w.line).timer } := by
  simp only [grantHead, waits, free]
  rfl

theorem grantHead_still (h : s.tone.freeTap = none) : s.grantHead = s := by
  unfold grantHead
  split
  · simp_all
  · rfl

@[simp] theorem grantHead_tapReturned (s : State) : s.grantHead.tapReturned = s.tapReturned := by
  unfold grantHead
  split <;> rfl

theorem grantLoop_still (n : Nat) (h : s.tone.queue = [] ∨ s.tone.currentLimit ≤ s.tone.inUse) : grantLoop n s = s := by
  cases n with
  | zero => rfl
  | succ n =>
    refine if_neg fun grants => ?_
    rw [Bool.and_eq_true, hasRoom_iff] at grants
    rcases h with nobody | full
    · simp [nobody] at grants
    · omega

theorem grantLoop_grants (n : Nat) (waits : s.tone.queue ≠ []) (room : s.tone.inUse < s.tone.currentLimit) :
    grantLoop (n + 1) s = grantLoop n s.grantHead :=
  if_pos (by simp [hasRoom_iff.2 room, waits])

theorem settleTone_of_returned (h : s.tapReturned = true) : s.settleTone = { s.grantAll with tapReturned := false } := if_pos h

/-- The grants with nobody waiting, or with every tap that the limit allows in use (R57). -/
theorem settleTone_still (returned : s.tapReturned = true) (h : s.tone.queue = [] ∨ s.tone.currentLimit ≤ s.tone.inUse) :
    s.settleTone = { s with tapReturned := false } := by
  rw [settleTone_of_returned returned, grantAll, grantLoop_still _ h]

/-- With room and a line that waits the head is granted, and the grants go on (R57). -/
theorem settleTone_grants (returned : s.tapReturned = true) (waits : s.tone.queue ≠ [])
    (room : s.tone.inUse < s.tone.currentLimit) : s.settleTone = s.grantHead.settleTone := by
  cases free : s.tone.freeTap with
  | none => rw [grantHead_still free]
  | some k =>
    obtain ⟨w, ws, queue⟩ := List.exists_cons_of_ne_nil waits
    have left : s.grantHead.tone.queue = ws := by rw [grantHead_eq queue free]; rfl
    rw [settleTone_of_returned returned, settleTone_of_returned (by simpa using returned), grantAll, grantAll, left, queue,
      List.length_cons, grantLoop_grants _ waits room]

/-- The grants take lines from the head of the queue. -/
theorem grantHead_queue (s : State) : s.grantHead.tone.queue <:+ s.tone.queue := by
  unfold grantHead
  split
  · rename_i w ws k queue free
    rw [queue]
    exact List.suffix_cons w ws
  · exact List.suffix_refl _

theorem grantLoop_queue (n : Nat) (s : State) : (grantLoop n s).tone.queue <:+ s.tone.queue := by
  induction n generalizing s with
  | zero => exact List.suffix_refl _
  | succ n ih =>
    unfold grantLoop
    split
    · exact (ih _).trans s.grantHead_queue
    · exact List.suffix_refl _

theorem settleTone_queue (s : State) : s.settleTone.tone.queue <:+ s.tone.queue := by
  unfold settleTone
  split
  · exact grantLoop_queue _ s
  · exact List.suffix_refl _

/-! ## A tap that goes to the head of the queue (R57) -/

theorem getElem_freeTapsOf (t : TonePool) (l : LineNo) (j : Fin 12) :
    (t.freeTapsOf l).taps[j] = if t.taps[j] = some l then none else t.taps[j] := by
  simp [TonePool.freeTapsOf]

/-- A line that returns a tap leaves fewer taps in use (R55, R57). -/
theorem inUse_freeTapsOf_lt {t : TonePool} {j : Fin 12} (h : t.taps[j] = some l) : (t.freeTapsOf l).inUse < t.inUse := by
  have taps : (t.freeTapsOf l).taps = t.taps.map fun x => if x == some l then none else x := by
    ext i hi : 1
    simp [TonePool.freeTapsOf]
  have others : (t.freeTapsOf l).inUse = (t.taps.toList.filter (·.isSome)).countP (· != some l) := by
    rw [TonePool.inUse, taps, Vector.toList_map, ← List.countP_eq_length_filter, List.countP_map, List.countP_filter]
    refine List.countP_congr fun x _ => ?_
    by_cases e : x = some l <;> simp [e]
  rw [others, TonePool.inUse, List.countP_lt_length_iff]
  have mem : t.taps[j] ∈ t.taps.toList := by simp
  exact ⟨some l, List.mem_filter.2 ⟨h ▸ mem, rfl⟩, by simp⟩

/-- The lowest tap that is free once the line has returned its own (R56, R57). -/
theorem freeTap_freeTapsOf {t : TonePool} (free : t.taps[k] = none ∨ t.taps[k] = some l)
    (lower : ∀ j : Fin 12, j < k → t.taps[j] ≠ none ∧ t.taps[j] ≠ some l) : (t.freeTapsOf l).freeTap = some k := by
  refine freeTap_eq_some.2 ⟨?_, fun j hj => ?_⟩
  · rw [getElem_freeTapsOf]
    rcases free with free | free <;> simp only [free, reduceCtorEq, if_false, if_true]
  · obtain ⟨used, other⟩ := lower j hj
    rw [getElem_freeTapsOf, if_neg other]
    exact used

/-- An event that takes a line out of DIAL_TONE hands a tap to the head of the queue (R57). -/
theorem TakenOffTone.head_granted (off : TakenOffTone l s v) (settled : Settled s) (agreed : Agreed s)
    (tone : (s.line l).state = .dialTone) (queue : s.tone.queue = w :: ws) (room : s.tone.inUse ≤ s.tone.currentLimit)
    (free : s.tone.taps[k] = none ∨ s.tone.taps[k] = some l)
    (lower : ∀ j : Fin 12, j < k → s.tone.taps[j] ≠ none ∧ s.tone.taps[j] ≠ some l) :
    v.finish.line w.line = { (s.line w.line).enter .dialTone with timer := (s.line w.line).timer }
      ∧ v.finish.tone.taps[k] = some w.line ∧ v.finish.tone.queue <:+ ws := by
  have pool : v.tone = s.tone.freeTapsOf l ∧ v.tapReturned = true := by
    rw [off.frame]
    simp [giveUpTone, tone]
  obtain ⟨pool, returned⟩ := pool
  have waiting : v.tone.queue = w :: ws := by rw [pool]; exact queue
  have has : v.tone.inUse < v.tone.currentLimit := by
    obtain ⟨j, hj⟩ := (agreed.at_ l).tapped.2 tone
    have fewer := inUse_freeTapsOf_lt hj
    rw [pool]
    exact Nat.lt_of_lt_of_le fewer room
  have ended : v.finish = v.grantHead.settleTone := by
    rw [finish_eq_settleTone (by rw [off.frame]; exact settled.1), settleTone_grants returned (by simp [waiting]) has]
  have granted := grantHead_eq waiting (by rw [pool]; exact freeTap_freeTapsOf free lower)
  have head : (s.line w.line).state = .toneWait := (agreed.at_ w.line).waits.1 ⟨w, by simp [queue], rfl⟩
  have record : v.line w.line = s.line w.line := off.line _ fun e => by simp [e, tone] at head
  have fresh : ∀ x ∈ ws, x.line ≠ w.line := by
    have nodup := agreed.nodup
    rw [queue, List.map_cons, List.nodup_cons] at nodup
    exact fun x hx e => nodup.1 (List.mem_map.2 ⟨x, hx, e⟩)
  have left : v.grantHead.tone.queue = ws := by rw [granted]; rfl
  obtain ⟨y, ⟨-, kept, stays, -⟩, eq⟩ := settleTone_after v.grantHead
  rw [ended]
  refine ⟨?_, ?_, left ▸ settleTone_queue _⟩
  · rw [eq]
    refine (kept w.line (by rw [left]; exact fresh)).trans ?_
    rw [granted, line_setLine_same, record]
  · rw [eq]
    refine stays k w.line ?_
    rw [granted]
    simp

/-- The events that take a line out of DIAL_TONE: END TONE and CONNECT by its holder, a first PULSE and a DISCONNECT (R57). -/
def LeavesDialTone (s : State) (l : LineNo) (p : Port) (rest : List ReplyItem) (c : Instr) : Prop :=
  (c = .endTone p ∧ Asks s p 4 [byteOf l.val] rest ∧ (s.line l).holder = some p)
    ∨ (c = .connect p ∧ Asks s p 5 [byteOf l.val] rest ∧ (s.line l).holder = some p)
    ∨ (c = .pulse l ∧ ∃ at_ len n es, s.eventsOf l = .pulse at_ len n :: es)
    ∨ (c = .disconnect l ∧ ∃ at_ start n es, s.eventsOf l = .disconnect at_ start n :: es)

/-- Each of them takes the line off tone in a part that agrees with `s` in tone and lines, and ends with the grants. -/
theorem exec_leaves_dialTone {c : Instr} (settled : Settled s) (agreed : Agreed s) (tone : (s.line l).state = .dialTone)
    (h : LeavesDialTone s l p rest c) :
    ∃ u v t, TakenOffTone l u v ∧ Settled u ∧ Agreed u ∧ u.lines = s.lines ∧ u.tone = s.tone
      ∧ exec c s = .next t ∧ t.lines = v.finish.lines ∧ t.tone = v.finish.tone := by
  have free := settled_taken settled p rest
  have owner := agreed_taken agreed p rest
  have line := line_taken s p rest l
  rcases h with ⟨rfl, asks, holder⟩ | ⟨rfl, asks, holder⟩ | ⟨rfl, at_, len, n, es, event⟩
    | ⟨rfl, at_, start, n, es, event⟩
  · have acts := endTone_tone (taken s p rest) p l (by rw [line]; exact holder) (by rw [line]; exact .inl tone)
    exact ⟨_, _, _, (takenOffTone_giveUpTone _ l).setLine _, free, owner, taken_lines _ _ _, taken_tone _ _ _,
      takeRequest_line_of_asks asks (by decide) rfl rfl acts, respond_lines _ _ _ _, respond_tone _ _ _ _⟩
  · have acts := connect_originating (taken s p rest) p l (by rw [line]; exact holder) (by rw [line, tone]; rfl)
    exact ⟨_, _, _, (takenOffTone_giveUpTone _ l).setLine _, free, owner, taken_lines _ _ _, taken_tone _ _ _,
      takeRequest_line_of_asks asks (by decide) rfl rfl acts, respond_lines _ _ _ _, respond_tone _ _ _ _⟩
  · have acts := pulsed_tone (s.setEvents l es) (.inl tone)
    rw [exec_pulse event, acts]
    exact ⟨_, _, _, (takenOffTone_giveUpTone _ l).setLine _, settled_setEvents settled l es, agreed_setEvents agreed l es,
      rfl, rfl, rfl, rfl, rfl⟩
  · have acts := hungUp_tone_or_call (s.setEvents l es) l start n (agreed.recordRight l)
      (.inl (congrArg LineState.originating tone))
    rw [exec_disconnect event, acts]
    exact ⟨_, _, _, (takenOffTone_hangUpReport _ l n).setLine _, settled_setEvents settled l es,
      agreed_setEvents agreed l es, rfl, rfl, rfl, rfl, rfl⟩

/-- Settles O35: asking and granting by the lowest free tap, and the one tap that a line off tone hands to the head of the queue. -/
theorem askingForATap : Obligations.AskingForATap := by
  refine ⟨fun s l => ?_, fun s w ws k queue free lower => ?_, fun s => ?_,
    fun s p l c rest w ws k consistent tone event queue room free lower => ?_⟩
  · refine ⟨fun k free lower => ⟨fun room nobody => ?_, fun h => askTone_joins (h.imp_right .inl)⟩, fun none => ?_⟩
    · exact askTone_granted (freeTap_eq_some.2 ⟨free, lower⟩) room nobody
    · exact askTone_joins (.inr (.inr (freeTap_eq_none.2 none)))
  · exact grantHead_eq queue (freeTap_eq_some.2 ⟨free, lower⟩)
  · exact ⟨settleTone_eq s, settleTone_still, settleTone_grants, finish_eq_settleTone⟩
  · obtain ⟨settled, agreed⟩ := consistent_iff.1 consistent
    obtain ⟨u, v, t, off, settledU, agreedU, lines, pool, next, linesT, poolT⟩ := exec_leaves_dialTone settled agreed tone event
    have line (k : LineNo) : s.line k = u.line k := (line_of_lines lines k).symm
    rw [← pool] at queue room free lower
    obtain ⟨head, tap, left⟩ := off.head_granted settledU agreedU ((line l).symm ▸ tone) queue room free lower
    refine ⟨t, next, (line_of_lines linesT w.line).trans ?_, ?_, ?_⟩
    · rw [line]
      exact head
    · rw [poolT]
      exact tap
    · rw [poolT]
      exact left

end Sys2Proof.Machine.State
end

section
/-! PROOFS. GIVE TONE and KEEP CALL, the two answers to a recall (R77, R78): the obligations O42 and O43. -/

namespace Sys2Proof.Machine.State

open Sys2Proof.Safety

variable {s v : State} {p : Port} {l : LineNo} {b n : Byte} {rest : List ReplyItem}

/-! ## GIVE TONE (R77) -/

/-- A line above 63 or a count above 16 is refused before the owner sees it (R8, R77, R170). -/
theorem onLineAndCount_badValue (act : State → Port → LineNo → Nat → State × Reply) (s : State) (p : Port)
    (h : 64 ≤ b.toNat ∨ 16 < n.toNat) : State.onLineAndCount act s p [b, n] = (s, .refuse .badValue) := by
  unfold State.onLineAndCount
  rcases h with line | count
  · simp only [lineOf_none line]
  · have large : inRange 0 16 n.toNat = false := by simp [inRange, count]
    simp only [large]
    cases lineOf b <;> rfl

section
variable (s : State) (p : Port) (l : LineNo) (k : Nat)

/-- The record of a recalled line that is given back to dialling, before it takes the state that its digits call for (R77). -/
def givenRecord : LineRecord :=
  { s.line l with
    recallMark := true, offer := .claimed, dialling := some (s.lineClass l).dialling, digits := []
    delivered := (s.line l).digits.length, expected := awaited k (s.line l).digits.length, timer := none }

/-- The part with a recalled line given back to dialling, in the state that its digits call for (R77). -/
def givenBack : State :=
  if 0 < k ∧ k ≤ (s.line l).digits.length then (s.setLine l (s.givenRecord l k)).dialingDone l
  else if 0 < (s.line l).digits.length ∨ (s.line l).digitInProgress = some true then
    ((s.setLine l (s.givenRecord l k)).enter l .digits).startInterdigit l
  else ((s.setLine l (s.givenRecord l k)).askTone l).startFirstDigit l

theorem giveToneLine_eq :
    s.giveToneLine l k = (s.givenBack l k, .okWith ((s.givenBack l k).callData l (s.line l).digits)) := by
  simp only [giveToneLine, Bool.and_eq_true, Bool.or_eq_true, decide_eq_true_iff, beq_iff_eq]
  rfl

/-- With the wanted digits already dialled the line goes to HELD, after DIALING COMPLETE (R77). -/
theorem givenBack_complete (some_ : 0 < k) (h : k ≤ (s.line l).digits.length) :
    s.givenBack l k
      = ((s.setLine l (s.givenRecord l k)).report l (.dialingComplete (s.line l).digits.length)).modLine l (·.enter .held) := by
  have acts : s.givenBack l k = (s.setLine l (s.givenRecord l k)).dialingDone l := if_pos ⟨some_, h⟩
  rw [acts, dialingDone, line_setLine_same]
  rfl

/-- A line enters DIGITS with its interdigit timer (R64). -/
theorem startInterdigit_digits (r : LineRecord) :
    ((s.setLine l r).enter l .digits).startInterdigit l
      = s.setLine l { r.enter .digits with timer := some ⟨.interdigit, s.now + (s.classOf r.cls).interdigitTimeout⟩ } := by
  simp only [startInterdigit, startTimer_eq, enter_eq, line_setLine_same, setLine_setLine, lineClass_setLine_same, now_setLine]
  rfl

/-- With digits still awaited and some dialled, or one in progress, the line goes to DIGITS with its interdigit timer (R77). -/
theorem givenBack_digits (awaits : k = 0 ∨ (s.line l).digits.length < k)
    (dialled : 0 < (s.line l).digits.length ∨ (s.line l).digitInProgress = some true) :
    s.givenBack l k
      = s.setLine l { (s.givenRecord l k).enter .digits with
            timer := some ⟨.interdigit, s.now + (s.lineClass l).interdigitTimeout⟩ } := by
  have acts : s.givenBack l k = ((s.setLine l (s.givenRecord l k)).enter l .digits).startInterdigit l :=
    (if_neg (by omega)).trans (if_pos dialled)
  exact acts.trans (s.startInterdigit_digits l _)

/-- With no digit dialled and none in progress the line asks for a tap and its first-digit timer starts (R77). -/
theorem givenBack_tone (empty : (s.line l).digits.length = 0) (still : (s.line l).digitInProgress ≠ some true) :
    s.givenBack l k
      = ((s.setLine l (s.givenRecord l k)).askTone l).startTimer l .firstDigit (s.lineClass l).firstDigitTimeout := by
  have acts : s.givenBack l k = ((s.setLine l (s.givenRecord l k)).askTone l).startFirstDigit l :=
    (if_neg (by omega)).trans (if_neg (by simp [empty, still]))
  rw [acts, startFirstDigit, lineClass_askTone, lineClass_setLine_same]
  rfl

/-- The data of the response, of a line in a known state whose taps have not moved (R172). -/
theorem callData_eq {v : State} {st : LineState} (ds : List Digit) (state : (v.line l).state = st) (tone : v.tone = s.tone) :
    v.callData l ds
      = [byteOf st.code, byteOf ((s.tone.tapOf l).getD 255), byteOf ds.length] ++ ds.map fun d => byteOf d.val := by
  rw [callData, state, tone]

/-- GIVE TONE by the holder of a line in RECALL is accepted (R77). -/
theorem giveTone_accepted (holder : (s.line l).holder = some p) (recalling : (s.line l).state = .recalling) :
    s.giveTone p l k = (s.givenBack l k, .okWith ((s.givenBack l k).callData l (s.line l).digits)) := by
  simp [giveTone, holder, recalling, giveToneLine_eq]

theorem giveTone_notHolder (holder : (s.line l).holder ≠ some p) : s.giveTone p l k = (s, .refuse .notHolder) := by
  simp [giveTone, holder]

theorem giveTone_lineActive (holder : (s.line l).holder = some p) (active : (s.line l).state ≠ .recalling) :
    s.giveTone p l k = (s, .refuse .lineActive) := by
  simp [giveTone, holder, active]

theorem givenRecord_taken (rest : List ReplyItem) : (taken s p rest).givenRecord l k = s.givenRecord l k := by
  simp only [givenRecord, line_taken, lineClass_taken]

end

theorem settled_startTimer (h : Settled s) (l : LineNo) (q : TimerPurpose) (m : Nat) : Settled (s.startTimer l q m) := h

/-- GIVE TONE with a line and a count in range is answered as its owner answers it. -/
theorem exec_giveTone {r : Reply} (asks : Asks s p 6 [byteOf l.val, n] rest) (small : n.toNat ≤ 16)
    (acts : (taken s p rest).giveTone p l n.toNat = (v, r)) (settled : Settled v) :
    exec (.giveTone p) s = .next (v.respond p 6#8 r) :=
  takeRequest_settled asks (by decide) rfl rfl ((onLineAndCount_byteOf _ _ p l small).trans acts) settled

/-- Settles O42, by the branches of `giveTone` and of `giveToneLine`. -/
theorem giveToneTakesTheCallBackToDialling : Obligations.GiveToneTakesTheCallBackToDialling := by
  refine ⟨fun s p l n rest consistent asks small holder recalling => ?_, fun s p b n rest settled asks => ?_⟩
  · dsimp only
    have free := settled_taken consistent.1 p rest
    have accepted := giveTone_accepted (taken s p rest) p l n.toNat (by simpa using holder) (by simpa using recalling)
    refine ⟨fun some_ complete => exec_giveTone asks small (accepted.trans ?_)
        (settled_setLine (settled_report (settled_setLine free l _) l _) l _),
      fun awaits dialled => exec_giveTone asks small (accepted.trans ?_) (settled_setLine free l _),
      fun empty still => exec_giveTone asks small (accepted.trans ?_)
        (settled_startTimer (settled_askTone (settled_setLine free l _) l) l _ _)⟩
    · rw [givenBack_complete _ l _ some_ (by simpa using complete), givenRecord_taken, line_taken]
      refine congrArg₂ Prod.mk rfl (congrArg Reply.okWith ?_)
      exact callData_eq _ l _ (congrArg LineRecord.state (line_modLine_same _ l _)) (by simp [modLine_eq])
    · rw [givenBack_digits _ l _ (by simpa using awaits) (by simpa using dialled), givenRecord_taken, now_taken, lineClass_taken,
        line_taken]
      refine congrArg₂ Prod.mk rfl (congrArg Reply.okWith ?_)
      exact callData_eq _ l _ (congrArg LineRecord.state (line_setLine_same _ l _)) (by simp)
    · have none : (s.line l).digits = [] := List.eq_nil_of_length_eq_zero empty
      rw [givenBack_tone _ l _ (by simpa using empty) (by simpa using still), givenRecord_taken, lineClass_taken, line_taken]
      exact congrArg₂ Prod.mk rfl (congrArg Reply.okWith (congrArg (callData _ l) none))
  · dsimp only
    have free := settled_taken settled p rest
    refine ⟨fun bad => takeRequest_settled asks (by decide) rfl rfl (onLineAndCount_badValue _ _ p bad) free, ?_⟩
    rintro l rfl small
    exact ⟨fun holder => exec_giveTone asks small (giveTone_notHolder _ p l _ (by simpa using holder)) free,
      fun holder active => exec_giveTone asks small
        (giveTone_lineActive _ p l _ (by simpa using holder) (by simpa using active)) free⟩

/-! ## KEEP CALL (R78) -/

section
variable (s : State) (p : Port) (l : LineNo)

theorem keepCall_recalling (holder : (s.line l).holder = some p) (recalling : (s.line l).state = .recalling) :
    s.keepCall p l = (s.setLine l ((s.line l).enter .held), .okWith [byteOf (s.line l).digits.length]) := by
  simp [keepCall, holder, recalling, enter_eq]

theorem keepCall_notHolder (holder : (s.line l).holder ≠ some p) : s.keepCall p l = (s, .refuse .notHolder) := by
  simp [keepCall, holder]

theorem keepCall_lineActive (holder : (s.line l).holder = some p) (active : (s.line l).state ≠ .recalling) :
    s.keepCall p l = (s, .refuse .lineActive) := by
  simp [keepCall, holder, active]

end

/-- Settles O43, by the branches of `keepCall`; a digit that ends in HELD is an in-call digit. -/
theorem keepCallKeepsTheCall : Obligations.KeepCallKeepsTheCall := by
  refine ⟨fun s p b rest settled asks => ?_, fun s l at_ d n es settled call event => ?_⟩
  · have free := settled_taken settled p rest
    refine ⟨fun bad => takeRequest_settled asks (by decide) rfl rfl (onLine_refused _ _ p bad) free, ?_⟩
    rintro l rfl
    refine ⟨fun holder => takeRequest_line asks (by decide) rfl rfl (keepCall_notHolder _ p l (by simpa using holder)) free,
      fun holder active => takeRequest_line asks (by decide) rfl rfl
        (keepCall_lineActive _ p l (by simpa using holder) (by simpa using active)) free,
      fun holder recalling => ⟨takeRequest_line asks (by decide) rfl rfl ?_ (settled_setLine free l _), holder, rfl, rfl⟩⟩
    rw [keepCall_recalling _ p l (by simpa using holder) (by simpa using recalling), line_taken]
  · rw [exec_digitEnd event]
    exact next_finish (digitEnded_call _ d n call) (settled_report (settled_setEvents settled l es) l _)

end Sys2Proof.Machine.State
end

section
/-! PROOFS. RELEASE by the state of the line (R83, R84, R85), and a line whose ring an event ends (R113, R131): the obligation O44. -/

namespace Sys2Proof.Machine.State

open Sys2Proof.Safety

variable {s v t : State} {p : Port} {l : LineNo} {rest : List ReplyItem}

/-! ## An event that ends the ring of a line (R113, R131) -/

/-- `v` is `s` after an event has ended the ring of the line, before the passes: besides the line's record, its ring and what the ring
counted for, only report queues and attention differ. -/
structure TakenOffRing (l : LineNo) (s v : State) : Prop where
  frame : v = { s with lines := v.lines, programs := v.programs, alloc := v.alloc, entries := v.entries, relays := v.relays,
                       indications := v.indications, queues := v.queues, ports := v.ports, passDue := v.passDue }
  moves : MovesOnly [l] s v
  told : ∀ k, k ≠ l → v.indicationsOf k = s.indicationsOf k

theorem TakenOffRing.trans (a : TakenOffRing l s v) (b : TakenOffRing l v t) : TakenOffRing l s t where
  frame := by rw [b.frame, a.frame]
  moves := a.moves.trans b.moves
  told k other := (b.told k other).trans (a.told k other)

theorem takenOffRing_of_reports (h : t = { s with queues := t.queues, ports := t.ports }) (sent : SameSent s t) :
    TakenOffRing l s t where
  frame := by rw [h]
  moves := movesOnly_of_reports h sent
  told k _ := by rw [h]; rfl

theorem takenOffRing_setLine (s : State) (l : LineNo) (r : LineRecord) : TakenOffRing l s (s.setLine l r) :=
  ⟨rfl, movesOnly_setLine s l r, fun _ _ => rfl⟩

/-- The removal of an entry sends RING END to its own line alone (R131). -/
theorem indicationsOf_removeEntry_other (s : State) {l k : LineNo} (other : k ≠ l) :
    (s.removeEntry l).indicationsOf k = s.indicationsOf k := by
  cases h : s.entry l with
  | none => rw [removeEntry_of_none h]
  | some e =>
    obtain ⟨u, r, eq⟩ := removeEntry_of_entry h
    rw [eq]
    simp [indicate_eq, other]

theorem indicationsOf_endRing_other (s : State) {l k : LineNo} (other : k ≠ l) :
    (s.endRing l).indicationsOf k = s.indicationsOf k := by
  unfold State.endRing
  split
  · exact indicationsOf_removeEntry_other s other
  · split
    · rw [deleteRequest, unqueue_frame]
      rfl
    · rfl

theorem takenOffRing_endRing (s : State) (l : LineNo) : TakenOffRing l s (s.endRing l) where
  frame := by rw [endRing_frame]
  moves := movesOnly_endRing s l
  told _ other := indicationsOf_endRing_other s other

/-- A ring is stopped by its report and its ending; a line with no ring has neither (R140). -/
theorem stopRing_eq (s : State) (l : LineNo) (c : StopCause) : s.stopRing l c = (ringStopReport s l c).endRing l := by
  unfold State.stopRing ringStopReport
  cases ring : s.ringOf l with
  | none => exact (endRing_of_ringOf_none ring).symm
  | some r =>
    obtain ⟨party, program, cycles⟩ := r
    rfl

theorem takenOffRing_ringStopReport (s : State) (l : LineNo) (c : StopCause) : TakenOffRing l s (ringStopReport s l c) := by
  unfold ringStopReport
  split
  · exact takenOffRing_of_reports (s.report_frame l _) (sameSent_report s l _)
  · exact takenOffRing_of_reports rfl (sameSent_refl s)

theorem takenOffRing_stopRing (s : State) (l : LineNo) (c : StopCause) : TakenOffRing l s (s.stopRing l c) := by
  rw [stopRing_eq]
  exact (takenOffRing_ringStopReport s l c).trans (takenOffRing_endRing _ l)

theorem line_stopRing (s : State) (l k : LineNo) (c : StopCause) : (s.stopRing l c).line k = s.line k := by
  have reported : (ringStopReport s l c).line k = s.line k := by
    unfold ringStopReport
    split <;> simp
  rw [stopRing_eq, ← reported]
  exact line_of_lines (by simp) k

/-! ## The passes after it (R114) -/

/-- An event that returns no tap ends with the passes (R57, R114). -/
theorem finish_eq_settlePasses (h : s.tapReturned = false) : s.finish = s.settlePasses := congrArg settlePasses (s.settleTone_eq h)

/-- What is left of a line whose ring an event has ended, at the end of the event. -/
structure OffRing (l : LineNo) (s v t : State) : Prop where
  line : t.line l = v.line l
  entry : t.entry l = none
  request : t.request l = none
  relay : t.relay l = .released
  queues : QueuesExtend v t
  sent : SameSent s t
  only : OnlyRingChanges s t l

theorem TakenOffRing.finish (a : TakenOffRing l s v) (settled : Settled s) (agreed : Agreed v)
    (free : (v.line l).state.holdsNothing = true) : OffRing l s v v.finish := by
  have line := line_finish agreed free
  obtain ⟨entry, request, relay, -⟩ := holdsNothing_of_agreed agreed.finish (by rw [line]; exact free)
  obtain ⟨noPass, noTap⟩ := settled
  obtain ⟨passDue, -⟩ := settled_finish v
  have sent := a.moves.sent.trans (ended_finish v).sent
  have queues := finish_extends v
  have ended : v.finish = v.settlePasses := finish_eq_settlePasses (by rw [a.frame]; exact noTap)
  obtain ⟨passed, kept⟩ := settlePasses_after v
  rw [← ended] at passed kept
  generalize v.finish = t at *
  refine ⟨line, entry, request, relay, queues, sent, ?_, fun k other none => ?_⟩
  · rw [passed, a.frame, passDue, noPass]
  · have apart : k ∉ [l] := by simpa using other
    obtain ⟨-, lineKept, entryKept⟩ := kept k ((a.moves.request k apart).trans none)
    have passRelay : t.relay k = v.relay k := by rw [passed]; rfl
    have passTold : t.indicationsOf k = v.indicationsOf k := by rw [passed]; rfl
    exact ⟨lineKept.trans (a.moves.line k apart), entryKept.trans (a.moves.entry k apart),
      passRelay.trans (a.moves.relay k apart), passTold.trans (a.told k other)⟩

/-! ## Requests that end the ring of a line -/

/-- What an event after the taking of a request changes, it changes of the part before it. -/
theorem onlyRingChanges_of_taken (h : OnlyRingChanges (taken s p rest) t l) : OnlyRingChanges s t l := by
  obtain ⟨frame, others⟩ := h
  refine ⟨?_, fun k other none => ?_⟩
  · rw [frame, taken_frame]
  · have kept := others k other (by simpa using none)
    have told : (taken s p rest).indicationsOf k = s.indicationsOf k := by rw [taken_frame]; rfl
    rwa [line_taken, entry_taken, relay_taken, told] at kept

theorem onlyRingChanges_respond {k : Byte} {r : Reply} (h : OnlyRingChanges s t l) : OnlyRingChanges s (t.respond p k r) l := by
  obtain ⟨frame, others⟩ := h
  refine ⟨?_, fun j other none => ?_⟩
  · rw [respond_frame, frame]
  · rw [respond_frame]
    exact others j other none

/-- A request that stops the ring of its line and gives the line the record `r`, once it is answered. -/
theorem answered_off_ring {kind : Nat} {act : State → Port → LineNo → State × Reply} {c : StopCause} {r : LineRecord}
    (settled : Settled s) (asks : Asks s p kind [byteOf l.val] rest) (small : kind < 256)
    (fits : bodyFits kind [byteOf l.val] = true) (may : permitted kind [byteOf l.val] p = true)
    (acts : act (taken s p rest) p l = (((taken s p rest).stopRing l c).setLine l r, .ok))
    (agreed : Agreed (((taken s p rest).stopRing l c).setLine l r)) (free : r.state.holdsNothing = true) :
    ∃ t, takeRequest kind p (State.onLine act) s = .next t ∧ t.line l = r ∧ t.entry l = none ∧ t.request l = none
      ∧ t.relay l = .released ∧ QueuesExtend (ringStopReport (taken s p rest) l c) t
      ∧ OnlyRingChanges s t l ∧ (t.port p).sent = (s.port p).sent ++ [responseFrame (byteOf kind) .ok] := by
  have left : TakenOffRing l (taken s p rest) (((taken s p rest).stopRing l c).setLine l r) :=
    (takenOffRing_stopRing _ l c).trans (takenOffRing_setLine _ l r)
  have record := line_setLine_same ((taken s p rest).stopRing l c) l r
  have reports : QueuesExtend (ringStopReport (taken s p rest) l c) (((taken s p rest).stopRing l c).setLine l r) := by
    rw [stopRing_eq]
    exact ((sameReports_endRing _ l).trans (sameReports_setLine _ l r)).extend
  have off := left.finish (settled_taken settled p rest) agreed (by rw [record]; exact free)
  have sent := (off.sent p).trans (sameSent_taken s p rest p)
  have unmoved := unmoved_respond (((taken s p rest).stopRing l c).setLine l r).finish p (byteOf kind) .ok
  refine ⟨_, takeRequest_line_of_asks asks small fits may acts, ?_, ?_, ?_, ?_,
    queuesExtend_trans reports (queuesExtend_trans off.queues (queuesExtend_of_eq (respond_queues _ _ _ _))),
    onlyRingChanges_respond (onlyRingChanges_of_taken off.only), ?_⟩
  · exact (line_of_lines unmoved.lines l).trans (off.line.trans record)
  · rw [respond_frame]; exact off.entry
  · rw [respond_frame]; exact off.request
  · rw [respond_frame]; exact off.relay
  · rw [respond_def_ports, sent]

/-! ## RELEASE (R83, R84, R85) -/

section
variable (s : State) (l : LineNo)

/-- The scanner's queues are not read in giving up tone. -/
theorem giveUpTone_sendCommand (c : ScanCommand) : (s.sendCommand l c).giveUpTone l = (s.giveUpTone l).sendCommand l c := by
  simp only [giveUpTone, sendCommand_eq, line_setCommands]
  split <;> rfl

/-- A line whose handset is off is released to PARKED (R85): tone is given up, the digits and the pulse count are discarded, and
LINE PARKED is reported while the holder is recorded. -/
theorem releaseToPark_eq (off : (s.line l).hook = .off) :
    s.releaseToPark l
      = ((((s.sendCommand l .discardPulseCount).giveUpTone l).setLine l { s.line l with digits := [], expected := 0 }).report l
          (.lineParked .releasedOffHook)).setLine l { (s.line l).enter .parked with parkReason := some .releasedOffHook } := by
  have emptied : ((s.giveUpTone l).modLine l fun r => { r with digits := [], expected := 0 }).sendCommand l .discardPulseCount
      = ((s.sendCommand l .discardPulseCount).giveUpTone l).setLine l { s.line l with digits := [], expected := 0 } := by
    rw [giveUpTone_sendCommand, modLine_eq, line_giveUpTone]
    rfl
  rw [releaseToPark, emptied, enterParked_eq, line_report, line_setLine_same, if_neg (by simp [off])]
  rfl

theorem releaseLine_parks (h : (s.line l).state.originating = true ∨ (s.line l).state = .held ∨ (s.line l).state = .recalling) :
    s.releaseLine l = s.releaseToPark l := by
  unfold releaseLine
  split <;> simp_all [LineState.originating]

theorem releaseLine_ring (h : (s.line l).state = .ringWait ∨ (s.line l).state = .ringing) :
    s.releaseLine l = (s.stopRing l .release).setLine l ((s.line l).enter .idle) := by
  have acts : s.releaseLine l = (s.stopRing l .release).enterIdle l := by
    rcases h with h | h <;> simp only [releaseLine, h]
  rw [acts, enterIdle_eq, line_stopRing]

theorem releaseLine_cleared (cleared : (s.line l).state = .cleared) : s.releaseLine l = s.releaseCleared l := by
  simp only [releaseLine, cleared]

theorem release_of_holder (holder : (s.line l).holder = some p) : s.release p l = (s.releaseLine l, .ok) := by
  simp [release, holder]

theorem release_notHolder (holder : (s.line l).holder ≠ some p) : s.release p l = (s, .refuse .notHolder) := by
  simp [release, holder]

end

/-- A command sent to the line's scanner is a change at that line. -/
theorem onlyToneChanges_of_sendCommand {c : ScanCommand} (h : OnlyToneChanges (s.sendCommand l c) t l) : OnlyToneChanges s t l := by
  obtain ⟨frame, others⟩ := h
  refine ⟨?_, fun k other still => ?_⟩
  · rw [frame]
    rfl
  · obtain ⟨line, commands⟩ := others k other still
    exact ⟨line, commands.trans (by simp [sendCommand_eq, other])⟩

/-- The parking of a released line, to the end of its event (R85). -/
theorem releaseToPark_finish (settled : Settled s) (agreed : Agreed s) (off : (s.line l).hook = .off)
    (noRing : (s.line l).state ≠ .ringWait ∧ (s.line l).state ≠ .ringing) :
    let t := (s.releaseToPark l).finish
    t.line l = { (s.line l).enter .parked with parkReason := some .releasedOffHook }
      ∧ t.commandsOf l = s.commandsOf l ++ [.discardPulseCount]
      ∧ (∀ k : Fin 12, t.tone.taps[k] ≠ some l) ∧ (∀ w ∈ t.tone.queue, w.line ≠ l)
      ∧ QueuesExtend (s.report l (.lineParked .releasedOffHook)) t ∧ OnlyToneChanges s t l ∧ SameSent s t := by
  dsimp only
  have acts := s.releaseToPark_eq l off
  have ended := agreed.releaseToPark noRing
  rw [acts] at ended ⊢
  have left := (((takenOffTone_giveUpTone (s.sendCommand l .discardPulseCount) l).setLine
    { s.line l with digits := [], expected := 0 }).report (.lineParked .releasedOffHook)).setLine
      { (s.line l).enter .parked with parkReason := some .releasedOffHook }
  have parked := left.finish settled ended (by rw [line_setLine_same]; rfl)
  have told : SameReports s (s.sendCommand l .discardPulseCount) := ⟨rfl, rfl, rfl, rfl⟩
  have emptied := told.trans ((sameReports_giveUpTone _ l).trans
    (sameReports_setLine _ l { s.line l with digits := [], expected := 0 }))
  have reports := emptied.report (l := l) (by rw [line_setLine_same]) (.lineParked .releasedOffHook)
  refine ⟨parked.line.trans (line_setLine_same _ l _), ?_, parked.taps, parked.waits,
    queuesExtend_of_eq (parked.queues.trans reports.queues), onlyToneChanges_of_sendCommand parked.only,
    left.sent.trans (sameSent_of_ports parked.ports)⟩
  rw [commandsOf, parked.commands]
  exact commandsOf_setCommands_same _ _ _

/-- RELEASE of a line on tone or in a call whose handset is off, once it is answered (R85). -/
theorem release_parks (settled : Settled s) (agreed : Agreed s) (asks : Asks s p 8 [byteOf l.val] rest)
    (holder : (s.line l).holder = some p) (off : (s.line l).hook = .off)
    (h : (s.line l).state.originating = true ∨ (s.line l).state = .held ∨ (s.line l).state = .recalling) :
    ∃ t, exec (.release p) s = .next t
      ∧ t.line l = { (s.line l).enter .parked with parkReason := some .releasedOffHook }
      ∧ t.commandsOf l = s.commandsOf l ++ [.discardPulseCount]
      ∧ (∀ k : Fin 12, t.tone.taps[k] ≠ some l) ∧ (∀ w ∈ t.tone.queue, w.line ≠ l)
      ∧ QueuesExtend ((taken s p rest).report l (.lineParked .releasedOffHook)) t
      ∧ OnlyToneChanges s t l ∧ (t.port p).sent = (s.port p).sent ++ [responseFrame 8#8 .ok] := by
  have noRing : (s.line l).state ≠ .ringWait ∧ (s.line l).state ≠ .ringing := by
    rcases h with originating | held | recalling
    · exact not_ring_of_originating originating
    · simp [held]
    · simp [recalling]
  have acts : (taken s p rest).release p l = ((taken s p rest).releaseToPark l, .ok) := by
    rw [release_of_holder _ l (by simpa using holder), releaseLine_parks _ l (by simpa using h)]
  obtain ⟨line, commands, taps, waits, reports, only, sent⟩ := releaseToPark_finish (settled_taken settled p rest)
    (agreed_taken agreed p rest) (l := l) (by simpa using off) (by simpa using noRing)
  rw [line_taken] at line
  rw [commandsOf_taken] at commands
  have sentBefore := (sameSent_taken s p rest).trans sent
  have answer := takeRequest_line_of_asks asks (by decide) rfl rfl acts
  generalize ((taken s p rest).releaseToPark l).finish = x at *
  refine ⟨_, answer, ?_, ?_, ?_, ?_,
    queuesExtend_trans reports (queuesExtend_of_eq (respond_queues _ _ _ _)),
    onlyToneChanges_respond (onlyToneChanges_of_taken only), ?_⟩
  · exact (line_of_lines (respond_lines _ _ _ _) l).trans line
  · rw [respond_frame]; exact commands
  · rw [respond_tone]; exact taps
  · rw [respond_tone]; exact waits
  · rw [respond_def_ports]
    exact congrArg (· ++ [responseFrame 8#8 .ok]) (sentBefore p)

/-- RELEASE of a line in RING_WAIT or RINGING, once it is answered (R84). -/
theorem release_ends_ring (settled : Settled s) (agreed : Agreed s) (asks : Asks s p 8 [byteOf l.val] rest)
    (holder : (s.line l).holder = some p) (h : (s.line l).state = .ringWait ∨ (s.line l).state = .ringing) :
    ∃ t, exec (.release p) s = .next t ∧ t.line l = (s.line l).enter .idle
      ∧ t.entry l = none ∧ t.request l = none ∧ t.relay l = .released
      ∧ QueuesExtend (ringStopReport (taken s p rest) l .release) t
      ∧ OnlyRingChanges s t l ∧ (t.port p).sent = (s.port p).sent ++ [responseFrame 8#8 .ok] := by
  have ring := releaseLine_ring (taken s p rest) l (by simpa using h)
  rw [line_taken] at ring
  have ended := (agreed_taken agreed p rest).releaseLine l
  rw [ring] at ended
  have acts := (release_of_holder _ l (p := p) (by simpa using holder)).trans (congrArg (·, Reply.ok) ring)
  exact answered_off_ring settled asks (by decide) rfl rfl acts ended rfl

/-- Settles O44, by the state of the line: CLEARED, on tone or in a call, or with a ring. -/
theorem releaseGivesTheLineBack : Obligations.ReleaseGivesTheLineBack := by
  intro s p l rest consistent asks
  dsimp only
  obtain ⟨settled, agreed⟩ := consistent_iff.1 consistent
  have free := settled_taken settled p rest
  have cleared (holder : (s.line l).holder = some p) (h : (s.line l).state = .cleared) :
      (taken s p rest).release p l = ((taken s p rest).releaseCleared l, .ok) := by
    rw [release_of_holder _ l (by simpa using holder), releaseLine_cleared _ l (by simpa using h)]
  refine ⟨fun holder state plain => takeRequest_line asks (by decide) rfl rfl ((cleared holder state).trans ?_)
      (settled_setLine free l _),
    fun holder state lifted => takeRequest_line asks (by decide) rfl rfl ((cleared holder state).trans ?_)
      (settled_originate (settled_setLine free l _) l),
    fun holder state off => release_parks settled agreed asks holder off state,
    fun holder state => release_ends_ring settled agreed asks holder state,
    fun holder => takeRequest_line asks (by decide) rfl rfl (release_notHolder _ l (by simpa using holder)) free⟩
  · rw [releaseCleared_idle _ l (by simpa using plain), line_taken]
  · rw [releaseCleared_originates _ l (by simpa using lifted), line_taken]

end Sys2Proof.Machine.State
end

section
/-! PROOFS. The placement attempt, turns and pass-overs, and the passes at the end of an event (R105, R106, R108, R114 to R116): the
obligation O50. -/

namespace Sys2Proof.Machine

open Sys2Proof.Safety

/-! ## Offsets and slots (R106) -/

theorem mem_allSlots (x : Fin 30) : x ∈ allSlots := by
  simp only [allSlots, List.mem_map, List.mem_range]
  exact ⟨x.val, x.isLt, Fin.ofNat_val_eq_self x⟩

namespace SupplyRecord

variable {r : SupplyRecord} {sh : Shape} {load o : Nat}

theorem fits_iff : r.fits sh load o = true ↔ ∀ x : Fin 30, sh.onAt o x = true → r.map[x] + load ≤ r.current := by
  simp only [fits, List.all_eq_true, Bool.or_eq_true, Bool.not_eq_true', decide_eq_true_eq]
  refine ⟨fun h x on => (h x (mem_allSlots x)).resolve_left (by simp [on]), fun h x _ => ?_⟩
  cases on : sh.onAt o x
  · exact .inl rfl
  · exact .inr (h x on)

/-- An offset that does not fit has a slot in which the load would be above the budget. -/
theorem fits_eq_false_iff : r.fits sh load o = false ↔ ∃ x : Fin 30, sh.onAt o x = true ∧ r.current < r.map[x] + load := by
  simp [← Bool.not_eq_true, fits_iff]

/-- The offset found is the first one, in the order from the pointer, that fits. -/
theorem findOffset_eq_some :
    r.findOffset sh load = some o ↔
      ∃ k, k < sh.cycle ∧ o = (r.pointer.val + k) % sh.cycle ∧ r.fits sh load o = true
        ∧ ∀ j, j < k → r.fits sh load ((r.pointer.val + j) % sh.cycle) = false := by
  simp only [findOffset, offsets, List.find?_eq_some_iff_getElem, List.length_map, List.length_range, List.getElem_map,
    List.getElem_range]
  constructor
  · rintro ⟨fits, k, lt, rfl, before⟩
    exact ⟨k, lt, rfl, fits, fun j hj => by simpa using before j hj⟩
  · rintro ⟨k, lt, rfl, fits, before⟩
    exact ⟨fits, k, lt, rfl, fun j hj => by simpa using before j hj⟩

theorem findOffset_eq_none :
    r.findOffset sh load = none ↔ ∀ j, j < sh.cycle → r.fits sh load ((r.pointer.val + j) % sh.cycle) = false := by
  simp [findOffset, offsets]

end SupplyRecord

/-- The supplies of a route in the order they are named: none stands twice (R105). -/
theorem RingRoute.supplies_cases (q : RingRoute) : q.supplies = [.one, .two] ∨ q.supplies = [.one] ∨ q.supplies = [.two] := by
  cases q <;> simp [RingRoute.supplies]

namespace State

variable {s t u : State} {w : WaitingRequest} {l : LineNo}

/-! ## Candidates (R105) -/

theorem mem_candidates {n : Nat} {sup : Supply} :
    sup ∈ s.candidates l n ↔
      sup ∈ s.partySupplies l n ∧ ((s.supply sup).turn = none ∨ (s.supply sup).turn = some l) := by
  rw [candidates, List.mem_filter]
  cases (s.supply sup).turn <;> simp

theorem partySupplies_of_party {n : Nat} {q : Party} (h : s.party l n = some q) : s.partySupplies l n = q.route.supplies := by
  simp [partySupplies, h]

/-- A party's supplies in the order they are named. -/
theorem partySupplies_cases (s : State) (l : LineNo) (n : Nat) :
    s.partySupplies l n = [.one, .two] ∨ s.partySupplies l n = [.one] ∨ s.partySupplies l n = [.two]
      ∨ s.partySupplies l n = [] := by
  cases h : s.party l n with
  | none => simp [partySupplies, h]
  | some q =>
    rw [partySupplies_of_party h]
    rcases q.route.supplies_cases with e | e | e <;> simp [e]

/-- The candidates in the order they are named. -/
theorem candidates_cases (s : State) (l : LineNo) (n : Nat) :
    s.candidates l n = [.one, .two] ∨ s.candidates l n = [.one] ∨ s.candidates l n = [.two] ∨ s.candidates l n = [] := by
  unfold candidates
  generalize (fun sup => _ : Supply → Bool) = keeps
  rcases s.partySupplies_cases l n with e | e | e | e <;> rw [e] <;> cases one : keeps .one <;> cases two : keeps .two <;>
    simp [one, two]

/-! ## The attempt (R106, R108) -/

/-- The offset that a request finds on a supply. -/
def offsetFor (s : State) (w : WaitingRequest) (sup : Supply) : Option Nat :=
  (s.supply sup).findOffset (s.shape w.program) (s.partyLoad w.line w.party)

/-- The outcome at a place that the attempt finds. -/
def attemptAt (s : State) (w : WaitingRequest) (sup : Supply) (o : Nat) : Attempt :=
  if (s.scan w.line).ground then .grounded else .placed sup o

theorem attempt_eq (s : State) (w : WaitingRequest) :
    s.attempt w
      = match (s.supplyOrder (s.candidates w.line w.party)).findSome? fun sup => (s.offsetFor w sup).map fun o => (sup, o) with
        | none => .failed
        | some (sup, o) => s.attemptAt w sup o := rfl

/-- The order of the trial keeps the candidates. -/
theorem mem_supplyOrder {cs : List Supply} {sup : Supply} : sup ∈ s.supplyOrder cs ↔ sup ∈ cs := by
  unfold supplyOrder
  split
  · rename_i h
    rw [Bool.and_eq_true, beq_iff_eq] at h
    rw [h.1]
    cases sup <;> simp
  · rfl

theorem attempt_failed (h : ∀ sup ∈ s.candidates w.line w.party, s.offsetFor w sup = none) : s.attempt w = .failed := by
  have none : ((s.supplyOrder (s.candidates w.line w.party)).findSome? fun sup => (s.offsetFor w sup).map fun o => (sup, o))
      = Option.none := by
    rw [List.findSome?_eq_none_iff]
    intro sup hs
    simp [h sup (mem_supplyOrder.1 hs)]
  rw [attempt_eq, none]

/-- Of the candidates with an offset that fits, the one with the smaller sum is taken, Supply 1 on equal sums. -/
theorem attempt_of_best {sup : Supply} {o : Nat} (cand : sup ∈ s.candidates w.line w.party) (found : s.offsetFor w sup = some o)
    (best : ∀ v ∈ s.candidates w.line w.party, v ≠ sup →
      s.offsetFor w v = none ∨ (s.supply sup).total < (s.supply v).total
        ∨ ((s.supply sup).total = (s.supply v).total ∧ sup = .one)) :
    s.attempt w = s.attemptAt w sup o := by
  suffices first : ((s.supplyOrder (s.candidates w.line w.party)).findSome? fun sup => (s.offsetFor w sup).map fun o => (sup, o))
      = some (sup, o) by
    rw [attempt_eq, first]
  have supply (v : Supply) : s.supply v = match v with | .one => s.alloc.one | .two => s.alloc.two := by cases v <;> rfl
  unfold supplyOrder
  rcases s.candidates_cases w.line w.party with e | e | e | e <;> rw [e] at cand best ⊢
  · cases sup with
    | one =>
      have two := best .two (by simp) (by simp)
      simp only [supply] at two
      split
      · rename_i less
        have less : s.alloc.two.total < s.alloc.one.total := by simpa using less
        have none : s.offsetFor w .two = none := by
          rcases two with none | lt | ⟨eq, -⟩
          · exact none
          · omega
          · omega
        simp [none, found]
      · simp [found]
    | two =>
      have one := best .one (by simp) (by simp)
      simp only [supply] at one
      split
      · simp [found]
      · rename_i less
        have less : ¬s.alloc.two.total < s.alloc.one.total := by simpa using less
        have none : s.offsetFor w .one = none := by
          rcases one with none | lt | ⟨-, eq⟩
          · exact none
          · omega
          · cases eq
        simp [none, found]
  · obtain rfl : sup = .one := by simpa using cand
    simp [found]
  · obtain rfl : sup = .two := by simpa using cand
    simp [found]
  · simp at cand

/-- A place that an attempt finds is on a candidate, at the offset found there, and the line's ground state is not ACTIVE. -/
theorem placed_of_attempt {sup : Supply} {o : Nat} (h : s.attempt w = .placed sup o) :
    sup ∈ s.candidates w.line w.party ∧ s.offsetFor w sup = some o ∧ (s.scan w.line).ground = false := by
  rw [attempt_eq] at h
  split at h
  · cases h
  · rename_i v p found
    unfold attemptAt at h
    split at h
    · cases h
    · rename_i ground
      obtain ⟨rfl, rfl⟩ := Attempt.placed.inj h
      obtain ⟨x, mem, at_⟩ := List.exists_of_findSome?_eq_some found
      obtain ⟨p', offset, eq⟩ := Option.map_eq_some_iff.1 at_
      obtain ⟨rfl, rfl⟩ := Prod.mk.inj eq
      exact ⟨mem_supplyOrder.1 mem, offset, by simpa using ground⟩

/-- What a placement attempt reads: party entries, the supplies, the shapes and the ground states (R105, R106, R108). -/
structure SamePlacing (s t : State) : Prop where
  parties : ∀ k, (t.line k).parties = (s.line k).parties
  supply : ∀ u, t.supply u = s.supply u
  shape : ∀ g, t.shape g = s.shape g
  ground : ∀ k, (t.scan k).ground = (s.scan k).ground

namespace SamePlacing

theorem refl (s : State) : SamePlacing s s := ⟨fun _ => rfl, fun _ => rfl, fun _ => rfl, fun _ => rfl⟩

theorem trans (a : SamePlacing s t) (b : SamePlacing t u) : SamePlacing s u :=
  ⟨fun k => (b.parties k).trans (a.parties k), fun v => (b.supply v).trans (a.supply v), fun g => (b.shape g).trans (a.shape g),
    fun k => (b.ground k).trans (a.ground k)⟩

end SamePlacing

theorem party_congr (h : (t.line l).parties = (s.line l).parties) (n : Nat) : t.party l n = s.party l n := by simp [party, h]

theorem partyLoad_congr (h : (t.line l).parties = (s.line l).parties) (n : Nat) : t.partyLoad l n = s.partyLoad l n := by
  simp [partyLoad, party_congr h]

theorem partySupplies_congr (h : (t.line l).parties = (s.line l).parties) (n : Nat) :
    t.partySupplies l n = s.partySupplies l n := by
  simp [partySupplies, party_congr h]

namespace SamePlacing

theorem candidates (a : SamePlacing s t) (l : LineNo) (n : Nat) : t.candidates l n = s.candidates l n := by
  simp only [State.candidates, partySupplies_congr (a.parties l), a.supply]

theorem attempt (a : SamePlacing s t) (w : WaitingRequest) : t.attempt w = s.attempt w := by
  have one : t.alloc.one = s.alloc.one := a.supply .one
  have two : t.alloc.two = s.alloc.two := a.supply .two
  simp only [attempt_eq, a.candidates, supplyOrder, one, two, offsetFor, a.supply, a.shape, partyLoad_congr (a.parties _),
    attemptAt, a.ground]

end SamePlacing

/-- An attempt reads of a request its line, its party and its program. -/
theorem attempt_request_congr {x : WaitingRequest} (line : x.line = w.line) (party : x.party = w.party)
    (program : x.program = w.program) : s.attempt x = s.attempt w := by
  simp only [attempt_eq, attemptAt, offsetFor, line, party, program]

/-! ## Turns (R116) -/

/-- `t` is `s` but for the turns of the two supplies. -/
def OnlyTurns (s t : State) : Prop :=
  t = { s with alloc := { s.alloc with one := { s.alloc.one with turn := (t.supply .one).turn },
                                       two := { s.alloc.two with turn := (t.supply .two).turn } } }

theorem onlyTurns_refl (s : State) : OnlyTurns s s := rfl

theorem OnlyTurns.trans (a : OnlyTurns s t) (b : OnlyTurns t u) : OnlyTurns s u := by
  unfold OnlyTurns at *
  rw [b, a]
  rfl

theorem onlyTurns_setTurn (s : State) (v : Supply) (h : Option LineNo) :
    OnlyTurns s (s.setSupply v { s.supply v with turn := h }) := by
  cases v <;> rfl

theorem OnlyTurns.supply (a : OnlyTurns s t) (v : Supply) : t.supply v = { s.supply v with turn := (t.supply v).turn } := by
  unfold OnlyTurns at a
  generalize (t.supply .one).turn = x at a
  generalize (t.supply .two).turn = y at a
  cases v <;> rw [a] <;> rfl

/-- A line takes the turn on a supply that has no turn holder. -/
def takeTurn (s : State) (l : LineNo) (sup : Supply) : State :=
  if (s.supply sup).turn.isNone then s.setSupply sup { s.supply sup with turn := some l } else s

theorem takeTurns_eq (s : State) (w : WaitingRequest) :
    s.takeTurns w = (s.partySupplies w.line w.party).foldl (fun s sup => s.takeTurn w.line sup) s := rfl

theorem onlyTurns_takeTurn (s : State) (l : LineNo) (v : Supply) : OnlyTurns s (s.takeTurn l v) := by
  unfold takeTurn
  split
  · exact onlyTurns_setTurn s v _
  · exact onlyTurns_refl s

theorem turn_takeTurn (s : State) (l : LineNo) (v u : Supply) :
    ((s.takeTurn l v).supply u).turn = if u = v ∧ (s.supply u).turn = none then some l else (s.supply u).turn := by
  unfold takeTurn
  by_cases e : u = v
  · subst e
    by_cases free : (s.supply u).turn = none <;> simp [free]
  · split <;> simp [e]

theorem onlyTurns_foldl {α : Type} {f : State → α → State} (step : ∀ s a, OnlyTurns s (f s a)) (as : List α) (s : State) :
    OnlyTurns s (as.foldl f s) := by
  induction as generalizing s with
  | nil => exact onlyTurns_refl s
  | cons a as ih => exact (step s a).trans (ih _)

theorem onlyTurns_takeTurns (s : State) (w : WaitingRequest) : OnlyTurns s (s.takeTurns w) :=
  onlyTurns_foldl (fun s v => s.onlyTurns_takeTurn w.line v) _ s

theorem turn_foldl_takeTurn (l : LineNo) (vs : List Supply) (s : State) (u : Supply) :
    ((vs.foldl (fun s sup => s.takeTurn l sup) s).supply u).turn
      = if u ∈ vs ∧ (s.supply u).turn = none then some l else (s.supply u).turn := by
  induction vs generalizing s with
  | nil => simp
  | cons v vs ih =>
    rw [List.foldl_cons, ih, turn_takeTurn]
    by_cases free : (s.supply u).turn = none
    · by_cases here : u = v
      · subst here
        simp [free]
      · simp [here, free]
    · simp [free]

/-- A request takes the turn on each supply of its route that has no turn holder. -/
theorem turn_takeTurns (s : State) (w : WaitingRequest) (u : Supply) :
    ((s.takeTurns w).supply u).turn
      = if u ∈ s.partySupplies w.line w.party ∧ (s.supply u).turn = none then some w.line else (s.supply u).turn := by
  rw [takeTurns_eq, turn_foldl_takeTurn]

theorem nextTurn_eq (s : State) (u : Supply) :
    s.nextTurn u
      = (s.alloc.queue.find? fun w =>
          decide (u ∈ s.partySupplies w.line w.party) && decide (s.alloc.turnThreshold ≤ w.passOvers)).map (·.line) := by
  simp only [nextTurn, List.contains_eq_mem]

/-- Releasing a turn offers it and calls for a pass; the turn of another line is left as it is. -/
theorem releaseTurn_eq (s : State) (l : LineNo) (v : Supply) :
    s.releaseTurn l v
      = { s.setSupply v { s.supply v with turn := if (s.supply v).turn = some l then s.nextTurn v else (s.supply v).turn } with
          passDue := s.passDue || (s.supply v).turn == some l } := by
  unfold releaseTurn
  by_cases e : (s.supply v).turn = some l
  · simp only [e, beq_self_eq_true, if_true, Bool.or_true]
    rfl
  · have differ : ((s.supply v).turn == some l) = false := by simpa using e
    rw [differ, if_neg e, Bool.or_false]
    cases v <;> rfl

/-! ## A request leaves the queue (R113, R116) -/

theorem unqueue_queue (s : State) (l : LineNo) : (s.unqueue l).alloc.queue = s.alloc.queue.filter (·.line != l) := by
  rw [unqueue_frame]

/-- A supply after a line's request has left the queue: a turn it held is offered to those who are left. -/
theorem supply_unqueue (s : State) (l : LineNo) (u : Supply) :
    (s.unqueue l).supply u
      = { s.supply u with
          turn := if (s.supply u).turn = some l then (s.setWaiting (s.alloc.queue.filter (·.line != l))).nextTurn u
                  else (s.supply u).turn } := by
  rw [unqueue_eq, releaseTurn_eq, releaseTurn_eq]
  cases u <;> rfl

theorem passDue_unqueue (s : State) (l : LineNo) :
    (s.unqueue l).passDue = (s.passDue || s.alloc.one.turn == some l || s.alloc.two.turn == some l) := by
  rw [unqueue_eq, releaseTurn_eq, releaseTurn_eq]
  rfl

/-- A request that holds no turn only leaves the queue. -/
theorem unqueue_of_no_turn (h : ∀ u, (s.supply u).turn ≠ some l) :
    s.unqueue l = s.setWaiting (s.alloc.queue.filter (·.line != l)) := by
  have kept (v : State) (u : Supply) (turn : (v.supply u).turn ≠ some l) : v.releaseTurn l u = v := by
    unfold releaseTurn
    rw [if_neg (by simpa using turn)]
  have left (u : Supply) : ((s.setWaiting (s.alloc.queue.filter (·.line != l))).supply u).turn ≠ some l := by
    cases u
    · exact h .one
    · exact h .two
  rw [unqueue_eq, kept _ .one (left .one), kept _ .two (left .two)]

/-! ## Passing over (R115) -/

/-- The queue with the pass-over count of a line's request at `n`. -/
def counted (l : LineNo) (n : Nat) (q : List WaitingRequest) : List WaitingRequest :=
  q.map fun x => if x.line = l then { x with passOvers := n } else x

theorem find_counted_same {n : Nat} {q : List WaitingRequest} (h : q.find? (·.line == l) = some w) :
    (counted l n q).find? (·.line == l) = some { w with passOvers := n } := by
  have line : w.line = l := by simpa using List.find?_some h
  have same : ((fun x : WaitingRequest => x.line == l) ∘ fun x => if x.line = l then { x with passOvers := n } else x)
      = fun x => x.line == l := by
    funext x
    simp only [Function.comp]
    split <;> rfl
  rw [counted, List.find?_map, same, h]
  simp [line]

theorem find_counted_other {n : Nat} {k : LineNo} (other : k ≠ l) (q : List WaitingRequest) :
    (counted l n q).find? (·.line == k) = q.find? (·.line == k) := by
  induction q with
  | nil => rfl
  | cons x q ih =>
    rw [counted] at ih ⊢
    rw [List.map_cons, List.find?_cons, List.find?_cons, ih]
    by_cases e : x.line = l
    · have apart : (l == k) = false := by simpa using Ne.symm other
      simp only [e, if_true, apart]
    · simp only [e, if_false]

/-- A request is passed over: its count rises by one, and at the turn threshold it takes its turns. -/
theorem passOver_eq (h : s.request l = some w) (below : w.passOvers < 255) :
    s.passOver l
      = if w.passOvers + 1 = s.alloc.turnThreshold then
          (s.setWaiting (counted l (w.passOvers + 1) s.alloc.queue)).takeTurns w
        else s.setWaiting (counted l (w.passOvers + 1) s.alloc.queue) := by
  have le : w.passOvers + 1 ≤ Config.countMax := below
  simp only [passOver, h, le, if_true, beq_iff_eq, counted]
  rfl

theorem passOver_full (h : s.request l = some w) (full : 255 ≤ w.passOvers) : s.passOver l = s := by
  have gt : ¬w.passOvers + 1 ≤ Config.countMax := by
    change ¬w.passOvers + 1 ≤ 255
    omega
  simp only [passOver, h, gt, if_false]

/-- Passing over moves the queue's counts and the turns, no more. -/
theorem passOver_moves (h : s.request l = some w) (below : w.passOvers < 255) :
    OnlyTurns (s.setWaiting (counted l (w.passOvers + 1) s.alloc.queue)) (s.passOver l)
    ∧ ∀ u, ((s.passOver l).supply u).turn
        = if w.passOvers + 1 = s.alloc.turnThreshold ∧ u ∈ s.partySupplies l w.party ∧ (s.supply u).turn = none then some l
          else (s.supply u).turn := by
  have line := request_line h
  rw [passOver_eq h below]
  have supply (v : Supply) : (s.setWaiting (counted l (w.passOvers + 1) s.alloc.queue)).supply v = s.supply v := by
    cases v <;> rfl
  have route (v : Supply) : v ∈ (s.setWaiting (counted l (w.passOvers + 1) s.alloc.queue)).partySupplies w.line w.party
      ↔ v ∈ s.partySupplies l w.party := by
    rw [line]; rfl
  by_cases due : w.passOvers + 1 = s.alloc.turnThreshold
  · rw [if_pos due]
    refine ⟨onlyTurns_takeTurns _ w, fun u => ?_⟩
    rw [turn_takeTurns, supply]
    simp only [due, true_and] at route ⊢
    simp only [route]
    rw [line]
  · rw [if_neg due]
    refine ⟨onlyTurns_refl _, fun u => ?_⟩
    rw [supply, if_neg (fun c => due c.1)]

theorem OnlyTurns.queue (a : OnlyTurns s t) : t.alloc.queue = s.alloc.queue := by
  rw [a]

/-! ## The passes at the end of an event (R114) -/

/-- A pass in which every request fails its attempt changes nothing. -/
theorem passWalk_failed (ls : List LineNo) (fs : List FailedRequest) (s : State)
    (h : ∀ w ∈ s.alloc.queue, s.attempt w = .failed) : passWalk ls fs s = s := by
  induction ls generalizing fs with
  | nil => rfl
  | cons k ls ih =>
    unfold passWalk
    split
    · exact ih _
    · rename_i w waits
      rw [h w (List.mem_of_find?_eq_some waits)]
      exact ih _

theorem placementPass_failed (h : ∀ w ∈ s.alloc.queue, s.attempt w = .failed) : s.placementPass = s :=
  passWalk_failed _ _ s h

/-- `t` is `s` up to the mark of a due pass. -/
def UpToPass (s t : State) : Prop := t = { s with passDue := t.passDue }

theorem UpToPass.same (h : UpToPass s t) (due : t.passDue = s.passDue) : t = s := by
  rw [h, due]

theorem upToPass_clear (s : State) : UpToPass s { s with passDue := false } := rfl

theorem UpToPass.eq_clear (h : UpToPass s t) : { t with passDue := false } = { s with passDue := false } := by
  rw [h]

theorem UpToPass.samePlacing (h : UpToPass s t) : SamePlacing s t := by
  rw [h]
  exact ⟨fun _ => rfl, fun u => by cases u <;> rfl, fun _ => rfl, fun _ => rfl⟩

/-- The passes with every request failing its attempt only clear the mark. -/
theorem runPasses_failed (n : Nat) (h : ∀ w ∈ s.alloc.queue, s.attempt w = .failed) : runPasses n s = { s with passDue := false } := by
  cases n with
  | zero => rfl
  | succ n =>
    unfold runPasses
    split
    · have pass := placementPass_failed (s := { s with passDue := false }) fun w hw =>
        ((upToPass_clear s).samePlacing.attempt w).trans (h w hw)
      rw [pass]
      cases n <;> rfl
    · rename_i due
      exact ((upToPass_clear s).same (by simpa using due)).symm

theorem settlePasses_failed (h : ∀ w ∈ s.alloc.queue, s.attempt w = .failed) : s.settlePasses = { s with passDue := false } :=
  runPasses_failed _ h

/-- A pass that is due runs first, and then the further passes that it calls for. -/
theorem settlePasses_due (due : s.passDue = true) :
    s.settlePasses = runPasses (s.alloc.queue.length + 1) ({ s with passDue := false } : State).placementPass := by
  rw [settlePasses, runPasses, if_pos due]

theorem passWalk_cons_placed {ls : List LineNo} {fs : List FailedRequest} {sup : Supply} {o : Nat} (waits : s.request l = some w)
    (placed : s.attempt w = .placed sup o) :
    passWalk (l :: ls) fs s = passWalk ls (passOverAll sup fs (s.place w sup o)).2 (passOverAll sup fs (s.place w sup o)).1 := by
  simp only [passWalk, waits, placed]

theorem passWalk_cons_grounded {ls : List LineNo} {fs : List FailedRequest} (waits : s.request l = some w)
    (grounded : s.attempt w = .grounded) : passWalk (l :: ls) fs s = passWalk ls fs (s.groundFault w) := by
  simp only [passWalk, waits, grounded]

theorem passWalk_cons_failed {ls : List LineNo} {fs : List FailedRequest} (waits : s.request l = some w)
    (failed : s.attempt w = .failed) :
    passWalk (l :: ls) fs s = passWalk ls (fs ++ [⟨l, s.candidates w.line w.party, false⟩]) s := by
  simp only [passWalk, waits, failed]

/-- The request that waits alone is the one its line has. -/
theorem request_of_alone (alone : s.alloc.queue = [w]) : s.request w.line = some w := by
  simp [request, alone]

/-- The request that waits alone and finds a place leaves the queue empty. -/
theorem queue_place (s : State) (w : WaitingRequest) (u : Supply) (o : Nat) :
    (s.place w u o).alloc.queue = s.alloc.queue.filter (·.line != w.line) := by
  obtain ⟨a, e, queue, eq⟩ := place_eq s w u o
  rw [eq]
  exact (unqueue_queue _ _).trans (by rw [← queue]; rfl)

theorem queue_toReturnState (s : State) (l : LineNo) : (s.toReturnState l).alloc = s.alloc := by
  unfold toReturnState
  split
  · rw [enterCleared_eq]; rfl
  · rfl

theorem queue_groundFault (s : State) (w : WaitingRequest) :
    (s.groundFault w).alloc.queue = s.alloc.queue.filter (·.line != w.line) := by
  rw [groundFault, queue_toReturnState, report_alloc]
  exact unqueue_queue s w.line

theorem settlePasses_alone_placed {sup : Supply} {o : Nat} (due : s.passDue = true) (alone : s.alloc.queue = [w])
    (placed : s.attempt w = .placed sup o) :
    s.settlePasses = { ({ s with passDue := false } : State).place w sup o with passDue := false } := by
  have same := (upToPass_clear s).samePlacing.attempt w
  have waits : ({ s with passDue := false } : State).request w.line = some w := request_of_alone alone
  have pass : ({ s with passDue := false } : State).placementPass = ({ s with passDue := false } : State).place w sup o := by
    rw [placementPass]
    dsimp only
    rw [alone, List.map_cons, List.map_nil, passWalk_cons_placed waits (same.trans placed)]
    rfl
  rw [settlePasses_due due, pass]
  refine runPasses_failed _ fun x hx => ?_
  rw [queue_place] at hx
  simp [alone] at hx

theorem settlePasses_alone_grounded (due : s.passDue = true) (alone : s.alloc.queue = [w]) (grounded : s.attempt w = .grounded) :
    s.settlePasses = { ({ s with passDue := false } : State).groundFault w with passDue := false } := by
  have same := (upToPass_clear s).samePlacing.attempt w
  have waits : ({ s with passDue := false } : State).request w.line = some w := request_of_alone alone
  have pass : ({ s with passDue := false } : State).placementPass = ({ s with passDue := false } : State).groundFault w := by
    rw [placementPass]
    dsimp only
    rw [alone, List.map_cons, List.map_nil, passWalk_cons_grounded waits (same.trans grounded)]
    rfl
  rw [settlePasses_due due, pass]
  refine runPasses_failed _ fun x hx => ?_
  rw [queue_groundFault] at hx
  simp [alone] at hx

namespace UpToPass

theorem unqueue (h : UpToPass s t) (l : LineNo) : UpToPass (s.unqueue l) (t.unqueue l) := by
  rw [h]
  simp only [unqueue_eq, releaseTurn_eq]
  rfl

theorem enter (h : UpToPass s t) (l : LineNo) (st : LineState) : UpToPass (s.enter l st) (t.enter l st) := by
  rw [h]
  rfl

theorem place (h : UpToPass s t) (w : WaitingRequest) (u : Supply) (o : Nat) : UpToPass (s.place w u o) (t.place w u o) := by
  unfold State.place
  dsimp only
  refine (UpToPass.unqueue ?_ _).enter _ _
  rw [h]
  cases u <;> rfl

theorem report (h : UpToPass s t) (l : LineNo) (b : ReportBody) : UpToPass (s.report l b) (t.report l b) := by
  have same : (t.report l b).queues = (s.report l b).queues ∧ (t.report l b).ports = (s.report l b).ports :=
    report_congr l b (by rw [h]) (by rw [h]) (by rw [h]) (by rw [h]; rfl) (by rw [h]; rfl)
  obtain ⟨queues, ports⟩ := same
  unfold UpToPass
  rw [report_frame t, report_frame s, queues, ports, h]

theorem toReturnState (h : UpToPass s t) (l : LineNo) : UpToPass (s.toReturnState l) (t.toReturnState l) := by
  have line : t.line l = s.line l := by rw [h]; rfl
  unfold State.toReturnState
  rw [line]
  split
  · rw [h, enterCleared_eq, enterCleared_eq]; rfl
  · rw [h]; rfl

theorem groundFault (h : UpToPass s t) (w : WaitingRequest) : UpToPass (s.groundFault w) (t.groundFault w) := by
  refine (UpToPass.report ?_ w.line _).toReturnState w.line
  have left := h.unqueue w.line
  unfold State.deleteRequest
  rw [left]
  rfl

end UpToPass

/-- Settles O50: the offset from the order of the trial, the supply from the order of the candidates, the turns from one rule for each
operation on them, and the pass from the outcome of each attempt. -/
theorem attemptTakesTheFirstFittingOffset : Obligations.AttemptTakesTheFirstFittingOffset := by
  refine ⟨fun r sh load => ⟨fun o found => ?_, fun none j lt => ?_⟩, fun s l n => ⟨fun sup => mem_candidates, fun q party => ?_⟩,
    fun s w => ⟨fun none => attempt_failed none, fun sup o cand found best => ?_⟩, fun s w sup o placed => ?_,
    fun s l w waits => ⟨fun below => ?_, fun full => passOver_full waits full⟩, fun s l => ⟨unqueue_queue s l, fun u => ?_,
      passDue_unqueue s l⟩, fun s due tap => ?_⟩
  · obtain ⟨k, lt, eq, fits, before⟩ := SupplyRecord.findOffset_eq_some.1 found
    exact ⟨k, lt, eq, SupplyRecord.fits_iff.1 fits, fun j lt => SupplyRecord.fits_eq_false_iff.1 (before j lt)⟩
  · exact SupplyRecord.fits_eq_false_iff.1 (SupplyRecord.findOffset_eq_none.1 none j lt)
  · rw [partySupplies_of_party party]
    cases q.route <;> rfl
  · simp only [← total_eq_sum] at best
    exact attempt_of_best cand found best
  · obtain ⟨cand, found, ground⟩ := placed_of_attempt placed
    obtain ⟨route, turn⟩ := mem_candidates.1 cand
    exact ⟨route, turn, found, ground⟩
  · obtain ⟨moves, turns⟩ := passOver_moves waits below
    refine ⟨?_, fun k other => ?_, turns⟩
    · rw [request, moves.queue]
      exact find_counted_same waits
    · rw [request, moves.queue]
      exact find_counted_other other _
  · rw [supply_unqueue, nextTurn_eq, unqueue_queue]
    rfl
  · have passes := finish_eq_settlePasses tap
    refine ⟨fun failed => passes.trans (settlePasses_failed failed), fun w sup o alone placed => passes.trans ?_,
      fun w alone grounded => passes.trans ?_⟩
    · rw [settlePasses_alone_placed due alone placed]
      exact ((upToPass_clear s).place w sup o).eq_clear
    · rw [settlePasses_alone_grounded due alone grounded]
      exact ((upToPass_clear s).groundFault w).eq_clear

end State

end Sys2Proof.Machine
end

section
/-! PROOFS. The checks of RING (R110): the obligation O51. -/

namespace Sys2Proof.Machine

open Sys2Proof.Safety

variable {r : LineRecord} {p q : Port}

/-! ## The operands of RING (R110, R170) -/

@[simp] theorem priorityOf_code (pri : Priority) : priorityOf (byteOf pri.code) = some pri := by cases pri <;> rfl

theorem ringOperandsOf_written (l : LineNo) (party : Fin 4) (g : ProgramNo) {n : Byte} (pri : Priority) (one : 1 ≤ n.toNat) :
    ringOperandsOf [byteOf l.val, byteOf (party.val + 1), byteOf g.val, n, byteOf pri.code]
      = some ⟨l, party.val + 1, g, n.toNat, pri⟩ := by
  have few := party.isLt
  have small : (party.val + 1) % 256 = party.val + 1 := by omega
  have byte : n.toNat ≤ 255 := by omega
  simp [ringOperandsOf, inRange, small, one, byte]

theorem programOf_none {b : Byte} (h : 15 < b.toNat) : programOf b = none := by
  simp [programOf, below]; omega

theorem priorityOf_none {b : Byte} (h : b.toNat < 1 ∨ 3 < b.toNat) : priorityOf b = none := by
  unfold priorityOf
  split
  · omega
  · omega
  · omega
  · rfl

/-- A RING with a field out of range has no operands (R110, the first check). -/
theorem ringOperandsOf_none {line party g n pri : Byte}
    (bad : 63 < line.toNat ∨ party.toNat < 1 ∨ 4 < party.toNat ∨ 15 < g.toNat ∨ n.toNat < 1 ∨ pri.toNat < 1 ∨ 3 < pri.toNat) :
    ringOperandsOf [line, party, g, n, pri] = none := by
  unfold ringOperandsOf
  dsimp only
  split
  · rename_i l_eq party_eq g_eq n_eq pri_eq
    simp only [inRange, Bool.and_eq_true, decide_eq_true_eq] at party_eq n_eq
    rcases bad with h | h | h | h | h | h
    · simp [lineOf_none (show 64 ≤ line.toNat from h)] at l_eq
    · omega
    · omega
    · simp [programOf_none h] at g_eq
    · omega
    · simp [priorityOf_none h] at pri_eq
  · rfl

/-! ## What the state of a line says to a RING (R110) -/

namespace LineRecord

theorem heldElsewhere_of_other (holder : r.holder = some q) (other : q ≠ p) : r.heldElsewhere p = true := by
  simp [heldElsewhere, holder, other]

theorem heldElsewhere_eq_false (h : r.holder = none ∨ r.holder = some p) : r.heldElsewhere p = false := by
  rcases h with h | h <;> simp [heldElsewhere, h]

theorem ringCheck_out (h : r.state = .outOfService ∨ r.state = .parked) : r.ringCheck p = .error .lineActive := by
  rcases h with h | h <;> simp [ringCheck, h]

theorem ringCheck_heldElsewhere (inService : r.state ≠ .outOfService) (notParked : r.state ≠ .parked)
    (held : r.heldElsewhere p = true) : r.ringCheck p = .error .heldElsewhere := by
  cases h : r.state <;> simp_all [ringCheck]

theorem ringCheck_offHook (own : r.heldElsewhere p = false)
    (h : r.state.originating = true ∨ r.state = .held ∨ r.state = .recalling
      ∨ (r.state = .cleared ∧ r.reorigination = some true)) : r.ringCheck p = .error .lineActive := by
  rcases h with h | h | h | ⟨h, pending⟩
  · cases e : r.state <;> simp [e, LineState.originating] at h <;> simp [ringCheck, e, own]
  · simp [ringCheck, h, own]
  · simp [ringCheck, h, own]
  · simp [ringCheck, h, own, pending]

theorem ringCheck_ringing (own : r.heldElsewhere p = false) (h : r.state = .ringWait ∨ r.state = .ringing) :
    r.ringCheck p = .error .ringActive := by
  rcases h with h | h <;> simp [ringCheck, h, own]

/-- A line that a RING finds in IDLE, or CLEARED with no reorigination pending, is accepted with its return state (R110). -/
theorem ringCheck_accepts (own : r.heldElsewhere p = false)
    (h : r.state = .idle ∨ (r.state = .cleared ∧ r.reorigination ≠ some true)) :
    r.ringCheck p = .ok (if r.state = .cleared then .cleared else .idle) := by
  rcases h with h | ⟨h, plain⟩
  · simp [ringCheck, h, own]
  · simp [ringCheck, h, own, plain]

end LineRecord

namespace State

variable {s : State} {rest : List ReplyItem}

theorem noCapacity_iff {l : LineNo} {n : Nat} :
    s.noCapacity l n = true ↔ ∀ sup ∈ s.partySupplies l n, (s.supply sup).normal < s.partyLoad l n := by
  simp [noCapacity]

/-- The port lets a RING through when its priority is not TEST or it is port M's (R153). -/
theorem permitted_ring {line party g n pri : Byte} (h : pri = 3#8 → p = .M) : permitted 9 [line, party, g, n, pri] p = true := by
  by_cases m : p = .M
  · simp [permitted, m]
  · have other : pri.toNat ≠ 3 := fun e => m (h (BitVec.eq_of_toNat_eq e))
    simp [permitted, other]

theorem permitted_ring_code {line party g n : Byte} {pri : Priority} (h : pri = .test → p = .M) :
    permitted 9 [line, party, g, n, byteOf pri.code] p = true :=
  permitted_ring fun e => h (by
    cases pri with
    | urgent => exact absurd e (by decide)
    | normal => exact absurd e (by decide)
    | test => rfl)

/-- What a RING with its operands in range, a ready program and the load for it does, by what the line says to it (R110, R117). -/
def ringAnswer (s : State) (p : Port) (o : RingOperands) : Except Result ReturnState → State × Reply
  | .error e => (s, .refuse e)
  | .ok back => ((s.acceptRing p o back).finish, .okWith [byteOf ((s.acceptRing p o back).finish.line o.line).state.code])

section
variable (s)

/-- The checks of RING in their order, for operands in range (R110). -/
theorem ring_of_operands {body : List Byte} {o : RingOperands} (operands : ringOperandsOf body = some o) :
    s.ring p body
      = if (s.line o.line).parties.length < o.party then (s, .refuse .badValue)
        else if (s.program o.program).state ≠ .ready then (s, .refuse .notReady)
        else if ∀ sup ∈ s.partySupplies o.line o.party, (s.supply sup).normal < s.partyLoad o.line o.party then
          (s, .refuse .noCapacity)
        else s.ringAnswer p o ((s.line o.line).ringCheck p) := by
  have ready : (!s.ready o.program) = true ↔ (s.program o.program).state ≠ .ready := by simp [ready]
  simp only [ring, operands, ready, noCapacity_iff]
  split
  · rfl
  · split
    · rfl
    · split
      · rfl
      · cases (s.line o.line).ringCheck p <;> rfl

end

/-- Settles O51: a RING in the order of its checks, each of which leaves the part as it was taken. -/
theorem ringChecksInOrder : Obligations.RingChecksInOrder := by
  refine ⟨fun s p line party g n pri rest settled asks test bad => ?_,
    fun s p l party g n pri rest settled asks test one => ?_⟩
  · refine takeRequest_settled asks (by decide) rfl (permitted_ring test) ?_ (settled_taken settled p rest)
    simp [ring, ringOperandsOf_none bad]
  · dsimp only
    have refused (x : Result) (h : (taken s p rest).ring p _ = (taken s p rest, .refuse x)) :
        exec (.ring p) s = .next ((taken s p rest).respond p 9#8 (.refuse x)) :=
      takeRequest_settled asks (by decide) rfl (permitted_ring_code test) h (settled_taken settled p rest)
    have checks := ring_of_operands (taken s p rest) (p := p) (ringOperandsOf_written l party g pri one)
    have route : (taken s p rest).partySupplies l (party.val + 1) = s.partySupplies l (party.val + 1) :=
      partySupplies_congr (by simp) _
    have load : (taken s p rest).partyLoad l (party.val + 1) = s.partyLoad l (party.val + 1) := partyLoad_congr (by simp) _
    simp only [line_taken, program_taken, supply_taken, route, load] at checks
    refine ⟨fun few => refused _ ?_, fun enough unready => refused _ ?_, fun enough ready heavy => refused _ ?_,
      fun enough ready light => ?_⟩
    · rw [checks, if_pos few]
    · rw [checks, if_neg (by omega), if_pos unready]
    · rw [checks, if_neg (by omega), if_neg (by simp [ready]), if_pos heavy]
    · rw [if_neg (by omega), if_neg (by simp [ready]), if_neg light] at checks
      refine ⟨fun out => refused _ ?_, fun q inService notParked holder other => refused _ ?_, fun own off => refused _ ?_,
        fun own rings => refused _ ?_⟩
      · rw [checks, LineRecord.ringCheck_out out, ringAnswer]
      · rw [checks, LineRecord.ringCheck_heldElsewhere inService notParked (LineRecord.heldElsewhere_of_other holder other), ringAnswer]
      · rw [checks, LineRecord.ringCheck_offHook (LineRecord.heldElsewhere_eq_false own) off, ringAnswer]
      · rw [checks, LineRecord.ringCheck_ringing (LineRecord.heldElsewhere_eq_false (.inr own)) rings, ringAnswer]

end State

end Sys2Proof.Machine
end

section
/-! PROOFS. Bursts, slot boundaries, and the entering and ending of steps and cycles (R102, R125 to R128, R131, R132), with the wait limit
(R117): the obligation O56. -/

namespace Sys2Proof.Machine.State

open Sys2Proof.Safety

variable {s t u v : State} {l : LineNo} {e : RingEntry} {st : CurrentStep} {i : Nat} {f : StepFields} {q : Party}

/-! ## Bursts (R127) -/

theorem exec_burstFed {b : Ms} {bs : List Ms} (notice : s.burstsOf l = b :: bs) :
    exec (.burstFed l) s = .next ((s.setBursts l bs).fedBurst l) := by
  change execBurstFed l s = _
  simp only [execBurstFed, notice]

theorem fedBurst_on (entry : s.entry l = some e) (step : e.step = some st) (on : st.kind = .on) :
    s.fedBurst l = s.setEntry l (some { e with fed := true }) := by
  simp [fedBurst, entry, step, on]

/-- A burst outside an ON step is discarded. -/
theorem fedBurst_discarded (h : ∀ e st, s.entry l = some e → e.step = some st → st.kind = .off) : s.fedBurst l = s := by
  unfold fedBurst
  split
  · rename_i e entry
    refine if_neg fun on => ?_
    obtain ⟨st, step, on⟩ : ∃ st, e.step = some st ∧ st.kind = .on := by simpa using on
    rw [h e st entry step] at on
    cases on
  · rfl

/-! ## The slot boundary (R102, R125) -/

theorem slot_succ (c : Fin 30) : (c + 1).val = (c.val + 1) % 30 := by
  rw [Fin.val_add]
  rfl

theorem exec_slotBoundary (s : State) : exec .slotBoundary s = .next s.advanceSlot.countSlots := rfl

/-! ## Entering a step (R126) -/

theorem exec_stepEnd (entry : s.entry l = some e) (ended : e.slotsLeft = 0) : exec (.stepEnd l) s = .next (s.stepEnded l e).finish := by
  change execStepEnd l s = _
  simp only [execStepEnd, entry, ended, if_true]

/-- The entry in a step that it has read. -/
def inStep (e : RingEntry) (i : Nat) (f : StepFields) : RingEntry := { e with step := some ⟨i, f.kind, f.marker⟩, slotsLeft := f.length }

theorem enterStep_on (read : s.readStep e.program i = some f) (party : s.party l e.party = some q) (on : f.kind = .on) :
    s.enterStep l e i
      = ((s.setEntry l (some { inStep e i f with fed := false })).setRelay l (.driven e.sup q.route.leg)).indicate l .stepOn := by
  simp [enterStep, read, party, on, inStep]

theorem enterStep_off (read : s.readStep e.program i = some f) (off : f.kind = .off) :
    s.enterStep l e i = ((s.setEntry l (some (inStep e i f))).setRelay l .released).indicate l .stepOff := by
  simp [enterStep, read, off, inStep]

theorem stepEnded_first (step : e.step = none) : s.stepEnded l e = s.enterStep l e 0 := by
  simp only [stepEnded, step]

theorem stepEnded_step (step : e.step = some st) : s.stepEnded l e = s.endStep l e st := by
  simp only [stepEnded, step]

theorem endStep_off (off : st.kind = .off) : s.endStep l e st = s.afterFeed l e st := by
  simp only [endStep, off]

theorem afterFeed_next (marker : st.marker = false) : s.afterFeed l e st = s.enterStep l e (st.index + 1) := by
  simp [afterFeed, marker]

theorem afterFeed_cycle (marker : st.marker = true) : s.afterFeed l e st = s.cycleEnd l e := by
  simp [afterFeed, marker]

/-- An event that owes nothing is answered with what it did. -/
theorem finish_of_same_marks (settled : Settled s) (pass : t.passDue = s.passDue) (tap : t.tapReturned = s.tapReturned) :
    t.finish = t :=
  finish_eq t (pass.trans settled.1) (tap.trans settled.2)

/-- Settles O56: the step that follows is read and entered, and an entered step owes nothing at the end of the event. -/
theorem slotsBurstsAndSteps : Obligations.SlotsBurstsAndSteps := by
  refine ⟨⟨fun s l b bs notice => ⟨fun e st entry step on => ?_, fun off => ?_⟩, fun s => ?_⟩,
    fun s l e i f q settled entry ended party follows read => ?_⟩
  · rw [exec_burstFed notice, fedBurst_on (s := s.setBursts l bs) entry step on]
  · rw [exec_burstFed notice, fedBurst_discarded (s := s.setBursts l bs) off]
  · exact ⟨_, exec_slotBoundary s, slot_succ _, rfl, rfl, rfl, fun l => entry_countSlots s.advanceSlot l, rfl⟩
  · dsimp only
    have enters : s.stepEnded l e = s.enterStep l e i := by
      rcases follows with ⟨first, rfl⟩ | ⟨j, step, rfl⟩
      · exact stepEnded_first first
      · rw [stepEnded_step step, endStep_off rfl, afterFeed_next rfl]
    rw [exec_stepEnd entry ended, enters]
    refine ⟨fun on => ?_, fun off => ?_⟩
    · rw [enterStep_on read party on]
      exact congrArg Host.Outcome.next (finish_of_same_marks settled rfl rfl)
    · rw [enterStep_off read off]
      exact congrArg Host.Outcome.next (finish_of_same_marks settled rfl rfl)

end Sys2Proof.Machine.State
end

section
/-! PROOFS. Every ending of a ring and the follow-on switch (R117, R125 to R132): the obligation O57. -/

namespace Sys2Proof.Machine.State

open Sys2Proof.Safety

variable {s t u v x : State} {l : LineNo} {e : RingEntry} {st : CurrentStep} {w : WaitingRequest}

/-! ## Changes at one line's ring -/

theorem takenOffRing_refl (l : LineNo) (s : State) : TakenOffRing l s s := takenOffRing_of_reports rfl (sameSent_refl s)

theorem takenOffRing_report (s : State) (l : LineNo) (b : ReportBody) : TakenOffRing l s (s.report l b) :=
  takenOffRing_of_reports (s.report_frame l b) (sameSent_report s l b)

theorem takenOffRing_setEntry (s : State) (l : LineNo) (e : Option RingEntry) : TakenOffRing l s (s.setEntry l e) :=
  ⟨rfl, ⟨rfl, fun _ h => h, sameSent_of_ports rfl, fun _ _ => rfl, fun _ _ => rfl,
    fun k h => entry_setEntry_other s l k e (by simpa using h), fun _ _ => rfl⟩, fun _ _ => rfl⟩

theorem takenOffRing_setProgram (s : State) (l : LineNo) (g : ProgramNo) (p : ProgramEntry) : TakenOffRing l s (s.setProgram g p) :=
  ⟨rfl, movesOnly_setProgram s g p, fun _ _ => rfl⟩

theorem takenOffRing_removeEntry (s : State) (l : LineNo) : TakenOffRing l s (s.removeEntry l) :=
  ⟨by rw [removeEntry_frame], movesOnly_removeEntry s l, fun _ other => indicationsOf_removeEntry_other s other⟩

theorem takenOffRing_unqueue (s : State) (l : LineNo) : TakenOffRing l s (s.unqueue l) :=
  ⟨by rw [unqueue_frame], movesOnly_unqueue s l, fun _ _ => by rw [unqueue_frame]; rfl⟩

/-- A change of the Allocator that moves the request of the one line. -/
theorem takenOffRing_setAlloc (s : State) (l : LineNo) (a : Allocator) (due : Bool)
    (h : ∀ k, k ≠ l → a.queue.find? (·.line == k) = s.request k) : TakenOffRing l s { s with alloc := a, passDue := due } :=
  ⟨rfl, ⟨rfl, fun _ h => h, sameSent_of_ports rfl, fun _ _ => rfl, fun k hk => h k (by simpa using hk), fun _ _ => rfl,
    fun _ _ => rfl⟩, fun _ _ => rfl⟩

theorem takenOffRing_enqueue (s : State) (w : WaitingRequest) : TakenOffRing w.line s (s.enqueue w) :=
  takenOffRing_setAlloc s w.line _ _ fun _ other =>
    find_insertRequest_other (w := { w with passOvers := 0, enqueued := s.now, deadline := s.now + 1000 * s.alloc.waitLimit }) other _

theorem takenOffRing_place (s : State) (w : WaitingRequest) (u : Supply) (o : Nat) : TakenOffRing w.line s (s.place w u o) := by
  obtain ⟨a, e, queue, eq⟩ := place_eq s w u o
  rw [eq]
  refine (takenOffRing_setAlloc s w.line a s.passDue fun k _ => ?_).trans ((takenOffRing_setEntry _ _ _).trans
    ((takenOffRing_unqueue _ _).trans (takenOffRing_setLine _ _ _)))
  rw [queue]
  rfl

theorem takenOffRing_deleteRequest (s : State) (w : WaitingRequest) : TakenOffRing w.line s (s.deleteRequest w) :=
  (takenOffRing_unqueue s w.line).trans (takenOffRing_setProgram _ _ _ _)

/-- What the passes at the end of an event leave of a line whose ring the event has changed. -/
structure RingPassed (l : LineNo) (s v t : State) : Prop where
  queues : QueuesExtend v t
  sent : SameSent v t
  only : OnlyRingChanges s t l
  settled : Settled t
  relay : t.relay l = v.relay l
  told : t.indicationsOf l = v.indicationsOf l
  kept : v.request l = none → t.line l = v.line l ∧ t.entry l = v.entry l ∧ t.request l = none

theorem TakenOffRing.passed (a : TakenOffRing l s v) (settled : Settled s) : RingPassed l s v v.finish := by
  obtain ⟨noPass, noTap⟩ := settled
  have done := settled_finish v
  have ended : v.finish = v.settlePasses := finish_eq_settlePasses (by rw [a.frame]; exact noTap)
  obtain ⟨passes, kept⟩ := settlePasses_after v
  have sent := (ended_finish v).sent
  have queues := finish_extends v
  rw [← ended] at passes kept
  generalize v.finish = t at *
  refine ⟨queues, sent, ⟨?_, fun k other none => ?_⟩, done, by rw [passes]; rfl, by rw [passes]; rfl, fun none => ?_⟩
  · rw [passes, a.frame, done.1, noPass]
  · have apart : k ∉ [l] := by simpa using other
    obtain ⟨-, line, entry⟩ := kept k ((a.moves.request k apart).trans none)
    have relay : t.relay k = v.relay k := by rw [passes]; rfl
    have told : t.indicationsOf k = v.indicationsOf k := by rw [passes]; rfl
    exact ⟨line.trans (a.moves.line k apart), entry.trans (a.moves.entry k apart), relay.trans (a.moves.relay k apart),
      told.trans (a.told k other)⟩
  · obtain ⟨request, line, entry⟩ := kept l none
    exact ⟨line, entry, request⟩

/-! ## The return state (R132) -/

theorem toReturnState_eq (s : State) (l : LineNo) : s.toReturnState l = s.setLine l (returnRecord s l) := by
  unfold toReturnState returnRecord
  split
  · rename_i cleared
    rw [enterCleared_eq, if_pos cleared]
  · rename_i idle
    rw [enterIdle_eq, if_neg (by simpa using idle)]

theorem returnRecord_holdsNothing (s : State) (l : LineNo) : (returnRecord s l).state.holdsNothing = true := by
  unfold returnRecord
  dsimp only
  split <;> rfl

/-- The return record reads the line's record, its class and the time. -/
theorem returnRecord_congr (line : t.line l = s.line l) (classes : t.classes = s.classes) (clock : t.clock = s.clock) :
    returnRecord t l = returnRecord s l := by
  simp only [returnRecord, lineClass, classOf, now, line, classes, clock]

theorem TakenOffRing.returnRecord_eq (a : TakenOffRing l s v) (line : v.line l = s.line l) : returnRecord v l = returnRecord s l :=
  returnRecord_congr line (by rw [a.frame]) (by rw [a.frame])

/-- An event that has ended the ring of a line and puts the line into its return state. -/
theorem TakenOffRing.returns (a : TakenOffRing l s v) (settled : Settled s) (line : v.line l = s.line l)
    (agreed : Agreed (v.toReturnState l)) :
    OffRing l s (v.toReturnState l) (v.toReturnState l).finish ∧ (v.toReturnState l).finish.line l = returnRecord s l := by
  have record := toReturnState_eq v l
  rw [a.returnRecord_eq line] at record
  have here : (v.toReturnState l).line l = returnRecord s l := by rw [record, line_setLine_same]
  have left : TakenOffRing l s (v.toReturnState l) := by
    rw [record]
    exact a.trans (takenOffRing_setLine v l _)
  have off := left.finish settled agreed (by rw [here]; exact returnRecord_holdsNothing s l)
  exact ⟨off, off.line.trans here⟩

/-- What the ending of a ring by an event leaves: the report `b` made, the line in its return state, and its ring gone. -/
structure RingEnded (l : LineNo) (s : State) (b : ReportBody) (t : State) : Prop where
  entry : t.entry l = none
  request : t.request l = none
  relay : t.relay l = .released
  line : t.line l = returnRecord s l
  queues : QueuesExtend (s.report l b) t
  only : OnlyRingChanges s t l

/-- A ring is ended with the report `b`: its entry removed or its request deleted, and the line in its return state. -/
theorem ringEnded_finish (b : ReportBody) (settled : Settled s) (a : TakenOffRing l s u) (line : u.line l = s.line l)
    (reports : SameReports s u) (agreed : Agreed u) (state : (u.line l).state = .ringWait ∨ (u.line l).state = .ringing) :
    RingEnded l s b (((u.report l b).endRing l).toReturnState l).finish := by
  have reported := reports.report (l := l) (by rw [line]) b
  have ended : Agreed (((u.report l b).endRing l).toReturnState l) := by
    refine (Loose.endRing (Loose.report agreed l b) (by simp) (by simpa using not_tone_of_ring state)).toReturnState (by simp) ?_
    rw [line_of_lines (endRing_lines _ _), line_report]
    exact (agreed.recordRight l).holder_isSome (state.elim .inl fun e => .inr (.inl e))
  have left := (a.trans (takenOffRing_report u l b)).trans (takenOffRing_endRing _ l)
  obtain ⟨off, record⟩ := left.returns settled (by rw [line_of_lines (endRing_lines _ _), line_report, line]) ended
  refine ⟨off.entry, off.request, off.relay, record, queuesExtend_trans ?_ off.queues, off.only⟩
  exact queuesExtend_of_eq (by rw [queues_toReturnState, queues_endRing, reported.queues])

theorem endRing_of_entry (entry : s.entry l = some e) : s.endRing l = s.endEntry l e := by
  simp only [endRing, entry]

theorem ringOf_of_entry (entry : s.entry l = some e) : s.ringOf l = some (e.party, e.program, e.cycles) := by
  simp only [ringOf, entry]

theorem ringOf_of_request (none : s.entry l = none) (waits : s.request l = some w) :
    s.ringOf l = some (w.party, w.program, w.cycles) := by
  simp only [ringOf, none, waits, Option.map_some]

theorem stopRing_of_ringOf {party : Nat} {g : ProgramNo} {n : Nat} (ring : s.ringOf l = some (party, g, n)) (c : StopCause) :
    s.stopRing l c = (s.report l (.ringStopped c party g n)).endRing l := by
  simp only [stopRing, ring]

theorem failRing_of_ringOf {party : Nat} {g : ProgramNo} {n : Nat} (ring : s.ringOf l = some (party, g, n)) (c : RingFailure) :
    s.failRing l c = (s.report l (.ringFailed c party g n)).endRing l := by
  simp only [failRing, ring]

/-- A line with a waiting request has no entry (R112). -/
theorem Loose.entry_of_request (h : Agreed s) (waits : s.request l = some w) : s.entry l = none := by
  have rung := (h.at_ l).rung
  simpa [view, h.ringWait_of_request waits] using rung

/-! ## The wait limit (R117) -/

theorem exec_waitLimitExpiry (waits : s.request l = some w) (passed : w.deadline ≤ s.now) :
    exec (.waitLimitExpiry l) s = .next (s.waitLimitPassed l).finish := by
  change execWaitLimitExpiry l s = _
  simp only [execWaitLimitExpiry, waits, passed, if_true]

theorem waitLimitPassed_ends (settled : Settled s) (agreed : Agreed s) (waits : s.request l = some w) :
    RingEnded l s (.ringFailed .waitLimit w.party w.program w.cycles) (s.waitLimitPassed l).finish := by
  rw [waitLimitPassed, failRing_of_ringOf (ringOf_of_request (agreed.entry_of_request waits) waits)]
  exact ringEnded_finish _ settled (takenOffRing_refl l s) rfl ⟨rfl, rfl, rfl, rfl⟩ agreed (.inl (agreed.ringWait_of_request waits))

/-! ## The feed check (R127) -/

theorem setEntry_entry (entry : s.entry l = some e) : s.setEntry l (some e) = s := by
  have same : s.entries.set l (some e) = s.entries := by
    rw [← entry]
    exact Vector.set_getElem_self _
  rw [setEntry, same]

/-- The entry after the feed check of a step that it survives: a fed burst clears the missed count, a first unfed one makes it 1. -/
def feedChecked (e : RingEntry) (st : CurrentStep) : RingEntry :=
  { e with missed := if st.kind = .off then e.missed else if e.fed then 0 else 1 }

theorem endStep_survives (entry : s.entry l = some e) (survives : st.kind = .off ∨ e.fed = true ∨ e.missed = 0) :
    s.endStep l e st = (s.setEntry l (some (feedChecked e st))).afterFeed l (feedChecked e st) st := by
  cases kind : st.kind with
  | off =>
    have same : feedChecked e st = e := by simp [feedChecked, kind]
    rw [endStep_off kind, same, setEntry_entry entry]
  | on =>
    have same : feedChecked e st = { e with missed := if e.fed then 0 else e.missed + 1 } := by
      rcases survives with off | fed | zero
      · rw [kind] at off
        cases off
      · simp [feedChecked, kind, fed]
      · simp [feedChecked, kind, zero]
    have few : ¬2 ≤ (if e.fed then 0 else e.missed + 1) := by
      rcases survives with off | fed | zero
      · rw [kind] at off
        cases off
      · simp [fed]
      · cases e.fed <;> simp [zero]
    simp only [endStep, kind, same, ge_iff_le, if_neg few]

/-- A second unfed burst in a row ends the ring with a feed fault. -/
theorem endStep_feedFault (on : st.kind = .on) (unfed : e.fed = false) (missed : 1 ≤ e.missed) :
    s.endStep l e st
      = (((s.setEntry l (some { e with missed := e.missed + 1 })).report l
          (.ringFailed (.feedFault e.sup) e.party e.program e.cycles)).endRing l).toReturnState l := by
  have many : 2 ≤ e.missed + 1 := by omega
  have ring := ringOf_of_entry (entry_setEntry_same s l (some { e with missed := e.missed + 1 }))
  have counts : (if e.fed then 0 else e.missed + 1) = e.missed + 1 := by simp [unfed]
  simp only [endStep, on, counts]
  rw [if_pos many, failRing_of_ringOf ring]

/-! ## The end of a cycle (R128) -/

/-- The entry at the end of a cycle. -/
def cycled (e : RingEntry) : RingEntry := { e with cycles := e.cycles - 1, cyclesInProgram := e.cyclesInProgram + 1 }

/-- The follow-on of an entry's program is due at the end of this cycle (R129). -/
def SwitchDue (s : State) (e : RingEntry) (f : ProgramNo) : Prop :=
  (s.program e.program).followOn = some f ∧ (s.program e.program).switchAfter = some (e.cyclesInProgram + 1)

/-- The end of a cycle in the order of its checks. -/
theorem cycleEnd_eq (s : State) (l : LineNo) (e : RingEntry) :
    s.cycleEnd l e
      = if (cycled e).cycles = 0 then
          (((s.setEntry l (some (cycled e))).report l (.noAnswer e.party e.sup e.program)).endEntry l (cycled e)).toReturnState l
        else if e.finishing = true then ((s.setEntry l (some (cycled e))).stopRing l .finish).toReturnState l
        else match (s.program e.program).followOn with
          | some f =>
            if ((s.program e.program).switchAfter == some (e.cyclesInProgram + 1)) = true then
              (s.setEntry l (some (cycled e))).followOnSwitch l (cycled e) f
            else (s.setEntry l (some (cycled e))).enterStep l (cycled e) 0
          | none => (s.setEntry l (some (cycled e))).enterStep l (cycled e) 0 := rfl

theorem cycled_cycles_ne_zero (two : 2 ≤ e.cycles) : (cycled e).cycles ≠ 0 := by
  simp only [cycled]
  omega

theorem cycleEnd_noAnswer (one : e.cycles = 1) :
    s.cycleEnd l e
      = (((s.setEntry l (some (cycled e))).report l (.noAnswer e.party e.sup e.program)).endRing l).toReturnState l := by
  have zero : (cycled e).cycles = 0 := by simp [cycled, one]
  rw [cycleEnd_eq, if_pos zero, endRing_of_entry (e := cycled e) (by simp)]

theorem cycleEnd_finishing (two : 2 ≤ e.cycles) (finishing : e.finishing = true) :
    s.cycleEnd l e
      = (((s.setEntry l (some (cycled e))).report l (.ringStopped .finish e.party e.program (e.cycles - 1))).endRing l).toReturnState
          l := by
  rw [cycleEnd_eq, if_neg (cycled_cycles_ne_zero two), if_pos finishing,
    stopRing_of_ringOf (ringOf_of_entry (entry_setEntry_same s l (some (cycled e))))]
  rfl

theorem cycleEnd_switch {f : ProgramNo} (two : 2 ≤ e.cycles) (goes : e.finishing = false) (due : s.SwitchDue e f) :
    s.cycleEnd l e = (s.setEntry l (some (cycled e))).followOnSwitch l (cycled e) f := by
  obtain ⟨followOn, after⟩ := due
  rw [cycleEnd_eq, if_neg (cycled_cycles_ne_zero two), if_neg (by simp [goes])]
  simp only [followOn, after, beq_self_eq_true, if_true]

theorem cycleEnd_again (two : 2 ≤ e.cycles) (goes : e.finishing = false) (stays : ∀ f, ¬s.SwitchDue e f) :
    s.cycleEnd l e = (s.setEntry l (some (cycled e))).enterStep l (cycled e) 0 := by
  rw [cycleEnd_eq, if_neg (cycled_cycles_ne_zero two), if_neg (by simp [goes])]
  split
  · rename_i f followOn
    exact if_neg fun after => stays f ⟨followOn, by simpa using after⟩
  · rfl

/-- A follow-on that is not READY ends the ring with a cadence fault (R129). -/
theorem followOnSwitch_dead {f : ProgramNo} (entry : s.entry l = some e) (dead : (s.program f).state ≠ .ready) :
    s.followOnSwitch l e f
      = ((s.report l (.ringFailed .cadenceFault e.party f e.cycles)).endRing l).toReturnState l := by
  have unready : s.ready f = false := by simpa [ready] using dead
  rw [endRing_of_entry (e := e) (by simpa using entry)]
  simp only [followOnSwitch, unready, Bool.false_eq_true, if_false]

/-! ## The endings of a ring at the end of a step (R127 to R129) -/

/-- An entry that takes new values and then ends with the report `b`. -/
theorem setEntry_ends (b : ReportBody) (n : RingEntry) (settled : Settled s) (agreed : Agreed s) (entry : s.entry l = some e) :
    RingEnded l s b ((((s.setEntry l (some n)).report l b).endRing l).toReturnState l).finish := by
  have rings := agreed.ringing_of_entry entry
  exact ringEnded_finish b settled (takenOffRing_setEntry s l _) rfl ⟨rfl, rfl, rfl, rfl⟩ (agreed.setEntry rings n) (.inr rings)

theorem stepEnded_feedFault (settled : Settled s) (agreed : Agreed s) (entry : s.entry l = some e) (step : e.step = some st)
    (on : st.kind = .on) (unfed : e.fed = false) (missed : 1 ≤ e.missed) :
    RingEnded l s (.ringFailed (.feedFault e.sup) e.party e.program e.cycles) (s.stepEnded l e).finish := by
  rw [stepEnded_step step, endStep_feedFault on unfed missed]
  exact setEntry_ends _ _ settled agreed entry

/-- The end of the last step of a cycle that the entry survives. -/
theorem stepEnded_cycle (entry : s.entry l = some e) (step : e.step = some st) (marker : st.marker = true)
    (survives : st.kind = .off ∨ e.fed = true ∨ e.missed = 0) :
    s.stepEnded l e = (s.setEntry l (some (feedChecked e st))).cycleEnd l (feedChecked e st) := by
  rw [stepEnded_step step, endStep_survives entry survives, afterFeed_cycle marker]

theorem stepEnded_noAnswer (settled : Settled s) (agreed : Agreed s) (entry : s.entry l = some e) (step : e.step = some st)
    (marker : st.marker = true) (survives : st.kind = .off ∨ e.fed = true ∨ e.missed = 0) (one : e.cycles = 1) :
    RingEnded l s (.noAnswer e.party e.sup e.program) (s.stepEnded l e).finish := by
  rw [stepEnded_cycle entry step marker survives, cycleEnd_noAnswer (by exact one), setEntry_setEntry]
  exact setEntry_ends _ _ settled agreed entry

theorem stepEnded_finishing (settled : Settled s) (agreed : Agreed s) (entry : s.entry l = some e) (step : e.step = some st)
    (marker : st.marker = true) (survives : st.kind = .off ∨ e.fed = true ∨ e.missed = 0) (two : 2 ≤ e.cycles)
    (finishing : e.finishing = true) :
    RingEnded l s (.ringStopped .finish e.party e.program (e.cycles - 1)) (s.stepEnded l e).finish := by
  rw [stepEnded_cycle entry step marker survives, cycleEnd_finishing (by exact two) (by exact finishing), setEntry_setEntry]
  exact setEntry_ends _ _ settled agreed entry

/-- The end of a cycle at which the follow-on is due. -/
theorem stepEnded_switch {f : ProgramNo} (entry : s.entry l = some e) (step : e.step = some st)
    (marker : st.marker = true) (survives : st.kind = .off ∨ e.fed = true ∨ e.missed = 0) (two : 2 ≤ e.cycles)
    (goes : e.finishing = false) (due : s.SwitchDue e f) :
    s.stepEnded l e
      = (s.setEntry l (some (cycled (feedChecked e st)))).followOnSwitch l (cycled (feedChecked e st)) f := by
  rw [stepEnded_cycle entry step marker survives, cycleEnd_switch (f := f) (by exact two) (by exact goes) (by exact due),
    setEntry_setEntry]

theorem stepEnded_dead {f : ProgramNo} (settled : Settled s) (agreed : Agreed s) (entry : s.entry l = some e) (step : e.step = some st)
    (marker : st.marker = true) (survives : st.kind = .off ∨ e.fed = true ∨ e.missed = 0) (two : 2 ≤ e.cycles)
    (goes : e.finishing = false) (due : s.SwitchDue e f) (dead : (s.program f).state ≠ .ready) :
    RingEnded l s (.ringFailed .cadenceFault e.party f (e.cycles - 1)) (s.stepEnded l e).finish := by
  rw [stepEnded_switch entry step marker survives two goes due, followOnSwitch_dead (entry_setEntry_same _ _ _) (by simpa using dead)]
  exact setEntry_ends _ _ settled agreed entry

/-- The end of a step after which the entry goes on: with the next step, or at a cycle end with the first. -/
theorem stepEnded_goesOn {i : Nat} {counted : RingEntry} (entry : s.entry l = some e) (step : e.step = some st)
    (survives : st.kind = .off ∨ e.fed = true ∨ e.missed = 0)
    (follows : (st.marker = false ∧ i = st.index + 1 ∧ counted = e)
      ∨ (st.marker = true ∧ 2 ≤ e.cycles ∧ e.finishing = false ∧ (∀ f, ¬s.SwitchDue e f) ∧ i = 0 ∧ counted = cycled e)) :
    s.stepEnded l e
      = (s.setEntry l (some (feedChecked counted st))).enterStep l (feedChecked counted st) i := by
  rcases follows with ⟨plain, rfl, rfl⟩ | ⟨marker, two, goes, stays, rfl, rfl⟩
  · rw [stepEnded_step step, endStep_survives entry survives, afterFeed_next plain]
  · rw [stepEnded_cycle entry step marker survives, cycleEnd_again (by exact two) (by exact goes) (by exact stays), setEntry_setEntry]
    rfl

end Sys2Proof.Machine.State
end

section
/-! PROOFS. What a placement writes (R106, R107), and the follow-on switch (R129, R130): the obligation O57. -/

namespace Sys2Proof.Machine.State

open Sys2Proof.Safety

variable {s t u v x : State} {l : LineNo} {e : RingEntry} {st : CurrentStep} {w : WaitingRequest} {sup : Supply} {o : Nat}

/-! ## Use counts and shapes (R90, R95) -/

@[simp] theorem shape_takeUse (s : State) (g h : ProgramNo) : (s.takeUse g).shape h = s.shape h := by
  by_cases e : h = g
  · subst e
    simp [shape, takeUse]
  · simp [shape, takeUse, e]

@[simp] theorem shape_dropUse (s : State) (g h : ProgramNo) : (s.dropUse g).shape h = s.shape h := by
  by_cases e : h = g
  · subst e
    simp [shape, dropUse]
  · simp [shape, dropUse, e]

theorem uses_takeUse (s : State) (g h : ProgramNo) :
    ((s.takeUse g).program h).uses = (s.program h).uses + if h = g then 1 else 0 := by
  by_cases e : h = g
  · subst e
    simp [takeUse]
  · simp [takeUse, e]

theorem uses_dropUse (s : State) (g h : ProgramNo) :
    ((s.dropUse g).program h).uses = (s.program h).uses - if h = g then 1 else 0 := by
  by_cases e : h = g
  · subst e
    simp [dropUse]
  · simp [dropUse, e]

theorem shape_of_programs (h : t.programs = s.programs) (g : ProgramNo) : t.shape g = s.shape g := by
  simp only [shape, program, h]

/-! ## What a placement writes (R106, R107) -/

/-- The entry of a request that is placed. -/
def placedEntry (s : State) (w : WaitingRequest) (sup : Supply) (o : Nat) : RingEntry :=
  { party := w.party, sup := sup, offset := o, program := w.program, step := none,
    slotsLeft := (s.shape w.program).waitFrom o s.clock.slot, cycles := w.cycles, cyclesInProgram := 0, requester := w.requester,
    priority := w.priority, age := w.age, stamp := s.alloc.lastStamp + 1, fed := false, missed := 0, finishing := false }

/-- The supply on which a request is placed: its map raised and its pointer moved. -/
def placedSupply (s : State) (w : WaitingRequest) (sup : Supply) (o : Nat) : SupplyRecord :=
  { (s.supply sup).raise (s.shape w.program) o (s.partyLoad w.line w.party) with pointer := Fin.ofNat 30 (o + 1) }

/-- The part with the load of a request placed and a new stamp given, before the entry is made. -/
def loadPlaced (s : State) (w : WaitingRequest) (sup : Supply) (o : Nat) : State :=
  let v := s.setSupply sup (s.placedSupply w sup o)
  { v with alloc := { v.alloc with lastStamp := s.alloc.lastStamp + 1 } }

theorem place_steps (s : State) (w : WaitingRequest) (sup : Supply) (o : Nat) :
    s.place w sup o
      = (((s.loadPlaced w sup o).setEntry w.line (some (s.placedEntry w sup o))).unqueue w.line).enter w.line .ringing := by
  simp only [place, loadPlaced, placedSupply, placedEntry]

theorem loadPlaced_frame (s : State) (w : WaitingRequest) (sup : Supply) (o : Nat) :
    s.loadPlaced w sup o
      = { s with alloc := { (s.loadPlaced w sup o).alloc with queue := s.alloc.queue, lastStamp := s.alloc.lastStamp + 1 } } := by
  unfold loadPlaced
  generalize s.placedSupply w sup o = r
  cases sup <;> rfl

theorem supply_loadPlaced (s : State) (w : WaitingRequest) (sup : Supply) (o : Nat) (v : Supply) :
    (s.loadPlaced w sup o).supply v = if v = sup then s.placedSupply w sup o else s.supply v := by
  unfold loadPlaced
  generalize s.placedSupply w sup o = r
  cases sup <;> cases v <;> rfl

section
variable (s w sup o)

theorem entry_place_same : (s.place w sup o).entry w.line = some (s.placedEntry w sup o) := by
  rw [place_steps, unqueue_frame]
  exact entry_setEntry_same _ _ _

theorem line_place_same : (s.place w sup o).line w.line = (s.line w.line).enter .ringing := by
  rw [place_steps, enter_eq, line_setLine_same, line_of_lines (unqueue_lines _ _), loadPlaced_frame]
  rfl

theorem request_place_same : (s.place w sup o).request w.line = none := by
  rw [place_steps]
  exact request_unqueue_same _ _

theorem place_frame :
    s.place w sup o
      = { s with lines := (s.place w sup o).lines, alloc := (s.place w sup o).alloc, entries := (s.place w sup o).entries,
                 passDue := (s.place w sup o).passDue } := by
  rw [place_steps, unqueue_frame, loadPlaced_frame]
  rfl

end

/-! ## An entry is removed (R131) -/

theorem removeEntry_eq (entry : s.entry l = some e) :
    s.removeEntry l
      = ((((s.setRelay l .released).indicate l .ringEnd).setSupply e.sup
          ((s.supply e.sup).lower (s.shape e.program) e.offset (s.partyLoad l e.party))).setEntry l none).callPass := by
  have supply : ((s.setRelay l .released).indicate l .ringEnd).supply e.sup = s.supply e.sup := by simp [indicate_eq]
  simp only [removeEntry, entry, supply]
  rfl

theorem indicationsOf_removeEntry_same (entry : s.entry l = some e) :
    (s.removeEntry l).indicationsOf l = s.indicationsOf l ++ [.ringEnd] := by
  rw [removeEntry_eq entry]
  simp [indicate_eq]

/-- The supply of an entry with its load taken off. -/
def loadFreed (s : State) (l : LineNo) (e : RingEntry) : State :=
  s.setSupply e.sup ((s.supply e.sup).lower (s.shape e.program) e.offset (s.partyLoad l e.party))

/-- A removed entry frees its load; besides only its own relay, its place in the table and its indication change. -/
theorem removeEntry_loadFreed (entry : s.entry l = some e) :
    s.removeEntry l
      = { s.loadFreed l e with entries := (s.removeEntry l).entries, relays := (s.removeEntry l).relays,
                               indications := (s.removeEntry l).indications, passDue := true } := by
  rw [removeEntry_eq entry]
  unfold loadFreed
  generalize (s.supply e.sup).lower _ _ _ = r
  cases e.sup <;> rfl

/-! ## The follow-on switch (R129, R130) -/

/-- The part after the old entry of a switched ring is gone: the uses moved and the entry removed (R129, steps 2 and 3). -/
def switchedOff (s : State) (l : LineNo) (e : RingEntry) (f : ProgramNo) : State :=
  ((s.takeUse f).dropUse e.program).removeEntry l

theorem followOnSwitch_eq {f : ProgramNo} (ready : (s.program f).state = .ready) :
    s.followOnSwitch l e f = (s.switchedOff l e f).replaceRing l (e.toRequest l f) := by
  have r : s.ready f = true := by simpa [State.ready] using ready
  simp only [followOnSwitch, r, if_true]
  rfl

section
variable (n : RingEntry) (f : ProgramNo)

/-- `n` is the entry of the line with other counts. -/
structure SameRing (e n : RingEntry) : Prop where
  party : n.party = e.party
  sup : n.sup = e.sup
  offset : n.offset = e.offset
  program : n.program = e.program

variable {n}

/-- The switched-off part, field by field: `n` is the entry as the step end leaves it. -/
theorem switchedOff_frame (same : SameRing e n) :
    (s.setEntry l (some n)).switchedOff l n f
      = { s.loadFreed l e with
          programs := ((s.takeUse f).dropUse e.program).programs
          entries := ((s.setEntry l (some n)).switchedOff l n f).entries
          relays := ((s.setEntry l (some n)).switchedOff l n f).relays
          indications := ((s.setEntry l (some n)).switchedOff l n f).indications
          passDue := true } := by
  obtain ⟨party, sup, offset, program⟩ := same
  have entry : (((s.setEntry l (some n)).takeUse f).dropUse n.program).entry l = some n := entry_setEntry_same s l (some n)
  rw [switchedOff, removeEntry_loadFreed entry]
  unfold loadFreed
  rw [party, sup, offset, program, shape_dropUse, shape_takeUse]
  cases e.sup <;> rfl

theorem takenOffRing_switchedOff :
    TakenOffRing l s ((s.setEntry l (some n)).switchedOff l n f) :=
  (takenOffRing_setEntry s l _).trans ((takenOffRing_setProgram _ l _ _).trans ((takenOffRing_setProgram _ l _ _).trans
    (takenOffRing_removeEntry _ l)))

theorem samePlacing_switchedOff (same : SameRing e n) :
    SamePlacing (s.loadFreed l e) ((s.setEntry l (some n)).switchedOff l n f) := by
  have frame := switchedOff_frame (s := s) (l := l) f same
  generalize (s.setEntry l (some n)).switchedOff l n f = x at frame
  have lines : x.lines = (s.loadFreed l e).lines := by rw [frame]
  have alloc : x.alloc = (s.loadFreed l e).alloc := by rw [frame]
  have scans : x.scans = (s.loadFreed l e).scans := by rw [frame]
  have programs : x.programs = ((s.takeUse f).dropUse e.program).programs := by rw [frame]
  have before : (s.loadFreed l e).programs = s.programs := setSupply_programs _ _ _
  refine ⟨fun k => by rw [line_of_lines lines], fun u => ?_, fun g => ?_, fun k => ?_⟩
  · cases u <;> simp only [supply, alloc]
  · rw [shape_of_programs programs, shape_dropUse, shape_takeUse, shape_of_programs before]
  · simp only [scan, scans]

/-- What the switching off leaves as it was. -/
structure SwitchedOff (l : LineNo) (s : State) (e : RingEntry) (f : ProgramNo) (x : State) : Prop where
  off : TakenOffRing l s x
  placing : SamePlacing (s.loadFreed l e) x
  lines : x.lines = s.lines
  stamp : x.alloc.lastStamp = s.alloc.lastStamp
  waitLimit : x.alloc.waitLimit = s.alloc.waitLimit
  waiting : x.alloc.queue = s.alloc.queue
  programs : x.programs = ((s.takeUse f).dropUse e.program).programs
  reports : SameReports s x
  entry : x.entry l = none
  relay : x.relay l = .released
  told : x.indicationsOf l = s.indicationsOf l ++ [.ringEnd]
  loose : Loose x [l]

theorem switchedOff_of_entry (same : SameRing e n) (agreed : Agreed s) (entry : s.entry l = some e) :
    SwitchedOff l s e f ((s.setEntry l (some n)).switchedOff l n f) := by
  have rings := agreed.ringing_of_entry entry
  have here : (((s.setEntry l (some n)).takeUse f).dropUse n.program).entry l = some n := entry_setEntry_same s l (some n)
  have counted : Agreed (((s.setEntry l (some n)).takeUse f).dropUse n.program) := (agreed.setEntry rings n).of_eq
  have off := takenOffRing_switchedOff (s := s) (l := l) (n := n) f
  have placing := samePlacing_switchedOff (s := s) (l := l) f same
  have frame := switchedOff_frame (s := s) (l := l) f same
  have none := entry_removeEntry_same (((s.setEntry l (some n)).takeUse f).dropUse n.program) l
  have relay := relay_removeEntry_same (l := l) (((s.setEntry l (some n)).takeUse f).dropUse n.program) (by simp [here])
  have told := indicationsOf_removeEntry_same here
  have loose : Loose ((s.setEntry l (some n)).switchedOff l n f) [l] := counted.removeEntry (by simp) rings
  change ((s.setEntry l (some n)).switchedOff l n f).entry l = _ at none
  change ((s.setEntry l (some n)).switchedOff l n f).relay l = _ at relay
  change ((s.setEntry l (some n)).switchedOff l n f).indicationsOf l = _ at told
  generalize (s.setEntry l (some n)).switchedOff l n f = x at *
  have load : s.loadFreed l e = { s with alloc := (s.loadFreed l e).alloc } ∧ (s.loadFreed l e).alloc.queue = s.alloc.queue
      ∧ (s.loadFreed l e).alloc.lastStamp = s.alloc.lastStamp ∧ (s.loadFreed l e).alloc.waitLimit = s.alloc.waitLimit := by
    unfold loadFreed
    generalize (s.supply e.sup).lower _ _ _ = r
    cases e.sup <;> exact ⟨rfl, rfl, rfl, rfl⟩
  obtain ⟨freed, queue, stamp, waitLimit⟩ := load
  have alloc : x.alloc = (s.loadFreed l e).alloc := by rw [frame]
  refine ⟨off, placing, by rw [frame, freed], by rw [alloc, stamp], by rw [alloc, waitLimit], by rw [alloc, queue], by rw [frame],
    ⟨by rw [frame, freed], by rw [frame, freed], by rw [frame, freed], by rw [frame, freed]⟩, none, relay, told, loose⟩

end

end Sys2Proof.Machine.State
end

section
/-! PROOFS. The re-placement of a switched ring (R129, R130), and the obligation O57. -/

namespace Sys2Proof.Machine.State

open Sys2Proof.Safety

variable {s t u v x : State} {l : LineNo} {e n : RingEntry} {st : CurrentStep} {w : WaitingRequest} {sup : Supply} {o : Nat}
  {f : ProgramNo}

/-! ## Attempts through updates that they do not read -/

theorem samePlacing_setLine (h : r.parties = (s.line l).parties) : SamePlacing s (s.setLine l r) := by
  refine ⟨fun k => ?_, fun u => by simp, fun _ => rfl, fun _ => rfl⟩
  by_cases e : k = l
  · subst e
    rw [line_setLine_same, h]
  · rw [line_setLine_other _ _ _ _ e]

theorem samePlacing_setAlloc (s : State) (a : Allocator) (due : Bool) (one : a.one = s.alloc.one) (two : a.two = s.alloc.two) :
    SamePlacing s { s with alloc := a, passDue := due } :=
  ⟨fun _ => rfl, fun u => by cases u <;> simp [supply, one, two], fun _ => rfl, fun _ => rfl⟩

theorem samePlacing_enqueue (s : State) (w : WaitingRequest) : SamePlacing s (s.enqueue w) :=
  samePlacing_setAlloc s _ _ rfl rfl

theorem samePlacing_of_reports (h : t = { s with queues := t.queues, ports := t.ports }) : SamePlacing s t := by
  rw [h]
  exact ⟨fun _ => rfl, fun u => by cases u <;> rfl, fun _ => rfl, fun _ => rfl⟩

/-- A request that joins the queue, as it stands there (R112, R117). -/
def queued (s : State) (w : WaitingRequest) : WaitingRequest :=
  { w with passOvers := 0, enqueued := s.now, deadline := s.now + 1000 * s.alloc.waitLimit }

theorem enqueue_queue (s : State) (w : WaitingRequest) : (s.enqueue w).alloc.queue = insertRequest (s.queued w) s.alloc.queue := rfl

/-- An event after which every request in the queue fails its attempt ends as it stands. -/
theorem finish_failed (tap : s.tapReturned = false) (h : ∀ w ∈ s.alloc.queue, s.attempt w = .failed) :
    s.finish = { s with passDue := false } :=
  (finish_eq_settlePasses tap).trans (settlePasses_failed h)

theorem TakenOffRing.tap (a : TakenOffRing l s v) (settled : Settled s) : v.tapReturned = false := by
  rw [a.frame]
  exact settled.2

/-! ## Uses (R95, R129) -/

/-- The use counts with one use moved from `g` to `f`. -/
def UsesMoved (s t : State) (g f : ProgramNo) : Prop :=
  ∀ h, (t.program h).uses = (s.program h).uses + (if h = f then 1 else 0) - if h = g then 1 else 0

theorem usesMoved_of_programs {g : ProgramNo} (h : t.programs = ((s.takeUse f).dropUse g).programs) : UsesMoved s t g f := by
  intro k
  have same : t.program k = ((s.takeUse f).dropUse g).program k := by simp only [program, h]
  rw [same, uses_dropUse, uses_takeUse]

/-! ## The re-placement (R129 step 4, R130) -/

/-- The switched ring finds a place on its follow-on. -/
structure Replaced (l : LineNo) (s : State) (e n : RingEntry) (f : ProgramNo) (sup : Supply) (o : Nat) (t : State) : Prop where
  entry : t.entry l = some
    { party := n.party, sup := sup, offset := o, program := f, step := none, slotsLeft := (s.shape f).waitFrom o s.clock.slot,
      cycles := n.cycles, cyclesInProgram := 0, requester := n.requester, priority := n.priority, age := n.age,
      stamp := s.alloc.lastStamp + 1, fed := false, missed := 0, finishing := false }
  line : t.line l = (s.line l).enter .ringing
  relay : t.relay l = .released
  told : t.indicationsOf l = s.indicationsOf l ++ [.ringEnd]
  uses : s.alloc.queue = [] → UsesMoved s t e.program f
  queues : QueuesExtend s t
  only : OnlyRingChanges s t l

theorem SwitchedOff.replaced (a : SwitchedOff l s e f x) (settled : Settled s)
    (placed : (s.loadFreed l e).attempt (n.toRequest l f) = .placed sup o) :
    Replaced l s e n f sup o (x.replaceRing l (n.toRequest l f)).finish := by
  have found : x.attempt (n.toRequest l f) = .placed sup o := (a.placing.attempt _).trans placed
  have acts : x.replaceRing l (n.toRequest l f) = x.place (n.toRequest l f) sup o := by simp only [replaceRing, found]
  have passed := (a.off.trans (takenOffRing_place x (n.toRequest l f) sup o)).passed settled
  have tap := (a.off.trans (takenOffRing_place x (n.toRequest l f) sup o)).tap settled
  obtain ⟨line, entry, -⟩ := passed.kept (request_place_same x (n.toRequest l f) sup o)
  have frame := place_frame x (n.toRequest l f) sup o
  have shape : x.shape f = s.shape f := by rw [shape_of_programs a.programs, shape_dropUse, shape_takeUse]
  have clock : x.clock = s.clock := a.reports.clock
  rw [acts]
  refine ⟨entry.trans ((entry_place_same x _ sup o).trans ?_), line.trans ((line_place_same x _ sup o).trans ?_),
    passed.relay.trans ?_, passed.told.trans ?_, fun nobody => usesMoved_of_programs ?_,
    queuesExtend_trans (queuesExtend_of_eq ?_) passed.queues, passed.only⟩
  · simp only [placedEntry, RingEntry.toRequest, shape, clock, a.stamp]
  · exact congrArg (fun r : LineRecord => r.enter .ringing) (line_of_lines a.lines l)
  · rw [frame]
    exact a.relay
  · rw [frame]
    exact a.told
  · rw [finish_failed tap fun y hy => ?_]
    · rw [frame]
      exact a.programs
    · rw [queue_place, a.waiting, nobody] at hy
      cases hy
  · rw [queues_place, a.reports.queues]

/-- The switched ring finds no place and waits. -/
structure Deferred (l : LineNo) (s : State) (e n : RingEntry) (f : ProgramNo) (t : State) : Prop where
  entry : t.entry l = none
  waiting : t.alloc.queue = [s.queued (n.toRequest l f)]
  line : t.line l = (s.line l).enter .ringWait
  relay : t.relay l = .released
  told : t.indicationsOf l = s.indicationsOf l ++ [.ringEnd]
  uses : UsesMoved s t e.program f
  queues : QueuesExtend (s.report l (.ringDeferred .followOn n.party f n.cycles)) t
  only : OnlyRingChanges s t l

theorem SwitchedOff.deferred (a : SwitchedOff l s e f x) (settled : Settled s)
    (failed : (s.loadFreed l e).attempt (n.toRequest l f) = .failed) (nobody : s.alloc.queue = []) :
    Deferred l s e n f (x.replaceRing l (n.toRequest l f)).finish := by
  have none : x.attempt (n.toRequest l f) = .failed := (a.placing.attempt _).trans failed
  have acts : x.replaceRing l (n.toRequest l f)
      = ((x.enqueue (n.toRequest l f)).setLine l ((s.line l).enter .ringWait)).report l
          (.ringDeferred .followOn n.party f n.cycles) := by
    simp only [replaceRing, none, enter_eq]
    rw [line_of_lines (t := x.enqueue (n.toRequest l f)) (s := s) a.lines]
    rfl
  have waits : (x.enqueue (n.toRequest l f)).alloc.queue = [s.queued (n.toRequest l f)] := by
    rw [enqueue_queue, a.waiting, nobody, queued, a.reports.now_eq, a.waitLimit]
    rfl
  have reports : SameReports s ((x.enqueue (n.toRequest l f)).setLine l ((s.line l).enter .ringWait)) :=
    a.reports.trans ⟨rfl, rfl, rfl, rfl⟩
  have told := reports.report (l := l) (by rw [line_setLine_same]; rfl) (.ringDeferred .followOn n.party f n.cycles)
  have off := ((a.off.trans (takenOffRing_enqueue x (n.toRequest l f))).trans
    (takenOffRing_setLine _ l ((s.line l).enter .ringWait))).trans
    (takenOffRing_report _ l (.ringDeferred .followOn n.party f n.cycles))
  have placing : SamePlacing x (((x.enqueue (n.toRequest l f)).setLine l ((s.line l).enter .ringWait)).report l
      (.ringDeferred .followOn n.party f n.cycles)) := by
    refine ((samePlacing_enqueue x _).trans (samePlacing_setLine ?_)).trans (samePlacing_of_reports (report_frame _ _ _))
    rw [line_of_lines (t := x.enqueue (n.toRequest l f)) (s := s) a.lines]
    rfl
  have passed := off.passed settled
  have still := finish_failed (off.tap settled) fun y hy => by
    rw [report_alloc, setLine_alloc, waits, List.mem_singleton] at hy
    rw [hy]
    exact (placing.attempt _).trans ((attempt_request_congr rfl rfl rfl).trans none)
  have frame := report_frame ((x.enqueue (n.toRequest l f)).setLine l ((s.line l).enter .ringWait)) l
    (.ringDeferred .followOn n.party f n.cycles)
  rw [acts]
  refine ⟨?_, ?_, ?_, passed.relay.trans ?_, passed.told.trans ?_, usesMoved_of_programs ?_,
    queuesExtend_trans (queuesExtend_of_eq told.queues) passed.queues, passed.only⟩
  · rw [still, frame]
    exact a.entry
  · rw [still]
    exact (congrArg Allocator.queue (report_alloc _ _ _)).trans waits
  · rw [still]
    exact (line_report _ _ _ _).trans (line_setLine_same _ _ _)
  · rw [frame]
    exact a.relay
  · rw [frame]
    exact a.told
  · rw [still, frame]
    exact a.programs

/-- The switched ring ends on a grounded line. -/
theorem SwitchedOff.grounded (a : SwitchedOff l s e f x) (settled : Settled s) (held : (s.line l).holder.isSome)
    (grounded : (s.loadFreed l e).attempt (n.toRequest l f) = .grounded) :
    RingEnded l s (.ringFailed .groundFault n.party f n.cycles) (x.replaceRing l (n.toRequest l f)).finish := by
  have ground : x.attempt (n.toRequest l f) = .grounded := (a.placing.attempt _).trans grounded
  have acts : x.replaceRing l (n.toRequest l f)
      = ((x.deleteRequest (n.toRequest l f)).report l (.ringFailed .groundFault n.party f n.cycles)).toReturnState l := by
    simp only [replaceRing, ground]
    rfl
  have lines : (x.deleteRequest (n.toRequest l f)).lines = s.lines := (deleteRequest_lines _ _).trans a.lines
  have deleted : SameReports x (x.deleteRequest (n.toRequest l f)) := by
    rw [deleteRequest, unqueue_frame]
    exact ⟨rfl, rfl, rfl, rfl⟩
  have told := (a.reports.trans deleted).report (l := l) (by rw [line_of_lines lines]) (.ringFailed .groundFault n.party f n.cycles)
  have left := (a.off.trans (takenOffRing_deleteRequest x (n.toRequest l f))).trans
    (takenOffRing_report _ l (.ringFailed .groundFault n.party f n.cycles))
  have agreed : Agreed (x.groundFault (n.toRequest l f)) :=
    Loose.groundFault_open (w := n.toRequest l f) a.loose (by rw [line_of_lines a.lines]; exact held)
  obtain ⟨off, record⟩ := left.returns settled (by rw [line_report, line_of_lines lines]) agreed
  rw [acts]
  exact ⟨off.entry, off.request, off.relay, record,
    queuesExtend_trans (queuesExtend_of_eq ((queues_toReturnState _ _).trans told.queues)) off.queues, off.only⟩

/-- The entry at a cycle end at which the follow-on is due keeps its place. -/
theorem sameRing_cycled (e : RingEntry) (st : CurrentStep) : SameRing e (cycled (feedChecked e st)) := ⟨rfl, rfl, rfl, rfl⟩

/-- A step that misses its second burst is not one that the entry survives (R127). -/
theorem not_survives (on : st.kind = .on) (unfed : e.fed = false) (missed : 1 ≤ e.missed) :
    ¬(st.kind = .off ∨ e.fed = true ∨ e.missed = 0) := by
  rintro (off | fed | zero)
  · simp [on] at off
  · simp [unfed] at fed
  · omega

/-- Settles O57: the four endings are one ending with its report, a step or cycle that goes on enters the step it reads, and the
follow-on switch is a removal and one attempt. -/
theorem ringsEndInTheReturnState : Obligations.RingsEndInTheReturnState := by
  refine ⟨fun s l w consistent waits passed => ?_, fun s l e st consistent entry ended step => ?_,
    fun s l e st f consistent entry ended step marker two goes survives followOn after ready => ?_⟩
  · obtain ⟨settled, agreed⟩ := consistent_iff.1 consistent
    have ring := waitLimitPassed_ends settled agreed waits
    exact ⟨_, exec_waitLimitExpiry waits passed, ring.request, ring.entry, ring.line, ring.queues, ring.only⟩
  · obtain ⟨settled, agreed⟩ := consistent_iff.1 consistent
    dsimp only
    have answer := exec_stepEnd entry ended
    refine ⟨fun cause => ?_, fun i f q counted survives follows read party => ?_⟩
    · rcases cause with ⟨on, unfed, missed⟩ | ⟨marker, one, survives⟩ | ⟨⟨marker, two, survives⟩, finishing⟩
        | ⟨f, ⟨marker, two, survives⟩, goes, due, dead⟩
      · have ring := stepEnded_feedFault settled agreed entry step on unfed missed
        have dies := not_survives on unfed missed
        exact ⟨_, answer, ring.entry, ring.request, ring.relay, ring.line, fun _ => ring.queues, fun h => absurd h.2.2 dies,
          fun h => absurd h.1.2.2 dies, fun f h => absurd h.1.2.2 dies, ring.only⟩
      · have ring := stepEnded_noAnswer settled agreed entry step marker survives one
        exact ⟨_, answer, ring.entry, ring.request, ring.relay, ring.line,
          fun ⟨on, unfed, missed⟩ => absurd survives (not_survives on unfed missed), fun _ => ring.queues,
          fun ⟨⟨_, two, _⟩, _⟩ => by omega, fun f ⟨⟨_, two, _⟩, _⟩ => by omega, ring.only⟩
      · have ring := stepEnded_finishing settled agreed entry step marker survives two finishing
        exact ⟨_, answer, ring.entry, ring.request, ring.relay, ring.line,
          fun ⟨on, unfed, missed⟩ => absurd survives (not_survives on unfed missed), fun ⟨_, one, _⟩ => by omega,
          fun _ => ring.queues, fun f ⟨_, goes, _⟩ => by simp [finishing] at goes, ring.only⟩
      · have ring := stepEnded_dead settled agreed entry step marker survives two goes due dead
        refine ⟨_, answer, ring.entry, ring.request, ring.relay, ring.line,
          fun ⟨on, unfed, missed⟩ => absurd survives (not_survives on unfed missed), fun ⟨_, one, _⟩ => by omega,
          fun ⟨_, finishing⟩ => by simp [goes] at finishing, fun g ⟨_, _, ⟨followOn, _⟩, _⟩ => ?_, ring.only⟩
        have same : f = g := Option.some.inj (due.1.symm.trans followOn)
        exact same ▸ ring.queues
    · have acts := stepEnded_goesOn (i := i) (counted := counted) entry step survives (by
        rcases follows with next | ⟨⟨marker, two, _⟩, goes, stays, zero, eq⟩
        · exact .inl next
        · exact .inr ⟨marker, two, goes, stays, zero, eq⟩)
      have ring : feedChecked counted st
          = { counted with missed := if st.kind = .off then e.missed else if e.fed then 0 else 1 }
          ∧ counted.party = e.party ∧ counted.program = e.program ∧ counted.sup = e.sup := by
        rcases follows with ⟨_, _, rfl⟩ | ⟨_, _, _, _, rfl⟩ <;> exact ⟨rfl, rfl, rfl, rfl⟩
      obtain ⟨fed, sameParty, sameProgram, sameSup⟩ := ring
      rw [fed] at acts
      rw [answer, acts]
      refine ⟨fun on => ?_, fun off => ?_⟩
      · rw [enterStep_on (e := { counted with missed := _ }) (f := f) (q := q) (by rw [← sameProgram] at read; exact read)
          (by rw [← sameParty] at party; exact party) on, setEntry_setEntry, ← sameSup]
        exact congrArg Host.Outcome.next (finish_of_same_marks settled rfl rfl)
      · rw [enterStep_off (e := { counted with missed := _ }) (f := f) (by rw [← sameProgram] at read; exact read) off,
          setEntry_setEntry]
        exact congrArg Host.Outcome.next (finish_of_same_marks settled rfl rfl)
  · obtain ⟨settled, agreed⟩ := consistent_iff.1 consistent
    dsimp only
    have answer := exec_stepEnd entry ended
    rw [stepEnded_switch entry step marker survives two goes ⟨followOn, after⟩, followOnSwitch_eq (by exact ready)] at answer
    have off := switchedOff_of_entry f (sameRing_cycled e st) agreed entry
    refine ⟨fun sup o placed => ?_, fun failed nobody _ _ => ?_, fun grounded => ?_⟩
    · have ring := off.replaced (n := cycled (feedChecked e st)) settled ((attempt_request_congr rfl rfl rfl).trans placed)
      exact ⟨_, answer, ring.entry, ring.line, ring.relay, ring.told, ring.uses, ring.queues, ring.only⟩
    · have ring := off.deferred (n := cycled (feedChecked e st)) settled ((attempt_request_congr rfl rfl rfl).trans failed) nobody
      exact ⟨_, answer, ring.entry, ring.waiting, ring.line, ring.relay, ring.told, fun _ => ring.uses, ring.queues, ring.only⟩
    · have held : (s.line l).holder.isSome := (agreed.recordRight l).holder_isSome (.inr (.inl (agreed.ringing_of_entry entry)))
      have ring := off.grounded (n := cycled (feedChecked e st)) settled held ((attempt_request_congr rfl rfl rfl).trans grounded)
      exact ⟨_, answer, ring.entry, ring.request, ring.line, ring.relay, ring.queues, ring.only⟩

end Sys2Proof.Machine.State
end

section
/-! PROOFS. What evictions and passes keep of the supplies (R103, R104, R118 to R120). -/

namespace Sys2Proof.Machine

open Sys2Proof.Safety

/-! ## One supply (R103, R104) -/

namespace SupplyRecord

variable {r q v : SupplyRecord} {sh : Shape} {o load : Nat}

/-- No number of the load map is above the current budget (R103). -/
def Within (r : SupplyRecord) : Prop := ∀ x : Fin 30, r.map[x] ≤ r.current

/-- The budgets of a supply stay, and so does a load map that is within the current one. -/
structure Kept (r q : SupplyRecord) : Prop where
  normal : q.normal = r.normal
  economy : q.economy = r.economy
  current : q.current = r.current
  within : r.Within → q.Within

theorem Kept.refl (r : SupplyRecord) : Kept r r := ⟨rfl, rfl, rfl, id⟩

theorem Kept.trans (a : Kept r q) (b : Kept q v) : Kept r v :=
  ⟨b.normal.trans a.normal, b.economy.trans a.economy, b.current.trans a.current, fun h => b.within (a.within h)⟩

theorem getElem_raise (r : SupplyRecord) (sh : Shape) (o load : Nat) (x : Fin 30) :
    (r.raise sh o load).map[x] = r.map[x] + if sh.onAt o x = true then load else 0 := by
  cases on : sh.onAt o x <;> simp [raise, on]

theorem getElem_lower (r : SupplyRecord) (sh : Shape) (o load : Nat) (x : Fin 30) :
    (r.lower sh o load).map[x] = r.map[x] - if sh.onAt o x = true then load else 0 := by
  cases on : sh.onAt o x <;> simp [lower, on]

/-- A load map none of whose numbers rises above the budget, with any pointer. -/
theorem kept_of_map (m : Vector Nat 30) (p : Fin 30) (h : ∀ x : Fin 30, r.map[x] ≤ r.current → m[x] ≤ r.current) :
    Kept r { r with map := m, pointer := p } :=
  ⟨rfl, rfl, rfl, fun within x => h x (within x)⟩

theorem kept_lower (r : SupplyRecord) (sh : Shape) (o load : Nat) : Kept r (r.lower sh o load) := by
  have lower := getElem_lower r sh o load
  refine kept_of_map (r.lower sh o load).map r.pointer fun x within => ?_
  rw [lower]
  exact (Nat.sub_le _ _).trans within

theorem kept_turn (r : SupplyRecord) (h : Option LineNo) : Kept r { r with turn := h } := ⟨rfl, rfl, rfl, id⟩

/-- A load placed at an offset that fits keeps the map within its budget (R106). -/
theorem kept_raise (fits : r.fits sh load o = true) (p : Fin 30) : Kept r { r.raise sh o load with pointer := p } := by
  have raise := getElem_raise r sh o load
  have same : r.raise sh o load = { r with map := (r.raise sh o load).map } := rfl
  generalize (r.raise sh o load).map = m at raise same
  rw [same]
  refine kept_of_map m p fun x within => ?_
  rw [raise]
  split
  · rename_i on
    exact fits_iff.1 fits x on
  · exact within

end SupplyRecord

namespace State

variable {s t u v : State} {l : LineNo} {e : RingEntry} {w : WaitingRequest} {sup : Supply} {o : Nat}

/-! ## Both supplies -/

/-- The budgets and the plant state that the Allocator has taken stay, and so does each load map that is within its budget. -/
structure BudgetsKept (s t : State) : Prop where
  plant : t.alloc.plant = s.alloc.plant
  kept : ∀ x, (s.supply x).Kept (t.supply x)

theorem BudgetsKept.refl (s : State) : BudgetsKept s s := ⟨rfl, fun _ => .refl _⟩

theorem BudgetsKept.trans (a : BudgetsKept s t) (b : BudgetsKept t u) : BudgetsKept s u :=
  ⟨b.plant.trans a.plant, fun x => (a.kept x).trans (b.kept x)⟩

theorem budgetsKept_of_alloc (h : t.alloc = s.alloc) : BudgetsKept s t :=
  ⟨by rw [h], fun x => by
    have same : t.supply x = s.supply x := by simp only [supply, h]
    rw [same]
    exact .refl _⟩

theorem budgetsKept_setWaiting (s : State) (q : List WaitingRequest) : BudgetsKept s (s.setWaiting q) :=
  ⟨rfl, fun x => by cases x <;> exact .refl _⟩

theorem OnlyTurns.budgetsKept (a : OnlyTurns s t) : BudgetsKept s t :=
  ⟨by rw [a], fun x => by
    rw [a.supply x]
    exact SupplyRecord.kept_turn _ _⟩

theorem budgetsKept_unqueue (s : State) (l : LineNo) : BudgetsKept s (s.unqueue l) :=
  ⟨by
    rw [unqueue_eq, releaseTurn_eq, releaseTurn_eq]
    rfl, fun x => by
    rw [supply_unqueue]
    exact SupplyRecord.kept_turn _ _⟩

theorem budgetsKept_enqueue (s : State) (w : WaitingRequest) : BudgetsKept s (s.enqueue w) :=
  ⟨rfl, fun x => by cases x <;> exact .refl _⟩

theorem budgetsKept_setSupply {r : SupplyRecord} (h : (s.supply sup).Kept r) : BudgetsKept s (s.setSupply sup r) :=
  ⟨by cases sup <;> rfl, fun x => by
    by_cases e : x = sup
    · subst e
      simpa using h
    · rw [supply_setSupply_other _ _ _ _ e]
      exact .refl _⟩

theorem budgetsKept_removeEntry (s : State) (l : LineNo) : BudgetsKept s (s.removeEntry l) := by
  cases entry : s.entry l with
  | none =>
    rw [removeEntry_of_none entry]
    exact .refl s
  | some e =>
    rw [removeEntry_eq entry]
    have before : BudgetsKept s ((s.setRelay l .released).indicate l .ringEnd) := budgetsKept_of_alloc rfl
    exact (before.trans (budgetsKept_setSupply (SupplyRecord.kept_lower _ _ _ _))).trans (budgetsKept_of_alloc rfl)

theorem budgetsKept_place (placed : s.attempt w = .placed sup o) : BudgetsKept s (s.place w sup o) := by
  obtain ⟨-, found, -⟩ := placed_of_attempt placed
  obtain ⟨-, -, -, fits, -⟩ := SupplyRecord.findOffset_eq_some.1 found
  have loaded : BudgetsKept s (s.loadPlaced w sup o) := by
    unfold loadPlaced
    refine (budgetsKept_setSupply (SupplyRecord.kept_raise fits _)).trans ⟨rfl, fun x => ?_⟩
    cases x <;> exact .refl _
  have entered : BudgetsKept (s.loadPlaced w sup o) ((s.loadPlaced w sup o).setEntry w.line (some (s.placedEntry w sup o))) :=
    budgetsKept_of_alloc rfl
  rw [place_steps]
  exact ((loaded.trans entered).trans (budgetsKept_unqueue _ _)).trans (budgetsKept_of_alloc rfl)

theorem budgetsKept_groundFault (s : State) (w : WaitingRequest) : BudgetsKept s (s.groundFault w) := by
  unfold groundFault deleteRequest
  refine (budgetsKept_unqueue s w.line).trans (budgetsKept_of_alloc ?_)
  rw [queue_toReturnState, report_alloc]
  rfl

theorem budgetsKept_passOver (s : State) (l : LineNo) : BudgetsKept s (s.passOver l) := by
  cases waits : s.request l with
  | none =>
    have same : s.passOver l = s := by simp only [passOver, waits]
    rw [same]
    exact .refl s
  | some w =>
    by_cases below : w.passOvers < 255
    · exact (budgetsKept_setWaiting s _).trans (passOver_moves waits below).1.budgetsKept
    · rw [passOver_full waits (by omega)]
      exact .refl s

theorem budgetsKept_passOverAll (u : Supply) (fs : List FailedRequest) (s : State) : BudgetsKept s (passOverAll u fs s).1 := by
  induction fs generalizing s with
  | nil => exact .refl s
  | cons f fs ih =>
    unfold passOverAll
    split
    · exact (budgetsKept_passOver s f.line).trans (ih _)
    · exact ih s

theorem budgetsKept_passWalk (ls : List LineNo) (fs : List FailedRequest) (s : State) : BudgetsKept s (passWalk ls fs s) := by
  induction ls generalizing fs s with
  | nil => exact .refl s
  | cons l ls ih =>
    unfold passWalk
    split
    · exact ih _ _
    · split
      · rename_i placed
        exact ((budgetsKept_place placed).trans (budgetsKept_passOverAll _ _ _)).trans (ih _ _)
      · exact (budgetsKept_groundFault _ _).trans (ih _ _)
      · exact ih _ _

theorem budgetsKept_runPasses (n : Nat) (s : State) : BudgetsKept s (runPasses n s) := by
  induction n generalizing s with
  | zero => exact budgetsKept_of_alloc rfl
  | succ n ih =>
    have cleared : BudgetsKept s { s with passDue := false } := budgetsKept_of_alloc rfl
    unfold runPasses
    split
    · exact (cleared.trans (budgetsKept_passWalk _ _ _)).trans (ih _)
    · exact .refl s

/-! ## Evictions (R118) -/

/-- `t` is `s` after some evictions: a line with no entry keeps its record and its request, and the budgets stay. -/
structure Evicts (s t : State) : Prop where
  frame : t = { s with lines := t.lines, programs := t.programs, alloc := t.alloc, entries := t.entries, relays := t.relays,
                       indications := t.indications, queues := t.queues, ports := t.ports, passDue := t.passDue }
  still : ∀ k, s.entry k = none → t.entry k = none ∧ t.line k = s.line k ∧ t.request k = s.request k
  sent : SameSent s t
  queues : QueuesExtend s t
  budgets : BudgetsKept s t

theorem Evicts.refl (s : State) : Evicts s s :=
  ⟨rfl, fun _ none => ⟨none, rfl, rfl⟩, sameSent_refl s, queuesExtend_refl s, .refl s⟩

theorem Evicts.trans (a : Evicts s t) (b : Evicts t u) : Evicts s u where
  frame := by rw [b.frame, a.frame]
  still k none := by
    obtain ⟨entry, line, request⟩ := a.still k none
    obtain ⟨entry', line', request'⟩ := b.still k entry
    exact ⟨entry', line'.trans line, request'.trans request⟩
  sent := a.sent.trans b.sent
  queues := queuesExtend_trans a.queues b.queues
  budgets := a.budgets.trans b.budgets

/-- What an evicted entry that is not finishing leaves (R118). -/
def deferred (s : State) (l : LineNo) (e : RingEntry) : State :=
  ((s.removeEntry l).enqueue (e.toRequest l e.program)).setLine l ((s.line l).enter .ringWait)

theorem evictOne_deferred (goes : e.finishing = false) :
    s.evictOne l e = (s.deferred l e).report l (.ringDeferred .evicted e.party e.program e.cycles) := by
  have line : ((s.removeEntry l).enqueue (e.toRequest l e.program)).line l = s.line l := line_of_lines (s.removeEntry_lines l) l
  simp only [evictOne, goes, Bool.false_eq_true, if_false, enter_eq, line]
  rfl

theorem evictOne_finishing (entry : s.entry l = some e) (finishing : e.finishing = true) :
    s.evictOne l e
      = ((s.report l (.ringStopped .finish e.party e.program e.cycles)).endRing l).setLine l (returnRecord s l) := by
  have line : ((s.report l (.ringStopped .finish e.party e.program e.cycles)).endRing l).line l = s.line l :=
    (line_of_lines (endRing_lines _ _) l).trans (line_report _ _ _ _)
  have left := (takenOffRing_report s l (.ringStopped .finish e.party e.program e.cycles)).trans (takenOffRing_endRing _ l)
  rw [← left.returnRecord_eq line, ← toReturnState_eq]
  simp only [evictOne, finishing, if_true, stopRing_of_ringOf (ringOf_of_entry entry)]

theorem takenOffRing_evictOne (entry : s.entry l = some e) : TakenOffRing l s (s.evictOne l e) := by
  cases finishing : e.finishing with
  | true =>
    rw [evictOne_finishing entry finishing]
    exact ((takenOffRing_report s l _).trans (takenOffRing_endRing _ l)).trans (takenOffRing_setLine _ l _)
  | false =>
    rw [evictOne_deferred finishing]
    have waits := takenOffRing_enqueue (s.removeEntry l) (e.toRequest l e.program)
    exact (((takenOffRing_removeEntry s l).trans waits).trans (takenOffRing_setLine _ l _)).trans (takenOffRing_report _ l _)

/-- The report of an eviction (R118). -/
def evictionReport (e : RingEntry) : ReportBody :=
  if e.finishing then .ringStopped .finish e.party e.program e.cycles else .ringDeferred .evicted e.party e.program e.cycles

/-- An eviction makes its one report. -/
theorem reports_evictOne (entry : s.entry l = some e) : SameReports (s.report l (evictionReport e)) (s.evictOne l e) := by
  cases finishing : e.finishing with
  | true =>
    rw [evictOne_finishing entry finishing, evictionReport, finishing, if_pos rfl]
    exact (sameReports_endRing _ l).trans (sameReports_setLine _ l _)
  | false =>
    rw [evictOne_deferred finishing, evictionReport, finishing, if_neg (by simp)]
    have before : SameReports s (s.deferred l e) := by
      unfold deferred
      have removed : SameReports s (s.removeEntry l) := by
        rw [removeEntry_frame]
        exact ⟨rfl, rfl, rfl, rfl⟩
      exact removed.trans ⟨rfl, rfl, rfl, rfl⟩
    exact before.report (by rw [deferred, line_setLine_same]; rfl) _

theorem budgetsKept_evictOne (entry : s.entry l = some e) : BudgetsKept s (s.evictOne l e) := by
  cases finishing : e.finishing with
  | true =>
    rw [evictOne_finishing entry finishing, endRing_of_entry (e := e) (by simpa using entry)]
    have reported : BudgetsKept s (s.report l (.ringStopped .finish e.party e.program e.cycles)) :=
      budgetsKept_of_alloc (report_alloc _ _ _)
    exact (reported.trans (budgetsKept_removeEntry _ l)).trans (budgetsKept_of_alloc rfl)
  | false =>
    rw [evictOne_deferred finishing]
    have waits := (budgetsKept_removeEntry s l).trans (budgetsKept_enqueue _ (e.toRequest l e.program))
    exact waits.trans (budgetsKept_of_alloc (report_alloc _ _ _))

theorem evicts_evictOne (entry : s.entry l = some e) : Evicts s (s.evictOne l e) := by
  have left := takenOffRing_evictOne entry
  refine ⟨left.frame, fun k none => ?_, left.moves.sent, ?_, budgetsKept_evictOne entry⟩
  · have apart : k ∉ [l] := by
      rw [List.mem_singleton]
      rintro rfl
      rw [entry] at none
      cases none
    exact ⟨(left.moves.entry k apart).trans none, left.moves.line k apart, left.moves.request k apart⟩
  · exact queuesExtend_trans (report_extends s l _) (reports_evictOne entry).extend

theorem evicts_evictLoop (sup : Supply) (n : Nat) (s : State) : Evicts s (evictLoop sup n s) := by
  induction n generalizing s with
  | zero => exact .refl s
  | succ n ih =>
    unfold evictLoop
    split
    · exact .refl s
    · split
      · rename_i l e youngest
        exact (evicts_evictOne (entry_of_youngestOn youngest)).trans (ih _)
      · exact .refl s

theorem evicts_evict (s : State) (sup : Supply) : Evicts s (s.evict sup) := evicts_evictLoop sup 64 s

/-! ## The budgets follow the plant state (R104, R118 to R120) -/

/-- The part with the current budgets that the plant state selects. -/
def selected (s : State) : State := (s.selectBudget .one).selectBudget .two

theorem supply_selected (s : State) (x : Supply) :
    s.selected.supply x = { s.supply x with current := (s.supply x).budgetFor s.alloc.plant } := by
  cases x <;> rfl

theorem selected_eq (s : State) :
    s.selected = { s with alloc := { s.alloc with
      one := { s.alloc.one with current := s.alloc.one.budgetFor s.alloc.plant }
      two := { s.alloc.two with current := s.alloc.two.budgetFor s.alloc.plant } } } := rfl

/-- The part after the eviction from a supply whose budget fell. -/
def evictIf (s : State) (fell : Prop) [Decidable fell] (sup : Supply) : State := if fell then s.evict sup else s

theorem evicts_evictIf (s : State) (fell : Prop) [Decidable fell] (sup : Supply) : Evicts s (s.evictIf fell sup) := by
  unfold evictIf
  split
  · exact evicts_evict s sup
  · exact .refl s

/-- The part after the evictions from the supplies whose budgets fell, Supply 1 first. -/
def evicted (s : State) : State :=
  (s.selected.evictIf ((s.supply .one).budgetFor s.alloc.plant < (s.supply .one).current) .one).evictIf
    ((s.supply .two).budgetFor s.alloc.plant < (s.supply .two).current) .two

theorem evicts_evicted (s : State) : Evicts s.selected s.evicted := (evicts_evictIf _ _ _).trans (evicts_evictIf _ _ _)

/-- A rise of a budget calls for a pass. -/
theorem followBudgets_eq (s : State) :
    s.followBudgets
      = { s.evicted with passDue := s.evicted.passDue
            || (decide ((s.supply .one).current < (s.supply .one).budgetFor s.alloc.plant)
              || decide ((s.supply .two).current < (s.supply .two).budgetFor s.alloc.plant)) } := by
  have first := (evicts_evictIf s.selected ((s.supply .one).budgetFor s.alloc.plant < (s.supply .one).current) .one).budgets
  have second := (evicts_evicted s).budgets
  have two := (first.kept .two).current
  have one' := (second.kept .one).current
  have two' := (second.kept .two).current
  rw [supply_selected] at two one' two'
  have steps : s.followBudgets
      = (let r := s.selected.evictIf ((s.supply .one).budgetFor s.alloc.plant < (s.supply .one).current) .one
         let v := r.evictIf ((r.supply .two).current < (s.supply .two).current) .two
         if (decide ((s.supply .one).current < (v.supply .one).current)
              || decide ((s.supply .two).current < (v.supply .two).current)) = true then v.callPass else v) := rfl
  rw [steps]
  dsimp only
  have same : ((s.selected.evictIf ((s.supply .one).budgetFor s.alloc.plant < (s.supply .one).current) .one).evictIf
      (((s.selected.evictIf ((s.supply .one).budgetFor s.alloc.plant < (s.supply .one).current) .one).supply .two).current
        < (s.supply .two).current) .two) = s.evicted := by
    simp only [evicted, two]
  rw [same, one', two']
  generalize s.evicted = v
  split
  · rename_i rose
    rw [rose, Bool.or_true]
    rfl
  · rename_i stays
    rw [Bool.not_eq_true] at stays
    rw [stays, Bool.or_false]

/-- What following the plant state leaves, at the end of the event. -/
structure Followed (s t : State) : Prop where
  frame : t = { s with lines := t.lines, programs := t.programs, alloc := t.alloc, entries := t.entries, relays := t.relays,
                       indications := t.indications, queues := t.queues, ports := t.ports }
  budgets : BudgetsKept s.evicted t
  still : ∀ k, s.entry k = none → s.request k = none → t.line k = s.line k
  sent : SameSent s t
  queues : QueuesExtend s.evicted t

theorem followed_finish (settled : Settled s) : Followed s s.followBudgets.finish := by
  obtain ⟨noPass, noTap⟩ := settled
  have eq := followBudgets_eq s
  have evicts := evicts_evicted s
  generalize (decide ((s.supply .one).current < (s.supply .one).budgetFor s.alloc.plant)
    || decide ((s.supply .two).current < (s.supply .two).budgetFor s.alloc.plant)) = rose at eq
  have sent : SameSent s s.evicted := (sameSent_of_ports rfl : SameSent s s.selected).trans evicts.sent
  have budgets : BudgetsKept s.evicted s.followBudgets := budgetsKept_of_alloc (by rw [eq])
  have queues : QueuesExtend s.evicted s.followBudgets := queuesExtend_of_eq (by rw [eq])
  have ports : SameSent s.evicted s.followBudgets := sameSent_of_ports (by rw [eq])
  have frame : s.followBudgets = { s with lines := s.followBudgets.lines, programs := s.followBudgets.programs,
                                          alloc := s.followBudgets.alloc, entries := s.followBudgets.entries,
                                          relays := s.followBudgets.relays, indications := s.followBudgets.indications,
                                          queues := s.followBudgets.queues, ports := s.followBudgets.ports,
                                          passDue := s.followBudgets.passDue } := by
    rw [eq, evicts.frame, selected_eq]
  have still (k : LineNo) (none : s.entry k = none) :
      s.followBudgets.line k = s.line k ∧ s.followBudgets.request k = s.request k := by
    obtain ⟨-, line, request⟩ := evicts.still k none
    rw [eq]
    exact ⟨line, request⟩
  generalize s.followBudgets = v at *
  have ended : v.finish = v.settlePasses := finish_eq_settlePasses (by rw [frame]; exact noTap)
  have settled := settled_finish v
  have passes := budgetsKept_runPasses (v.alloc.queue.length + 2) v
  have extends_ := finish_extends v
  have sentOn := (ended_finish v).sent
  obtain ⟨passFrame, kept⟩ := settlePasses_after v
  change BudgetsKept v v.settlePasses at passes
  rw [← ended] at passes passFrame kept
  generalize v.finish = t at *
  refine ⟨?_, budgets.trans passes, fun k entry request => ?_, (sent.trans ports).trans sentOn, queuesExtend_trans queues extends_⟩
  · rw [passFrame, frame, settled.1, noPass]
  · obtain ⟨line, asks⟩ := still k entry
    exact (kept k (asks.trans request)).2.1.trans line

end State

end Sys2Proof.Machine
end

section
/-! PROOFS. SET BUDGET, SET RING LIMITS, SET TONE LIMITS and SET PLANT LIMITS (R59, R120, R121, R147): the obligation O53. -/

namespace Sys2Proof.Machine

open Sys2Proof.Safety

namespace State

variable {s t : State} {p : Port} {rest : List ReplyItem}

/-! ## The operands of SET PLANT LIMITS (R147, R170) -/

/-- A SET PLANT LIMITS body is read back as it was written, when its values pass the checks. -/
theorem plantLimitsOf_written {k : PlantLimits} (economy : k.economyLevel < 65536) (shed : k.shedLevel < 65536)
    (step : k.hysteresis < 256) (economyTime : k.economyQualify < 65536) (shedTime : k.shedQualify < 65536)
    (recovery : k.recoveryTime < 65536) [Decidable (PlantLimitsValid k)] :
    plantLimitsOf (plantBytes k) = if PlantLimitsValid k then some k else none := by
  have hysteresis : (byteOf k.hysteresis).toNat = k.hysteresis := by rw [byteOf_toNat, Nat.mod_eq_of_lt step]
  simp only [plantBytes, bytes2, List.cons_append, List.nil_append, plantLimitsOf, nat2_bytes economy, nat2_bytes shed, hysteresis,
    nat2_bytes economyTime, nat2_bytes shedTime, nat2_bytes recovery, Bool.and_eq_true, inRange_iff, decide_eq_true_eq,
    and_assoc]
  by_cases valid : PlantLimitsValid k
  · rw [if_pos valid]
    exact if_pos valid
  · rw [if_neg valid]
    exact if_neg valid

/-! ## Budgets (R120) -/

/-- The part with the four budgets written. -/
def withBudgets (s : State) (n1 e1 n2 e2 : Nat) : State :=
  { s with alloc := { s.alloc with one := { s.alloc.one with normal := n1, economy := e1 }
                                   two := { s.alloc.two with normal := n2, economy := e2 } } }

theorem setBudget_ok {n1 e1 n2 e2 : Byte} (one : n1.toNat ≤ 40) (two : n2.toNat ≤ 40) (below : e1.toNat ≤ n1.toNat)
    (below' : e2.toNat ≤ n2.toNat) :
    s.setBudget p [n1, e1, n2, e2] = ((s.withBudgets n1.toNat e1.toNat n2.toNat e2.toNat).followBudgets, .ok) := by
  refine if_pos ?_
  simp only [Bool.and_eq_true, inRange_iff, decide_eq_true_eq]
  omega

theorem setBudget_badValue {n1 e1 n2 e2 : Byte}
    (bad : 40 < n1.toNat ∨ 40 < n2.toNat ∨ n1.toNat < e1.toNat ∨ n2.toNat < e2.toNat) :
    s.setBudget p [n1, e1, n2, e2] = (s, .refuse .badValue) := by
  refine if_neg ?_
  simp only [Bool.and_eq_true, inRange_iff, decide_eq_true_eq]
  omega

/-- The budgets at the end of an event that lets them follow the plant state. -/
theorem Followed.supply (a : Followed s t) (u : Supply) :
    (t.supply u).normal = (s.supply u).normal ∧ (t.supply u).economy = (s.supply u).economy
      ∧ (t.supply u).current = (s.supply u).budgetFor s.alloc.plant := by
  have kept := ((evicts_evicted s).budgets.trans a.budgets).kept u
  rw [supply_selected] at kept
  exact ⟨kept.normal, kept.economy, kept.current⟩

/-! ## Turns at a lowered threshold (R121) -/

/-- The requests at or above the turn threshold take their turns, in queue order. -/
def takeAllTurns (s : State) (q : List WaitingRequest) : State :=
  q.foldl (fun s w => if s.alloc.turnThreshold ≤ w.passOvers then s.takeTurns w else s) s

theorem onlyTurns_takeAllTurns (s : State) (q : List WaitingRequest) : OnlyTurns s (s.takeAllTurns q) := by
  refine onlyTurns_foldl (fun s w => ?_) q s
  split
  · exact onlyTurns_takeTurns s w
  · exact onlyTurns_refl s

/-- Each supply without a turn holder goes to the first request that may use it and has the count. -/
theorem turn_takeAllTurns (s : State) (q : List WaitingRequest) (u : Supply) :
    ((s.takeAllTurns q).supply u).turn
      = if (s.supply u).turn = none then
          (q.find? fun w =>
            decide (u ∈ s.partySupplies w.line w.party) && decide (s.alloc.turnThreshold ≤ w.passOvers)).map (·.line)
        else (s.supply u).turn := by
  induction q generalizing s with
  | nil => cases turn : (s.supply u).turn <;> simp [takeAllTurns, turn]
  | cons w q ih =>
    by_cases due : s.alloc.turnThreshold ≤ w.passOvers
    · have steps : s.takeAllTurns (w :: q) = (s.takeTurns w).takeAllTurns q := by
        simp only [takeAllTurns, List.foldl_cons, due, if_true]
      have only := onlyTurns_takeTurns s w
      have threshold : (s.takeTurns w).alloc.turnThreshold = s.alloc.turnThreshold := by rw [only]
      have route (k : LineNo) (n : Nat) : (s.takeTurns w).partySupplies k n = s.partySupplies k n :=
        partySupplies_congr (by rw [only]; rfl) n
      rw [steps, ih, turn_takeTurns, threshold]
      simp only [route, List.find?_cons, due, decide_true, Bool.and_true]
      by_cases free : (s.supply u).turn = none
      · by_cases uses : u ∈ s.partySupplies w.line w.party
        · simp [free, uses]
        · simp [free, uses]
      · simp [free]
    · have steps : s.takeAllTurns (w :: q) = s.takeAllTurns q := by
        simp only [takeAllTurns, List.foldl_cons, due, if_false]
      rw [steps, ih]
      simp [due]

/-- The part with the two ring limits written. -/
def withRingLimits (s : State) (w x : Nat) : State := { s with alloc := { s.alloc with waitLimit := w, turnThreshold := x } }

theorem setRingLimits_ok {w x : Byte} (low : 1 ≤ w.toNat) (high : w.toNat ≤ 120) (one : 1 ≤ x.toNat) :
    s.setRingLimits p [w, x]
      = (if x.toNat < s.alloc.turnThreshold then (s.withRingLimits w.toNat x.toNat).takeAllTurns s.alloc.queue
         else s.withRingLimits w.toNat x.toNat, .ok) := by
  have byte : x.toNat ≤ 255 := by omega
  have accepts : (inRange 1 120 w.toNat && inRange 1 255 x.toNat) = true := by
    simp only [Bool.and_eq_true, inRange_iff]
    omega
  exact if_pos accepts

theorem setRingLimits_badValue {w x : Byte} (bad : w.toNat < 1 ∨ 120 < w.toNat ∨ x.toNat < 1) :
    s.setRingLimits p [w, x] = (s, .refuse .badValue) := by
  refine if_neg ?_
  simp only [Bool.and_eq_true, inRange_iff]
  omega

/-! ## Tone limits (R59) -/

theorem setToneLimits_ok {e d x : Byte} (order : d.toNat ≤ e.toNat) (high : e.toNat ≤ 12) (one : 1 ≤ x.toNat) (top : x.toNat ≤ 30) :
    s.setToneLimits p [e, d, x]
      = ((s.setTone { s.tone with economyLimit := e.toNat, shedLimit := d.toNat, delayThreshold := x.toNat }).setTapLimit
          (match s.tone.plant with | .normal => 12 | .economy => e.toNat | .shed => d.toNat), .ok) := by
  have accepts : (inRange 0 12 e.toNat && inRange 0 12 d.toNat && d.toNat ≤ e.toNat && inRange 1 30 x.toNat) = true := by
    simp only [Bool.and_eq_true, inRange_iff, decide_eq_true_eq]
    omega
  refine (if_pos accepts).trans ?_
  cases plant : s.tone.plant <;> simp [TonePool.limitFor, plant]

theorem setToneLimits_badValue {e d x : Byte} (bad : 12 < e.toNat ∨ e.toNat < d.toNat ∨ x.toNat < 1 ∨ 30 < x.toNat) :
    s.setToneLimits p [e, d, x] = (s, .refuse .badValue) := by
  refine if_neg ?_
  simp only [Bool.and_eq_true, inRange_iff, decide_eq_true_eq]
  omega

theorem settled_setTapLimit (h : Settled s) (n : Nat) : Settled (s.setTapLimit n) := by
  rw [(setTapLimit_after s n).1]
  exact h

/-- Settles O53: each request by its check and what it writes; the budgets follow the plant state, and the turns go round the queue. -/
theorem limitRequestsWriteTheirValues : Obligations.LimitRequestsWriteTheirValues := by
  refine ⟨fun s p n1 e1 n2 e2 rest settled asks => ⟨fun one two below below' => ?_, fun bad => ?_⟩, fun s p rest settled => ?_⟩
  · have acts : (taken s p rest).handOver 23 p [n1, e1, n2, e2] setBudget = _ :=
      (handOver_ok rfl rfl).trans (setBudget_ok one two below below')
    have answer := takeRequest_of_asks asks (by decide) setBudget
    rw [acts] at answer
    have before : Settled ((taken s p rest).withBudgets n1.toNat e1.toNat n2.toNat e2.toNat) := settled_taken settled p rest
    have follows := followed_finish before
    have sent : ((((taken s p rest).withBudgets n1.toNat e1.toNat n2.toNat e2.toNat).followBudgets.finish).port p).sent
        = (s.port p).sent := (follows.sent p).trans (sameSent_taken s p rest p)
    have frame := follows.frame
    have still := follows.still
    obtain ⟨normal, economy, current⟩ := follows.supply .one
    obtain ⟨normal', economy', current'⟩ := follows.supply .two
    dsimp only at answer
    generalize ((taken s p rest).withBudgets n1.toNat e1.toNat n2.toNat e2.toNat).followBudgets.finish = t at *
    have budget (r : SupplyRecord) (st : PlantState) (n e : Nat) :
        ({ r with normal := n, economy := e } : SupplyRecord).budgetFor st
          = match st with | .normal => n | .economy => e | .shed => 0 := by cases st <;> rfl
    have plant : ((taken s p rest).withBudgets n1.toNat e1.toNat n2.toNat e2.toNat).alloc.plant = s.alloc.plant := by
      simp [withBudgets]
    rw [plant] at current current'
    refine ⟨_, answer, ?_, ?_, ?_, ?_, ?_, ?_, ?_, fun l entry request => ?_, ?_⟩
    · rw [respond_alloc]; exact normal
    · rw [respond_alloc]; exact economy
    · rw [respond_alloc]; exact normal'
    · rw [respond_alloc]; exact economy'
    · rw [respond_alloc]; exact current.trans (budget _ _ _ _)
    · rw [respond_alloc]; exact current'.trans (budget _ _ _ _)
    · rw [respond_def_ports, sent]
      rfl
    · have kept := still l ((entry_taken s p rest l).trans entry) ((request_taken s p rest l).trans request)
      rw [line_of_lines (respond_lines _ _ _ _), kept]
      exact line_taken s p rest l
    · rw [respond_frame, frame, withBudgets, taken_frame]
  · exact takeRequest_settled asks (by decide) rfl rfl (setBudget_badValue bad) (settled_taken settled p rest)
  · have start := settled_taken settled p rest
    dsimp only
    refine ⟨fun w x asks => ⟨fun low high one raised => ?_, fun low high one lowered => ?_, fun bad => ?_⟩,
      fun e d x asks => ⟨fun order high one top => ?_, fun bad => ?_⟩,
      fun k economy shed step economyTime shedTime recovery asks => ?_⟩
    · have acts := setRingLimits_ok (s := taken s p rest) (p := p) low high one
      rw [if_neg (by simpa using raised)] at acts
      exact takeRequest_settled asks (by decide) rfl rfl acts start
    · have acts := setRingLimits_ok (s := taken s p rest) (p := p) low high one
      rw [if_pos (by simpa using lowered)] at acts
      have queue : (taken s p rest).alloc.queue = s.alloc.queue := by rw [taken_alloc]
      rw [queue] at acts
      have only := onlyTurns_takeAllTurns ((taken s p rest).withRingLimits w.toNat x.toNat) s.alloc.queue
      have turns := turn_takeAllTurns ((taken s p rest).withRingLimits w.toNat x.toNat) s.alloc.queue
      have route (k : LineNo) (n : Nat) : ((taken s p rest).withRingLimits w.toNat x.toNat).partySupplies k n = s.partySupplies k n :=
        partySupplies_congr (by exact congrArg LineRecord.parties (line_taken s p rest k)) n
      have supply (u : Supply) : ((taken s p rest).withRingLimits w.toNat x.toNat).supply u = s.supply u := by
        refine Eq.trans ?_ (supply_taken s p rest u)
        cases u <;> rfl
      simp only [supply, route] at turns
      have owed : Settled (((taken s p rest).withRingLimits w.toNat x.toNat).takeAllTurns s.alloc.queue) := by
        rw [only]
        exact start
      refine (takeRequest_settled asks (by decide) rfl rfl acts owed).trans ?_
      rw [only, turns, turns]
      rfl
    · exact takeRequest_settled asks (by decide) rfl rfl (setRingLimits_badValue bad) start
    · have acts := setToneLimits_ok (s := taken s p rest) (p := p) order high one top
      rw [taken_tone] at acts ⊢
      exact takeRequest_settled asks (by decide) rfl rfl acts
        (settled_setTapLimit (s := (taken s p rest).setTone
          { s.tone with economyLimit := e.toNat, shedLimit := d.toNat, delayThreshold := x.toNat }) start _)
    · exact takeRequest_settled asks (by decide) rfl rfl (setToneLimits_badValue bad) start
    · classical
      have body := plantLimitsOf_written economy shed step economyTime shedTime recovery
      refine ⟨fun valid => ?_, fun invalid => ?_⟩
      · rw [if_pos valid] at body
        refine takeRequest_settled asks (by decide) rfl rfl ?_ start
        simp only [setPlantLimits, body]
        rfl
      · rw [if_neg invalid] at body
        refine takeRequest_settled asks (by decide) rfl rfl ?_ start
        simp only [setPlantLimits, body]

end State

end Sys2Proof.Machine
end

section
/-! PROOFS. An accepted RING (R106 to R108, R111, R112, R114 to R116): the obligation O52. -/

namespace Sys2Proof.Machine.State

open Sys2Proof.Safety

variable {s t u v x : State} {l : LineNo} {p : Port} {rest : List ReplyItem} {g : ProgramNo} {back : ReturnState} {n c : Nat}
  {pri : Priority} {w y : WaitingRequest} {sup : Supply} {o : Nat}

/-! ## A placement by a line that holds no turn (R106, R107) -/

/-- The part with the load of a request placed and its entry made. -/
def withEntry (s : State) (w : WaitingRequest) (sup : Supply) (o : Nat) : State :=
  (s.loadPlaced w sup o).setEntry w.line (some (s.placedEntry w sup o))

theorem supply_withEntry (s : State) (w : WaitingRequest) (sup : Supply) (o : Nat) (v : Supply) :
    (s.withEntry w sup o).supply v = if v = sup then s.placedSupply w sup o else s.supply v :=
  s.supply_loadPlaced w sup o v

theorem turn_placedSupply (s : State) (w : WaitingRequest) (sup : Supply) (o : Nat) :
    (s.placedSupply w sup o).turn = (s.supply sup).turn := by
  simp only [placedSupply, SupplyRecord.raise]

theorem turn_withEntry (s : State) (w : WaitingRequest) (sup : Supply) (o : Nat) (v : Supply) :
    ((s.withEntry w sup o).supply v).turn = (s.supply v).turn := by
  rw [supply_withEntry]
  split
  · rename_i same
    rw [turn_placedSupply, same]
  · rfl

theorem place_of_no_turn (h : ∀ v, (s.supply v).turn ≠ some w.line) :
    s.place w sup o
      = ((s.withEntry w sup o).setWaiting (s.alloc.queue.filter (·.line != w.line))).setLine w.line
          ((s.line w.line).enter .ringing) := by
  have record : (s.place w sup o).line w.line = (s.line w.line).enter .ringing := line_place_same s w sup o
  have queue : (s.withEntry w sup o).alloc.queue = s.alloc.queue := by
    unfold withEntry
    rw [loadPlaced_frame]
    rfl
  have left : (s.withEntry w sup o).unqueue w.line = (s.withEntry w sup o).setWaiting (s.alloc.queue.filter (·.line != w.line)) := by
    rw [unqueue_of_no_turn fun v => by rw [turn_withEntry]; exact h v, queue]
  rw [place_steps] at record ⊢
  change (((s.withEntry w sup o).unqueue w.line).enter w.line .ringing).line w.line = _ at record
  change ((s.withEntry w sup o).unqueue w.line).enter w.line .ringing = _
  rw [left] at record ⊢
  rw [enter_eq, line_setLine_same] at record
  rw [enter_eq, record]

theorem supply_place_of_no_turn (h : ∀ v, (s.supply v).turn ≠ some w.line) (v : Supply) :
    (s.place w sup o).supply v = if v = sup then s.placedSupply w sup o else s.supply v := by
  rw [place_of_no_turn h, ← supply_withEntry]
  cases v <;> rfl

theorem passDue_place_of_no_turn (h : ∀ v, (s.supply v).turn ≠ some w.line) : (s.place w sup o).passDue = s.passDue := by
  rw [place_of_no_turn h]
  unfold withEntry
  rw [loadPlaced_frame]
  rfl

theorem stamp_place (s : State) (w : WaitingRequest) (sup : Supply) (o : Nat) :
    (s.place w sup o).alloc.lastStamp = s.alloc.lastStamp + 1 := by
  rw [place_steps, enter_eq, setLine_alloc, unqueue_eq, releaseTurn_eq, releaseTurn_eq]
  unfold loadPlaced
  generalize s.placedSupply w sup o = r
  cases sup <;> rfl

/-! ## The queue with one request more (R112) -/

theorem mem_insertRequest_iff {q : List WaitingRequest} : y ∈ insertRequest w q ↔ y = w ∨ y ∈ q := by
  induction q with
  | nil => simp [insertRequest]
  | cons z q ih =>
    unfold insertRequest
    split
    · simp
    · rw [List.mem_cons, ih, List.mem_cons]
      exact or_left_comm

/-! ## The line record and the use of an accepted RING (R111) -/

/-- The record of a line when its RING is accepted. -/
def acceptedRecord (r : LineRecord) (p : Port) (back : ReturnState) : LineRecord :=
  { r with holder := some p, returnState := some back, timer := none, reorigination := none }

/-- The part after the use is taken and the line record written, before the attempt. -/
def accepted (s : State) (p : Port) (l : LineNo) (g : ProgramNo) (back : ReturnState) : State :=
  (s.takeUse g).setLine l (acceptedRecord (s.line l) p back)

theorem enter_ringing_accepted (r : LineRecord) (p : Port) (back : ReturnState) :
    (acceptedRecord r p back).enter .ringing = { r.enter .ringing with holder := some p, returnState := some back } := rfl

theorem enter_ringWait_accepted (r : LineRecord) (p : Port) (back : ReturnState) :
    (acceptedRecord r p back).enter .ringWait = { r.enter .ringWait with holder := some p, returnState := some back } := rfl

/-- The orphan mark does not outlast HELD and RECALLING. -/
theorem orphan_off (r : LineRecord) {st : LineState} (h : (st == .held || st == .recalling) = false) :
    (r.orphan && (st == .held || st == .recalling)) = false := by
  rw [h, Bool.and_false]

/-- A line that waited is RINGING as one that was placed at once. -/
theorem enter_ringing_waited (r : LineRecord) : (r.enter .ringWait).enter .ringing = r.enter .ringing := by
  simp [LineRecord.enter, LineState.unheld, LineState.originating, orphan_off r (st := .ringWait) rfl, orphan_off r (st := .ringing) rfl]

section
variable (s p l g back)

theorem samePlacing_accepted : SamePlacing s (s.accepted p l g back) := by
  have used : SamePlacing s (s.takeUse g) := ⟨fun _ => rfl, fun u => by cases u <;> rfl, fun h => shape_takeUse s g h, fun _ => rfl⟩
  exact used.trans (samePlacing_setLine rfl)

theorem takenOffRing_accepted : TakenOffRing l s (s.accepted p l g back) :=
  (takenOffRing_setProgram s l g _).trans (takenOffRing_setLine _ l _)

theorem line_accepted : (s.accepted p l g back).line l = acceptedRecord (s.line l) p back := line_setLine_same _ _ _

theorem uses_accepted : ((s.accepted p l g back).program g).uses = (s.program g).uses + 1 := by
  refine (uses_takeUse s g g).trans ?_
  simp

variable (n c pri)

/-- What an attempt made at once comes to. -/
def attemptedNow (v : State) (w : WaitingRequest) : Attempt → State
  | .placed sup o => v.place w sup o
  | .grounded => v.groundFault w
  | .failed => v.waitRing w

theorem attemptedNow_placed (v : State) (w : WaitingRequest) (sup : Supply) (o : Nat) :
    v.attemptedNow w (.placed sup o) = v.place w sup o := rfl

theorem attemptedNow_grounded (v : State) (w : WaitingRequest) : v.attemptedNow w .grounded = v.groundFault w := rfl

theorem attemptedNow_failed (v : State) (w : WaitingRequest) : v.attemptedNow w .failed = v.waitRing w := rfl

/-- An accepted RING attempts at once with nobody waiting, and joins the queue behind others. -/
theorem acceptRing_eq :
    s.acceptRing p ⟨l, n, g, c, pri⟩ back
      = if s.alloc.queue = [] then
          (s.accepted p l g back).attemptedNow (ringRequest s p l n g c pri) (s.attempt (ringRequest s p l n g c pri))
        else (s.accepted p l g back).waitRing (ringRequest s p l n g c pri) := by
  rw [← (samePlacing_accepted s l p g back).attempt]
  have queue : (s.accepted p l g back).alloc.queue = s.alloc.queue := rfl
  have acts : s.acceptRing p ⟨l, n, g, c, pri⟩ back
      = if (s.accepted p l g back).alloc.queue.isEmpty = true then
          (s.accepted p l g back).attemptedNow (ringRequest s p l n g c pri)
            ((s.accepted p l g back).attempt (ringRequest s p l n g c pri))
        else (s.accepted p l g back).waitRing (ringRequest s p l n g c pri) := by
    rfl
  rw [acts, queue]
  simp only [List.isEmpty_iff]

end

/-- A RING that passes its checks is answered with the state of its line at the end of the event (R111). -/
theorem exec_ring_accepted {party : Fin 4} {m : Byte}
    (asks : Asks s p 9 [byteOf l.val, byteOf (party.val + 1), byteOf g.val, m, byteOf pri.code] rest) (test : pri = .test → p = .M)
    (one : 1 ≤ m.toNat) (enough : party.val + 1 ≤ (s.line l).parties.length) (ready : (s.program g).state = .ready)
    (light : ∃ sup ∈ s.partySupplies l (party.val + 1), s.partyLoad l (party.val + 1) ≤ (s.supply sup).normal)
    (accepts : (s.line l).ringCheck p = .ok back) :
    exec (.ring p) s
      = .next ((((taken s p rest).acceptRing p ⟨l, party.val + 1, g, m.toNat, pri⟩ back).finish).respond p 9#8
          (.okWith [byteOf ((((taken s p rest).acceptRing p ⟨l, party.val + 1, g, m.toNat, pri⟩ back).finish).line l).state.code])) := by
  have checks := ring_of_operands (taken s p rest) (p := p) (ringOperandsOf_written l party g pri one)
  have route : (taken s p rest).partySupplies l (party.val + 1) = s.partySupplies l (party.val + 1) :=
    partySupplies_congr (by simp) _
  have load : (taken s p rest).partyLoad l (party.val + 1) = s.partyLoad l (party.val + 1) := partyLoad_congr (by simp) _
  simp only [line_taken, program_taken, supply_taken, route, load] at checks
  obtain ⟨sup, mem, fits⟩ := light
  rw [if_neg (by omega), if_neg (by simp [ready]), if_neg (fun heavy => absurd (heavy sup mem) (by omega)), accepts] at checks
  exact takeRequest_settled asks (by decide) rfl (permitted_ring_code test) checks (settled_finish _)

/-! ## Placed at once (R106, R107) -/

/-- What the placement of an accepted RING leaves. -/
structure RungAtOnce (l : LineNo) (s : State) (p : Port) (back : ReturnState) (w : WaitingRequest) (sup : Supply) (o : Nat)
    (t : State) : Prop where
  line : t.line l = { (s.line l).enter .ringing with holder := some p, returnState := some back }
  entry : t.entry l = some (s.placedEntry w sup o)
  supply : t.supply sup = s.placedSupply w sup o
  stamp : t.alloc.lastStamp = s.alloc.lastStamp + 1
  uses : (t.program w.program).uses = (s.program w.program).uses + 1
  sent : SameSent s t
  only : OnlyRingChanges s t l

section
variable (s p l g back)

/-- A placement reads the same of the part before the use and the record are written. -/
theorem placedEntry_accepted : (s.accepted p l g back).placedEntry w sup o = s.placedEntry w sup o := by
  simp only [placedEntry, (samePlacing_accepted s l p g back).shape]
  rfl

theorem placedSupply_accepted : (s.accepted p l g back).placedSupply w sup o = s.placedSupply w sup o := by
  have same := samePlacing_accepted s l p g back
  simp only [placedSupply, same.shape, same.supply, partyLoad_congr (same.parties w.line)]

end

theorem accepted_placed (settled : Settled s) (nobody : s.alloc.queue = []) (noTurn : ∀ v, (s.supply v).turn = none)
    (line : w.line = l) (program : w.program = g) :
    RungAtOnce l s p back w sup o ((s.accepted p l g back).place w sup o).finish := by
  subst line program
  have same := samePlacing_accepted s w.line p w.program back
  have free (v : Supply) : ((s.accepted p w.line w.program back).supply v).turn ≠ some w.line := by
    rw [same.supply, noTurn]
    simp
  have off := (takenOffRing_accepted s w.line p w.program back).trans (takenOffRing_place _ w sup o)
  have passed := off.passed settled
  have still := finish_failed (off.tap settled) fun y hy => by
    rw [queue_place, show (s.accepted p w.line w.program back).alloc.queue = [] from nobody] at hy
    cases hy
  refine ⟨?_, ?_, ?_, ?_, ?_, off.moves.sent.trans passed.sent, passed.only⟩
  · rw [still]
    exact (line_place_same _ w sup o).trans (by rw [line_accepted, enter_ringing_accepted])
  · rw [still]
    exact (entry_place_same _ w sup o).trans (by rw [placedEntry_accepted])
  · rw [still]
    exact (supply_place_of_no_turn free sup).trans (by rw [if_pos rfl, placedSupply_accepted])
  · rw [still]
    exact stamp_place _ w sup o
  · rw [still, place_frame]
    exact uses_accepted s w.line p w.program back

/-! ## Waiting (R111, R112) -/

/-- What an accepted RING that waits leaves. -/
structure RungToWait (l : LineNo) (s : State) (p : Port) (back : ReturnState) (w : WaitingRequest) (t : State) : Prop where
  line : t.line l = { (s.line l).enter .ringWait with holder := some p, returnState := some back }
  alloc : t.alloc = { s.alloc with queue := insertRequest (s.queued w) s.alloc.queue }
  entries : t.entries = s.entries
  others : ∀ k, k ≠ l → t.line k = s.line k
  uses : (t.program w.program).uses = (s.program w.program).uses + 1
  sent : SameSent s t
  only : OnlyRingChanges s t l

/-- The part in which an accepted RING waits. -/
theorem waitRing_accepted (line : w.line = l) :
    (s.accepted p l g back).waitRing w
      = ((s.accepted p l g back).enqueue w).setLine l ((acceptedRecord (s.line l) p back).enter .ringWait) := by
  subst line
  rw [waitRing, enter_eq, ← line_accepted]
  rfl

theorem samePlacing_waitRing (line : w.line = l) : SamePlacing s ((s.accepted p l g back).waitRing w) := by
  rw [waitRing_accepted line]
  refine ((samePlacing_accepted s l p g back).trans (samePlacing_enqueue _ w)).trans (samePlacing_setLine ?_)
  exact (congrArg LineRecord.parties (line_accepted s l p g back)).symm

theorem takenOffRing_waitRing (line : w.line = l) : TakenOffRing l s ((s.accepted p l g back).waitRing w) := by
  rw [waitRing_accepted line]
  subst line
  exact ((takenOffRing_accepted s _ p g back).trans (takenOffRing_enqueue _ w)).trans (takenOffRing_setLine _ _ _)

/-- An accepted RING with no request that finds a place waits. -/
theorem accepted_waits (settled : Settled s) (line : w.line = l) (program : w.program = g)
    (others : ∀ y ∈ s.alloc.queue, s.attempt y = .failed) (failed : s.attempt w = .failed) :
    RungToWait l s p back w ((s.accepted p l g back).waitRing w).finish := by
  have off := takenOffRing_waitRing (s := s) (p := p) (g := g) (back := back) line
  have passed := off.passed settled
  have queue : ((s.accepted p l g back).waitRing w).alloc.queue = insertRequest (s.queued w) s.alloc.queue := rfl
  have still := finish_failed (off.tap settled) fun y hy => by
    rw [(samePlacing_waitRing line).attempt]
    rw [queue, mem_insertRequest_iff] at hy
    rcases hy with rfl | hy
    · exact (attempt_request_congr rfl rfl rfl).trans failed
    · exact others y hy
  have acts := waitRing_accepted (s := s) (p := p) (g := g) (back := back) line
  refine ⟨?_, ?_, ?_, fun k other => ?_, ?_, off.moves.sent.trans passed.sent, passed.only⟩
  · rw [still, acts]
    exact (line_setLine_same _ _ _).trans (enter_ringWait_accepted _ p back)
  · rw [still]
    rfl
  · rw [still]
    rfl
  · rw [still]
    exact off.moves.line k (by simpa using other)
  · rw [still, program]
    exact uses_accepted s l p g back

/-! ## On a grounded line (R108) -/

/-- What an accepted RING on a grounded line leaves. -/
structure RungToGround (l : LineNo) (s : State) (p : Port) (back : ReturnState) (w : WaitingRequest) (t : State) : Prop where
  line : (t.line l).state = if back = .cleared then .cleared else .idle
  alloc : t.alloc = s.alloc
  entry : t.entry l = s.entry l
  program : t.program w.program = s.program w.program
  sent : SameSent s t
  queues : QueuesExtend ((s.modLine l fun r => { r with holder := some p }).report l
    (.ringFailed .groundFault w.party w.program w.cycles)) t
  only : OnlyRingChanges s t l

theorem accepted_grounded (settled : Settled s) (nobody : s.alloc.queue = []) (noTurn : ∀ v, (s.supply v).turn = none)
    (line : w.line = l) (program : w.program = g) :
    RungToGround l s p back w ((s.accepted p l g back).groundFault w).finish := by
  subst line program
  have same := samePlacing_accepted s w.line p w.program back
  have left : (s.accepted p w.line w.program back).deleteRequest w = (s.accepted p w.line w.program back).dropUse w.program := by
    have gone := unqueue_of_no_turn (s := s.accepted p w.line w.program back) (l := w.line) fun v => by
      rw [same.supply, noTurn]
      simp
    have empty : (s.accepted p w.line w.program back).alloc.queue = [] := nobody
    rw [deleteRequest, gone, empty, List.filter_nil, ← empty]
    rfl
  have acts : (s.accepted p w.line w.program back).groundFault w
      = (((s.accepted p w.line w.program back).dropUse w.program).report w.line
          (.ringFailed .groundFault w.party w.program w.cycles)).toReturnState w.line := by
    rw [groundFault, left]
  have told : SameReports (s.modLine w.line fun r => { r with holder := some p })
      ((s.accepted p w.line w.program back).dropUse w.program) := ⟨rfl, rfl, rfl, rfl⟩
  have dropped : ((s.accepted p w.line w.program back).dropUse w.program).line w.line = acceptedRecord (s.line w.line) p back :=
    line_accepted s w.line p w.program back
  have reported := told.report (l := w.line) (by rw [dropped, line_modLine_same]; rfl)
    (.ringFailed .groundFault w.party w.program w.cycles)
  have uses : ((s.accepted p w.line w.program back).dropUse w.program).program w.program = s.program w.program := by
    simp [accepted, takeUse, dropUse]
  have off : TakenOffRing w.line s ((s.accepted p w.line w.program back).groundFault w) := by
    rw [acts, toReturnState_eq]
    exact (((takenOffRing_accepted s _ p _ back).trans (takenOffRing_setProgram _ _ _ _)).trans (takenOffRing_report _ _ _)).trans
      (takenOffRing_setLine _ _ _)
  have alloc : ((s.accepted p w.line w.program back).groundFault w).alloc = s.alloc := by
    rw [acts, queue_toReturnState, report_alloc]
    rfl
  have passed := off.passed settled
  have still := finish_failed (off.tap settled) fun y hy => by
    rw [alloc, nobody] at hy
    cases hy
  rw [acts] at off alloc passed still ⊢
  refine ⟨?_, ?_, ?_, ?_, off.moves.sent.trans passed.sent, ?_, passed.only⟩
  · rw [still, toReturnState_eq]
    refine (congrArg LineRecord.state (line_setLine_same _ _ _)).trans ?_
    simp only [returnRecord, line_report, dropped, acceptedRecord]
    cases back <;> rfl
  · rw [still]
    exact alloc
  · rw [still, toReturnState_eq, report_frame]
    rfl
  · rw [still, toReturnState_eq, report_frame]
    exact uses
  · exact queuesExtend_trans (queuesExtend_of_eq ((queues_toReturnState _ _).trans reported.queues)) passed.queues

/-! ## Placed past a request that fails (R114 to R116) -/

/-- The part after a placement has passed a request over, when the supply is a candidate of that request. -/
def placedPast (s : State) (x w : WaitingRequest) (sup : Supply) (o : Nat) : State :=
  if sup ∈ s.candidates x.line x.party then (s.place w sup o).passOver x.line else s.place w sup o

/-- The pass over a queue whose first request fails and whose second is placed. -/
theorem placementPass_past {x : WaitingRequest} (queue : s.alloc.queue = [x, w]) (apart : x.line ≠ w.line)
    (failed : s.attempt x = .failed) (placed : s.attempt w = .placed sup o) : s.placementPass = s.placedPast x w sup o := by
  have first : s.request x.line = some x := by simp [request, queue]
  have second : s.request w.line = some w := by simp [request, queue, apart]
  rw [placementPass, queue, List.map_cons, List.map_cons, List.map_nil, passWalk_cons_failed first failed, List.nil_append,
    passWalk_cons_placed second placed, placedPast]
  by_cases mem : sup ∈ s.candidates x.line x.party <;> simp [passWalk, passOverAll, mem]

theorem runPasses_of_not_due (n : Nat) (h : s.passDue = false) : runPasses (n + 1) s = s := by simp [runPasses, h]

/-- What a placement past the request `x` leaves, where nobody else waits. -/
structure Past (s : State) (x w : WaitingRequest) (sup : Supply) (o : Nat) (t : State) : Prop where
  frame : t = { s.place w sup o with alloc := t.alloc }
  supply : ∀ u, t.supply u = { (s.place w sup o).supply u with turn := (t.supply u).turn }
  counts : sup ∈ s.candidates x.line x.party → t.alloc.queue = [{ x with passOvers := x.passOvers + 1 }]
  same : sup ∉ s.candidates x.line x.party → t.alloc.queue = [x]
  turn : ∀ u, (t.supply u).turn
    = if sup ∈ s.candidates x.line x.party ∧ x.passOvers + 1 = s.alloc.turnThreshold ∧ u ∈ s.partySupplies x.line x.party
        ∧ (s.supply u).turn = none then some x.line else (s.supply u).turn

theorem turn_place_of_no_turn (h : ∀ v, (s.supply v).turn ≠ some w.line) (v : Supply) :
    ((s.place w sup o).supply v).turn = (s.supply v).turn := by
  rw [place_of_no_turn h, ← turn_withEntry s w sup o]
  cases v <;> rfl

theorem threshold_place (s : State) (w : WaitingRequest) (sup : Supply) (o : Nat) :
    (s.place w sup o).alloc.turnThreshold = s.alloc.turnThreshold := by
  rw [place_steps, enter_eq, setLine_alloc, unqueue_eq, releaseTurn_eq, releaseTurn_eq]
  unfold loadPlaced
  generalize s.placedSupply w sup o = r
  cases sup <;> rfl

theorem past_placedPast {x : WaitingRequest} (queue : s.alloc.queue = [x, w]) (apart : x.line ≠ w.line)
    (noTurn : ∀ v, (s.supply v).turn ≠ some w.line) (below : x.passOvers < 255) : Past s x w sup o (s.placedPast x w sup o) := by
  have left : (s.place w sup o).alloc.queue = [x] := by
    rw [queue_place, queue]
    simp [apart]
  have turns := turn_place_of_no_turn (sup := sup) (o := o) noTurn
  unfold placedPast
  by_cases mem : sup ∈ s.candidates x.line x.party
  · rw [if_pos mem]
    obtain ⟨moves, turn⟩ := passOver_moves (request_of_alone left) below
    have counts := moves.queue
    have route (u : Supply) : u ∈ (s.place w sup o).partySupplies x.line x.party ↔ u ∈ s.partySupplies x.line x.party := by
      rw [partySupplies_congr]
      exact congrArg LineRecord.parties ((takenOffRing_place s w sup o).moves.line x.line (by simpa using apart))
    have supply := moves.supply
    refine ⟨?_, fun u => ?_, fun _ => ?_, fun out => absurd mem out, fun u => ?_⟩
    · rw [moves]
      rfl
    · refine (supply u).trans ?_
      cases u <;> rfl
    · rw [counts]
      simp [setWaiting, left, counted]
    · rw [turn, threshold_place, turns]
      simp only [route, mem, true_and]
  · rw [if_neg mem]
    exact ⟨rfl, fun _ => rfl, fun inside => absurd inside mem, fun _ => left, fun u => by rw [turns, if_neg fun c => mem c.1]⟩

/-- What an accepted RING leaves that is placed past the one request `x` that waited. -/
structure RungPast (l : LineNo) (s : State) (p : Port) (back : ReturnState) (x w : WaitingRequest) (sup : Supply) (o : Nat)
    (t : State) : Prop where
  line : t.line l = { (s.line l).enter .ringing with holder := some p, returnState := some back }
  entry : t.entry l = some (s.placedEntry w sup o)
  map : (t.supply sup).map = (s.placedSupply w sup o).map
  other : t.line x.line = s.line x.line
  counts : sup ∈ s.candidates x.line x.party → t.alloc.queue = [{ x with passOvers := x.passOvers + 1 }]
  same : sup ∉ s.candidates x.line x.party → t.alloc.queue = [x]
  turn : ∀ u, (t.supply u).turn
    = if sup ∈ s.candidates x.line x.party ∧ x.passOvers + 1 = s.alloc.turnThreshold ∧ u ∈ s.partySupplies x.line x.party
        ∧ (s.supply u).turn = none then some x.line else (s.supply u).turn
  sent : SameSent s t
  only : OnlyRingChanges s t l

theorem accepted_past {x : WaitingRequest} (settled : Settled s) (line : w.line = l)
    (alone : s.alloc.queue = [x]) (behind : (s.queued w).before x = false) (apart : x.line ≠ l)
    (noTurn : ∀ v, (s.supply v).turn ≠ some l) (failed : s.attempt x = .failed) (placed : s.attempt w = .placed sup o)
    (below : x.passOvers < 255) :
    RungPast l s p back x w sup o ((s.accepted p l g back).waitRing w).finish := by
  have off := takenOffRing_waitRing (s := s) (p := p) (g := g) (back := back) line
  have passed := off.passed settled
  have tap := off.tap settled
  have placing := samePlacing_waitRing (s := s) (p := p) (g := g) (back := back) line
  have due : ((s.accepted p l g back).waitRing w).passDue = true := rfl
  have queue : ((s.accepted p l g back).waitRing w).alloc.queue = [x, s.queued w] := by
    change insertRequest (s.queued w) s.alloc.queue = _
    rw [alone]
    simp [insertRequest, behind]
  have record : ((s.accepted p l g back).waitRing w).line l = (acceptedRecord (s.line l) p back).enter .ringWait := by
    rw [waitRing_accepted line]
    exact line_setLine_same _ _ _
  have kept : ((s.accepted p l g back).waitRing w).clock = s.clock ∧ ((s.accepted p l g back).waitRing w).alloc.lastStamp
      = s.alloc.lastStamp ∧ ((s.accepted p l g back).waitRing w).alloc.turnThreshold = s.alloc.turnThreshold := ⟨rfl, rfl, rfl⟩
  generalize (s.accepted p l g back).waitRing w = z at *
  obtain ⟨clock, stamp, threshold⟩ := kept
  have cleared := (placing.trans (upToPass_clear z).samePlacing)
  have queue' : ({ z with passDue := false } : State).alloc.queue = [x, s.queued w] := queue
  have here : (s.queued w).line = l := line
  have free (v : Supply) : (({ z with passDue := false } : State).supply v).turn ≠ some (s.queued w).line := by
    rw [cleared.supply, here]
    exact noTurn v
  have past := past_placedPast (sup := sup) (o := o) queue' (by rw [here]; exact apart) free below
  have ended : z.finish = ({ z with passDue := false } : State).placedPast x (s.queued w) sup o := by
    rw [finish_eq_settlePasses tap, settlePasses_due due,
      placementPass_past queue' (by rw [here]; exact apart) ((cleared.attempt x).trans failed)
        ((cleared.attempt _).trans ((attempt_request_congr rfl rfl rfl).trans placed))]
    refine runPasses_of_not_due _ ?_
    rw [past.frame]
    exact passDue_place_of_no_turn free
  rw [← ended] at past
  have route (n : Nat) : ({ z with passDue := false } : State).partySupplies x.line n = s.partySupplies x.line n :=
    partySupplies_congr (cleared.parties x.line) n
  have atEntry : ({ z with passDue := false } : State).placedEntry (s.queued w) sup o = s.placedEntry w sup o := by
    simp only [placedEntry, cleared.shape, queued]
    rw [clock, stamp]
  have atSupply : ({ z with passDue := false } : State).placedSupply (s.queued w) sup o = s.placedSupply w sup o := by
    simp only [placedSupply, cleared.shape, cleared.supply, queued, partyLoad_congr (cleared.parties w.line)]
  have moved := takenOffRing_place ({ z with passDue := false } : State) (s.queued w) sup o
  obtain ⟨frame, supply, counts, same, turn⟩ := past
  simp only [cleared.candidates, cleared.supply, route, threshold] at counts same turn
  refine ⟨?_, ?_, ?_, ?_, counts, same, turn, off.moves.sent.trans passed.sent, passed.only⟩
  · rw [frame]
    refine Eq.trans ?_ ((line_place_same ({ z with passDue := false } : State) (s.queued w) sup o).trans ?_)
    · rw [here]
      rfl
    · rw [here]
      exact (congrArg (fun r : LineRecord => r.enter .ringing) record).trans (enter_ringing_waited _)
  · rw [frame]
    refine Eq.trans ?_ ((entry_place_same ({ z with passDue := false } : State) (s.queued w) sup o).trans (by rw [atEntry]))
    rw [here]
    rfl
  · rw [supply sup, supply_place_of_no_turn free, if_pos rfl, atSupply]
  · rw [frame]
    refine (moved.moves.line x.line ?_).trans (off.moves.line x.line ?_)
    · rw [here]
      simpa using apart
    · simpa using apart

/-! ## The obligation -/

/-- A line with nothing recorded of ringing is the one that RING accepts. -/
theorem unqueued_of_accepted (agreed : Agreed s) (h : (s.line l).state = .idle ∨ (s.line l).state = .cleared) :
    s.entry l = none ∧ s.request l = none := by
  obtain ⟨entry, request, -⟩ := holdsNothing_of_agreed agreed (l := l) (by rcases h with h | h <;> rw [h] <;> rfl)
  exact ⟨entry, request⟩

/-! ### From the part as the request was taken, to the answer -/

theorem ringRequest_taken (s : State) (p : Port) (rest : List ReplyItem) (l : LineNo) (n : Nat) (g : ProgramNo) (c : Nat)
    (pri : Priority) : ringRequest (taken s p rest) p l n g c pri = ringRequest s p l n g c pri := by
  simp [ringRequest]

theorem samePlacing_taken (s : State) (p : Port) (rest : List ReplyItem) : SamePlacing s (taken s p rest) :=
  samePlacing_of_reports (taken_frame s p rest)

theorem RungAtOnce.of_taken (a : RungAtOnce l (taken s p rest) p back w sup o t) : RungAtOnce l s p back w sup o t := by
  have sent := (sameSent_taken s p rest).trans a.sent
  have only := onlyRingChanges_of_taken a.only
  have frame := taken_frame s p rest
  obtain ⟨line, entry, supply, stamp, uses, -, -⟩ := a
  generalize taken s p rest = u at *
  rw [frame] at line entry supply stamp uses
  exact ⟨line, entry, supply, stamp, uses, sent, only⟩

theorem RungToWait.of_taken (a : RungToWait l (taken s p rest) p back w t) : RungToWait l s p back w t := by
  have sent := (sameSent_taken s p rest).trans a.sent
  have only := onlyRingChanges_of_taken a.only
  have frame := taken_frame s p rest
  obtain ⟨line, alloc, entries, others, uses, -, -⟩ := a
  generalize taken s p rest = u at *
  rw [frame] at line alloc entries others uses
  exact ⟨line, alloc, entries, others, uses, sent, only⟩

theorem RungPast.of_taken {x : WaitingRequest} (a : RungPast l (taken s p rest) p back x w sup o t) :
    RungPast l s p back x w sup o t := by
  have sent := (sameSent_taken s p rest).trans a.sent
  have only := onlyRingChanges_of_taken a.only
  have frame := taken_frame s p rest
  obtain ⟨line, entry, map, other, counts, same, turn, -, -⟩ := a
  generalize taken s p rest = u at *
  rw [frame] at line entry map other counts same turn
  exact ⟨line, entry, map, other, counts, same, turn, sent, only⟩

theorem entry_of_entries (h : t.entries = s.entries) (k : LineNo) : t.entry k = s.entry k := by simp only [entry, h]

/-- The response to a RING whose line is in a state at the end of the event. -/
theorem sent_ring (sent : SameSent s t) {st : LineState} (state : (t.line l).state = st) :
    ((t.respond p 9#8 (.okWith [byteOf (t.line l).state.code])).port p).sent
      = (s.port p).sent ++ [responseFrame 9#8 (.okWith [byteOf st.code])] := by
  rw [respond_def_ports, state]
  exact congrArg (· ++ _) (sent p)

/-- Settles O52: the attempt at once has three outcomes, a RING behind others waits, and one that is placed past another passes it over;
each is an outcome of the part in which the use is taken and the record written. -/
theorem ringIsAttemptedAtOnce : Obligations.RingIsAttemptedAtOnce := by
  intro s p l party g n pri rest consistent asks test one enough ready light home
  obtain ⟨settled, agreed⟩ := consistent_iff.1 consistent
  have start := settled_taken settled p rest
  have accepts : (s.line l).ringCheck p = .ok (if (s.line l).state = .cleared then .cleared else .idle) := by
    rcases home with idle | ⟨cleared, holder, plain⟩
    · have none := (agreed.recordRight l).holder_none (by rw [idle]; rfl)
      exact LineRecord.ringCheck_accepts (LineRecord.heldElsewhere_eq_false (.inl none)) (.inl idle)
    · exact LineRecord.ringCheck_accepts (LineRecord.heldElsewhere_eq_false (.inr holder)) (.inr ⟨cleared, plain⟩)
  obtain ⟨noEntry, noRequest⟩ := unqueued_of_accepted agreed (l := l) (home.imp_right And.left)
  have answer := exec_ring_accepted asks test one enough ready light accepts
  have placing := samePlacing_taken s p rest
  rw [acceptRing_eq, ringRequest_taken, placing.attempt, taken_alloc] at answer
  dsimp only
  generalize hback : (if (s.line l).state = .cleared then ReturnState.cleared else .idle) = back at answer ⊢
  have line : (ringRequest s p l (party.val + 1) g n.toNat pri).line = l := rfl
  have program : (ringRequest s p l (party.val + 1) g n.toNat pri).program = g := rfl
  have noTurn (one : s.alloc.one.turn = none) (two : s.alloc.two.turn = none) (v : Supply) :
      ((taken s p rest).supply v).turn = none := by
    rw [supply_taken]
    cases v
    · exact one
    · exact two
  refine ⟨fun nobody one two => ⟨fun sup o placed => ?_, fun failed => ?_, fun grounded => ?_⟩,
    fun others allFailed failed => ?_, fun x sup o accounts alone behind failed placed below => ?_⟩
  · rw [if_pos nobody, placed, attemptedNow_placed] at answer
    have ring := (accepted_placed (s := taken s p rest) (p := p) (g := g) (back := back) (sup := sup) (o := o) start
      (by simpa using nobody) (noTurn one two) line program).of_taken
    generalize State.finish _ = t at answer ring
    refine ⟨_, answer, ?_, ?_, ?_, ?_, ?_, sent_ring (st := .ringing) ring.sent (congrArg LineRecord.state ring.line),
      onlyRingChanges_respond ring.only⟩
    all_goals rw [respond_frame]
    · exact ring.line
    · exact ring.entry
    · exact ring.supply
    · exact ring.stamp
    · exact ring.uses
  · rw [if_pos nobody, failed, attemptedNow_failed] at answer
    have ring := (accepted_waits (s := taken s p rest) (p := p) (g := g) (back := back) start line program
      (by simp [nobody]) ((placing.attempt _).trans failed)).of_taken
    generalize State.finish _ = t at answer ring
    refine ⟨_, answer, ?_, ?_, ?_, ?_, sent_ring (st := .ringWait) ring.sent (congrArg LineRecord.state ring.line),
      onlyRingChanges_respond ring.only⟩
    all_goals rw [respond_frame]
    · exact ring.line
    · refine (congrArg Allocator.queue ring.alloc).trans ?_
      rw [nobody]
      rfl
    · exact (entry_of_entries ring.entries l).trans noEntry
    · exact ring.uses
  · rw [if_pos nobody, grounded, attemptedNow_grounded] at answer
    have ring := accepted_grounded (s := taken s p rest) (p := p) (g := g) (back := back) start
      (by simpa using nobody) (noTurn one two) line program
    generalize State.finish _ = t at answer ring
    have state : (if back = .cleared then LineState.cleared else .idle)
        = if (s.line l).state = .cleared then LineState.cleared else .idle := by
      rw [← hback]
      split <;> rfl
    refine ⟨_, answer, ?_, ?_, ?_, ?_, sent_ring ((sameSent_taken s p rest).trans ring.sent) (ring.line.trans state), ?_,
      onlyRingChanges_respond (onlyRingChanges_of_taken ring.only)⟩
    · rw [respond_frame]
      exact ring.line.trans state
    · rw [respond_frame]
      exact ring.alloc.trans (taken_alloc s p rest)
    · rw [respond_frame]
      exact (ring.entry.trans (entry_taken s p rest l)).trans noEntry
    · rw [respond_frame]
      exact ring.program.trans (program_taken s p rest g)
    · exact queuesExtend_trans ring.queues (queuesExtend_of_eq (respond_queues _ _ _ _))
  · rw [if_neg others] at answer
    have ring := (accepted_waits (s := taken s p rest) (p := p) (g := g) (back := back) start line program
      (fun y hy => (placing.attempt y).trans (allFailed y (by simpa using hy))) ((placing.attempt _).trans failed)).of_taken
    generalize State.finish _ = t at answer ring
    refine ⟨_, answer, ?_, ?_, ?_, fun k other => ?_, ?_, sent_ring (st := .ringWait) ring.sent (congrArg LineRecord.state ring.line),
      onlyRingChanges_respond ring.only⟩
    all_goals rw [respond_frame]
    · exact ring.line
    · exact ring.alloc
    · exact ring.entries
    · exact ring.others k other
    · exact ring.uses
  · obtain ⟨-, -, -, -, turnsRight⟩ := accounts
    have free (v : Supply) : ((taken s p rest).supply v).turn ≠ some l := by
      rw [supply_taken]
      intro turn
      obtain ⟨y, waits, -⟩ := turnsRight v l turn
      rw [noRequest] at waits
      cases waits
    have apart : x.line ≠ l := by
      rintro rfl
      rw [request_of_alone alone] at noRequest
      cases noRequest
    rw [if_neg (by simp [alone])] at answer
    have ring := (accepted_past (s := taken s p rest) (p := p) (g := g) (back := back) start line (by simpa using alone) behind apart
      free ((placing.attempt x).trans failed) ((placing.attempt _).trans placed) below).of_taken
    generalize State.finish _ = t at answer ring
    refine ⟨_, answer, ?_, ?_, ?_, ?_, ?_, ?_, fun u => ?_, sent_ring (st := .ringing) ring.sent (congrArg LineRecord.state ring.line),
      onlyRingChanges_respond ring.only⟩
    all_goals rw [respond_frame]
    · exact ring.line
    · exact ring.entry
    · exact ring.map
    · exact ring.other
    · exact ring.counts
    · exact ring.same
    · exact ring.turn u

end Sys2Proof.Machine.State
end

section
/-! PROOFS. The order and the end of an eviction, and its load maps (R103, R118): for the obligation O59. -/

namespace Sys2Proof.Machine.State

open Sys2Proof.Safety

variable {s t u : State} {l k : LineNo} {e f : RingEntry} {sup : Supply} {n : Nat}

/-! ## The youngest entry on a supply (R107, R118) -/

/-- The entry is the youngest on the supply among those of the lines `ks`. -/
def YoungestAmong (s : State) (sup : Supply) (ks : List LineNo) : Option (LineNo × RingEntry) → Prop
  | none => ∀ k ∈ ks, ∀ f, s.entry k = some f → f.sup ≠ sup
  | some (l, e) => s.entry l = some e ∧ e.sup = sup ∧ ∀ k ∈ ks, ∀ f, s.entry k = some f → f.sup = sup → f.stamp ≤ e.stamp

theorem younger_elsewhere {best : Option (LineNo × RingEntry)} (h : ∀ f, s.entry k = some f → f.sup ≠ sup) :
    s.younger sup best k = best := by
  unfold younger
  split
  · rename_i f entry
    exact if_neg (by simpa using h f entry)
  · rfl

theorem younger_none (entry : s.entry k = some f) (on : f.sup = sup) : s.younger sup none k = some (k, f) := by
  simp [younger, entry, on]

theorem younger_some (entry : s.entry k = some f) (on : f.sup = sup) :
    s.younger sup (some (l, e)) k = if e.stamp < f.stamp then some (k, f) else some (l, e) := by
  simp [younger, entry, on]

/-- One line more is taken into account. -/
theorem YoungestAmong.younger {ks : List LineNo} {best : Option (LineNo × RingEntry)} (h : YoungestAmong s sup ks best)
    (k : LineNo) : YoungestAmong s sup (ks ++ [k]) (s.younger sup best k) := by
  by_cases on : ∃ f, s.entry k = some f ∧ f.sup = sup
  · obtain ⟨f, entry, on⟩ := on
    have here (m : LineNo) (d : RingEntry) (mem : m ∈ ks ++ [k]) (at_ : s.entry m = some d) : m ∈ ks ∨ d = f := by
      rcases List.mem_append.1 mem with mem | mem
      · exact .inl mem
      · rw [List.mem_singleton.1 mem, entry] at at_
        exact .inr (Option.some.inj at_).symm
    match best with
    | none =>
      rw [younger_none entry on]
      refine ⟨entry, on, fun m mem d at_ there => ?_⟩
      rcases here m d mem at_ with mem | rfl
      · exact absurd there (h m mem d at_)
      · exact le_rfl
    | some (l, e) =>
      obtain ⟨entry', on', oldest⟩ := h
      rw [younger_some entry on]
      split
      · rename_i less
        refine ⟨entry, on, fun m mem d at_ there => ?_⟩
        rcases here m d mem at_ with mem | rfl
        · exact (oldest m mem d at_ there).trans less.le
        · exact le_rfl
      · rename_i less
        refine ⟨entry', on', fun m mem d at_ there => ?_⟩
        rcases here m d mem at_ with mem | rfl
        · exact oldest m mem d at_ there
        · exact Nat.le_of_not_lt less
  · have off : ∀ f, s.entry k = some f → f.sup ≠ sup := fun f entry there => on ⟨f, entry, there⟩
    rw [younger_elsewhere off]
    match best with
    | none =>
      intro m mem d at_
      rcases List.mem_append.1 mem with mem | mem
      · exact h m mem d at_
      · rw [List.mem_singleton.1 mem] at at_
        exact off d at_
    | some (l, e) =>
      obtain ⟨entry', on', oldest⟩ := h
      refine ⟨entry', on', fun m mem d at_ there => ?_⟩
      rcases List.mem_append.1 mem with mem | mem
      · exact oldest m mem d at_ there
      · rw [List.mem_singleton.1 mem] at at_
        exact absurd there (off d at_)

theorem youngestAmong_foldl (s : State) (sup : Supply) (ks : List LineNo) :
    YoungestAmong s sup ks (ks.foldl (s.younger sup) none) := by
  induction ks using List.reverseRecOn with
  | nil => exact fun k mem => absurd mem List.not_mem_nil
  | append_singleton ks k ih =>
    rw [List.foldl_concat]
    exact ih.younger k

theorem mem_allLines (k : LineNo) : k ∈ allLines := by
  simp only [allLines, List.mem_map, List.mem_range]
  exact ⟨k.val, k.isLt, Fin.ofNat_val_eq_self k⟩

theorem youngestAmong_youngestOn (s : State) (sup : Supply) : YoungestAmong s sup allLines (s.youngestOn sup) :=
  youngestAmong_foldl s sup allLines

theorem none_on_of_youngestOn (h : s.youngestOn sup = none) : ∀ k f, s.entry k = some f → f.sup ≠ sup := by
  have spec := youngestAmong_youngestOn s sup
  rw [h] at spec
  exact fun k => spec k (mem_allLines k)

theorem youngest_of_youngestOn (h : s.youngestOn sup = some (l, e)) :
    s.entry l = some e ∧ e.sup = sup ∧ ∀ k f, s.entry k = some f → f.sup = sup → f.stamp ≤ e.stamp := by
  have spec := youngestAmong_youngestOn s sup
  rw [h] at spec
  obtain ⟨entry, on, oldest⟩ := spec
  exact ⟨entry, on, fun k => oldest k (mem_allLines k)⟩

/-- An entry with a stamp above every other one's on the supply is the youngest. -/
theorem youngestOn_of_above (entry : s.entry l = some e) (on : e.sup = sup)
    (above : ∀ k f, s.entry k = some f → f.sup = sup → k ≠ l → f.stamp < e.stamp) : s.youngestOn sup = some (l, e) := by
  cases h : s.youngestOn sup with
  | none => exact absurd on (none_on_of_youngestOn h l e entry)
  | some best =>
    obtain ⟨k, f⟩ := best
    obtain ⟨entry', on', oldest⟩ := youngest_of_youngestOn h
    have le := oldest l e entry on
    by_cases same : k = l
    · subst same
      rw [entry] at entry'
      rw [Option.some.inj entry']
    · have lt := above k f entry' on' same
      omega

/-! ## How many entries a supply carries (R118, R123) -/

/-- The lines with an entry on a supply. -/
def linesOn (s : State) (sup : Supply) : Finset LineNo := Finset.univ.filter fun l => (s.entry l).any (·.sup = sup)

theorem mem_linesOn : l ∈ s.linesOn sup ↔ ∃ e, s.entry l = some e ∧ e.sup = sup := by
  simp [linesOn, Option.any_eq_true]

theorem card_linesOn_le (s : State) (sup : Supply) : (s.linesOn sup).card ≤ 64 :=
  (Finset.card_le_univ _).trans (by simp)

theorem entry_evictOne_same (entry : s.entry l = some e) : (s.evictOne l e).entry l = none := by
  cases finishing : e.finishing with
  | true =>
    rw [evictOne_finishing entry finishing, endRing_of_entry (e := e) (by simpa using entry)]
    exact entry_removeEntry_same _ l
  | false =>
    rw [evictOne_deferred finishing, report_frame]
    exact entry_removeEntry_same s l

theorem entry_evictOne_other (entry : s.entry l = some e) (other : k ≠ l) : (s.evictOne l e).entry k = s.entry k :=
  (takenOffRing_evictOne entry).moves.entry k (by simpa using other)

theorem linesOn_evictOne (entry : s.entry l = some e) : (s.evictOne l e).linesOn sup = (s.linesOn sup).erase l := by
  ext k
  rw [Finset.mem_erase, mem_linesOn, mem_linesOn]
  by_cases same : k = l
  · subst same
    simp [entry_evictOne_same entry]
  · simp [entry_evictOne_other entry same, same]

theorem card_linesOn_evictOne (entry : s.entry l = some e) (on : e.sup = sup) (few : (s.linesOn sup).card ≤ n + 1) :
    ((s.evictOne l e).linesOn sup).card ≤ n := by
  rw [linesOn_evictOne entry, Finset.card_erase_of_mem (mem_linesOn.2 ⟨e, entry, on⟩)]
  omega

theorem youngestOn_of_card_zero (h : (s.linesOn sup).card ≤ 0) : s.youngestOn sup = none := by
  cases y : s.youngestOn sup with
  | none => rfl
  | some best =>
    obtain ⟨l, e⟩ := best
    obtain ⟨entry, on, -⟩ := youngest_of_youngestOn y
    have mem := mem_linesOn.2 ⟨e, entry, on⟩
    rw [Finset.card_eq_zero.1 (Nat.le_zero.1 h)] at mem
    exact absurd mem (Finset.notMem_empty l)

/-! ## The steps of the loop (R118) -/

theorem evictLoop_within (h : (s.supply sup).peak ≤ (s.supply sup).current) : evictLoop sup n s = s := by
  cases n with
  | zero => rfl
  | succ n => exact if_pos h

theorem evictLoop_none (h : s.youngestOn sup = none) : evictLoop sup n s = s := by
  cases n with
  | zero => rfl
  | succ n =>
    unfold evictLoop
    rw [h]
    exact ite_self s

theorem evictLoop_succ (above : ¬(s.supply sup).peak ≤ (s.supply sup).current) (youngest : s.youngestOn sup = some (l, e)) :
    evictLoop sup (n + 1) s = evictLoop sup n (s.evictOne l e) := by
  rw [evictLoop, if_neg above, youngest]

/-- Fuel for the entries that the supply carries is fuel enough. -/
theorem evictLoop_fuel (few : (s.linesOn sup).card ≤ n) : evictLoop sup (n + 1) s = evictLoop sup n s := by
  induction n generalizing s with
  | zero =>
    have none := youngestOn_of_card_zero few
    rw [evictLoop_none none, evictLoop_none none]
  | succ n ih =>
    by_cases within : (s.supply sup).peak ≤ (s.supply sup).current
    · rw [evictLoop_within within, evictLoop_within within]
    · cases y : s.youngestOn sup with
      | none => rw [evictLoop_none y, evictLoop_none y]
      | some best =>
        obtain ⟨l, e⟩ := best
        obtain ⟨entry, on, -⟩ := youngest_of_youngestOn y
        rw [evictLoop_succ within y, evictLoop_succ within y]
        exact ih (card_linesOn_evictOne entry on few)

/-- The youngest entry goes first, and the eviction goes on. -/
theorem evict_eq (above : ¬(s.supply sup).peak ≤ (s.supply sup).current) (youngest : s.youngestOn sup = some (l, e)) :
    s.evict sup = (s.evictOne l e).evict sup := by
  obtain ⟨entry, on, -⟩ := youngest_of_youngestOn youngest
  rw [evict, evictLoop_succ above youngest, evict]
  exact (evictLoop_fuel (card_linesOn_evictOne entry on (card_linesOn_le s sup))).symm

/-! ## Load maps (R103, R118) -/

theorem foldl_max_le_iff {m b : Nat} {xs : List Nat} : xs.foldl max m ≤ b ↔ m ≤ b ∧ ∀ x ∈ xs, x ≤ b := by
  induction xs generalizing m with
  | nil => simp
  | cons x xs ih =>
    rw [List.foldl_cons, ih, List.forall_mem_cons, max_le_iff, and_assoc]

theorem peak_le_iff {r : SupplyRecord} : r.peak ≤ r.current ↔ r.Within := by
  rw [SupplyRecord.peak, foldl_max_le_iff, SupplyRecord.Within]
  refine ⟨fun ⟨_, h⟩ x => h _ (by simp), fun h => ⟨Nat.zero_le _, fun m mem => ?_⟩⟩
  obtain ⟨i, hi, rfl⟩ := List.getElem_of_mem mem
  have small : i < 30 := by simpa using hi
  simpa using h ⟨i, small⟩

theorem map_loadFreed (s : State) (l : LineNo) (e : RingEntry) (v : Supply) (x : Fin 30) :
    ((s.loadFreed l e).supply v).map[x]
      = (s.supply v).map[x] - if e.sup = v ∧ (s.shape e.program).onAt e.offset x = true then s.partyLoad l e.party else 0 := by
  unfold loadFreed
  by_cases here : v = e.sup
  · subst here
    rw [supply_setSupply_same, SupplyRecord.getElem_lower]
    simp
  · rw [supply_setSupply_other _ _ _ _ here]
    simp [Ne.symm here]

theorem supply_of_alloc (h : t.alloc = s.alloc) (v : Supply) : t.supply v = s.supply v := by simp only [supply, h]

theorem supply_removeEntry (entry : s.entry l = some e) (v : Supply) : (s.removeEntry l).supply v = (s.loadFreed l e).supply v :=
  supply_of_alloc (by rw [removeEntry_loadFreed entry]) v

theorem supply_loadFreed_report (s : State) (l : LineNo) (e : RingEntry) (b : ReportBody) (v : Supply) :
    ((s.report l b).loadFreed l e).supply v = (s.loadFreed l e).supply v := by
  have frame := report_frame s l b
  generalize s.report l b = t at frame
  rw [frame]
  cases v <;> cases h : e.sup <;> simp only [loadFreed, h] <;> rfl

/-- An evicted entry takes its load off its supply, and no more. -/
theorem supply_evictOne (entry : s.entry l = some e) (v : Supply) : (s.evictOne l e).supply v = (s.loadFreed l e).supply v := by
  cases finishing : e.finishing with
  | true =>
    have reported : (s.report l (.ringStopped .finish e.party e.program e.cycles)).entry l = some e := by simpa using entry
    rw [evictOne_finishing entry finishing, endRing_of_entry reported, ← supply_loadFreed_report s l e
      (.ringStopped .finish e.party e.program e.cycles), ← supply_removeEntry reported]
    exact supply_of_alloc rfl v
  | false =>
    rw [evictOne_deferred finishing, supply_of_alloc (report_alloc _ _ _), ← supply_removeEntry entry]
    cases v <;> rfl

/-- The load of an evicted entry is off the map of its supply. -/
theorem map_evictOne (entry : s.entry l = some e) (v : Supply) (x : Fin 30) :
    ((s.evictOne l e).supply v).map[x] = (s.supply v).map[x] - loadOn s v x l := by
  have load : loadOn s v x l
      = if e.sup = v ∧ (s.shape e.program).onAt e.offset x = true then s.partyLoad l e.party else 0 := by
    simp only [loadOn, entry]
  rw [load, ← map_loadFreed, supply_evictOne entry]

/-- The shapes and the party entries stay. -/
theorem shape_evictOne (entry : s.entry l = some e) (g : ProgramNo) : (s.evictOne l e).shape g = s.shape g := by
  cases finishing : e.finishing with
  | true =>
    rw [evictOne_finishing entry finishing, endRing_of_entry (e := e) (by simpa using entry)]
    refine (shape_dropUse _ e.program g).trans ?_
    rw [shape_of_programs (by rw [removeEntry_frame] : (State.removeEntry _ l).programs = _), report_frame]
    rfl
  | false =>
    refine shape_of_programs ?_ g
    rw [evictOne_deferred finishing, report_frame, deferred, removeEntry_frame]
    rfl

theorem loadOn_evictOne_other (entry : s.entry l = some e) (other : k ≠ l) (v : Supply) (x : Fin 30) :
    loadOn (s.evictOne l e) v x k = loadOn s v x k := by
  have line := (takenOffRing_evictOne entry).moves.line k (by simpa using other)
  simp only [loadOn, entry_evictOne_other entry other, shape_evictOne entry]
  cases s.entry k with
  | none => rfl
  | some f => simp only [partyLoad_congr (congrArg LineRecord.parties line)]

theorem loadOn_evictOne_same (entry : s.entry l = some e) (v : Supply) (x : Fin 30) : loadOn (s.evictOne l e) v x l = 0 := by
  simp only [loadOn, entry_evictOne_same entry]

/-- The load maps go on adding up. -/
theorem loadMapsAddUp_evictOne (entry : s.entry l = some e) (h : LoadMapsAddUp s) : LoadMapsAddUp (s.evictOne l e) := by
  intro v x
  have before := List.sum_map_erase (loadOn s v x) (mem_allLines l)
  have after := List.sum_map_erase (loadOn (s.evictOne l e) v x) (mem_allLines l)
  have others : (allLines.erase l).map (loadOn (s.evictOne l e) v x) = (allLines.erase l).map (loadOn s v x) :=
    List.map_congr_left fun k mem => loadOn_evictOne_other entry ((allLines_nodup.mem_erase_iff.1 mem).1) v x
  rw [others, loadOn_evictOne_same entry, Nat.zero_add] at after
  rw [map_evictOne entry, h v x, ← before, ← after]
  omega

theorem loadMapsAddUp_evictLoop (h : LoadMapsAddUp s) : LoadMapsAddUp (evictLoop sup n s) := by
  induction n generalizing s with
  | zero => exact h
  | succ n ih =>
    unfold evictLoop
    split
    · exact h
    · split
      · rename_i l e youngest
        exact ih (loadMapsAddUp_evictOne (entry_of_youngestOn youngest) h)
      · exact h

/-- A supply that carries no entry has an empty map. -/
theorem within_of_none_on (maps : LoadMapsAddUp s) (h : ∀ k f, s.entry k = some f → f.sup ≠ sup) : (s.supply sup).Within := by
  intro x
  have zero : ∀ k, loadOn s sup x k = 0 := by
    intro k
    unfold loadOn
    split
    · rename_i f entry
      exact if_neg fun c => h k f entry c.1
    · rfl
  rw [maps sup x, List.sum_eq_zero]
  · exact Nat.zero_le _
  · simp [zero]

/-- The loop ends with every number of the map within the budget. -/
theorem within_evictLoop (maps : LoadMapsAddUp s) (few : (s.linesOn sup).card ≤ n) :
    ((evictLoop sup n s).supply sup).Within := by
  induction n generalizing s with
  | zero => exact within_of_none_on maps (none_on_of_youngestOn (youngestOn_of_card_zero few))
  | succ n ih =>
    by_cases within : (s.supply sup).peak ≤ (s.supply sup).current
    · rw [evictLoop_within within]
      exact peak_le_iff.1 within
    · cases y : s.youngestOn sup with
      | none =>
        rw [evictLoop_none y]
        exact within_of_none_on maps (none_on_of_youngestOn y)
      | some best =>
        obtain ⟨l, e⟩ := best
        obtain ⟨entry, on, -⟩ := youngest_of_youngestOn y
        rw [evictLoop_succ within y]
        exact ih (loadMapsAddUp_evictOne entry maps) (card_linesOn_evictOne entry on few)

theorem within_evict (maps : LoadMapsAddUp s) : ((s.evict sup).supply sup).Within :=
  within_evictLoop maps (card_linesOn_le s sup)

end Sys2Proof.Machine.State
end

section
/-! PROOFS. What an eviction leaves of each line (R118, R131, R132): for the obligation O59. -/

namespace Sys2Proof.Machine.State

open Sys2Proof.Safety

variable {s t u : State} {l k : LineNo} {e f : RingEntry} {sup : Supply} {n : Nat}

/-! ## One eviction at its own line -/

/-- What an evicted line is left with. -/
structure Gone (l : LineNo) (s : State) (e : RingEntry) (t : State) : Prop where
  relay : t.relay l = .released
  told : t.indicationsOf l = s.indicationsOf l ++ [.ringEnd]
  waits : e.finishing = false →
    t.line l = (s.line l).enter .ringWait ∧ t.request l = some (s.queued (e.toRequest l e.program))
  ends : e.finishing = true → t.line l = returnRecord s l ∧ t.request l = none

theorem find_insertRequest_same {w : WaitingRequest} {q : List WaitingRequest} (none : q.find? (·.line == w.line) = none) :
    (insertRequest w q).find? (·.line == w.line) = some w := by
  induction q with
  | nil => simp [insertRequest]
  | cons x q ih =>
    rw [List.find?_cons] at none
    split at none
    · cases none
    · rename_i apart
      unfold insertRequest
      split
      · simp
      · rw [List.find?_cons, apart]
        exact ih none

theorem waitLimit_removeEntry (s : State) (l : LineNo) : (s.removeEntry l).alloc.waitLimit = s.alloc.waitLimit := by
  cases entry : s.entry l with
  | none => rw [removeEntry_of_none entry]
  | some e =>
    rw [removeEntry_loadFreed entry]
    unfold loadFreed
    generalize (s.supply e.sup).lower _ _ _ = r
    cases e.sup <;> rfl

theorem waitLimit_evictOne (entry : s.entry l = some e) : (s.evictOne l e).alloc.waitLimit = s.alloc.waitLimit := by
  cases finishing : e.finishing with
  | true =>
    rw [evictOne_finishing entry finishing, endRing_of_entry (e := e) (by simpa using entry)]
    exact (waitLimit_removeEntry _ l).trans (congrArg Allocator.waitLimit (report_alloc _ _ _))
  | false =>
    rw [evictOne_deferred finishing, report_alloc]
    exact waitLimit_removeEntry s l

theorem gone_evictOne (entry : s.entry l = some e) (none : s.request l = none) : Gone l s e (s.evictOne l e) := by
  cases finishing : e.finishing with
  | true =>
    have reported : (s.report l (.ringStopped .finish e.party e.program e.cycles)).entry l = some e := by simpa using entry
    have told := indicationsOf_removeEntry_same reported
    have relay := relay_removeEntry_same (l := l) (s.report l (.ringStopped .finish e.party e.program e.cycles)) (by simp [entry])
    have request : ((s.report l (.ringStopped .finish e.party e.program e.cycles)).removeEntry l).request l = .none := by
      rw [removeEntry_frame]
      simpa [request] using none
    rw [evictOne_finishing entry finishing, endRing_of_entry reported]
    refine ⟨relay, told.trans ?_, fun h => by simp [finishing] at h, fun _ => ⟨line_setLine_same _ _ _, request⟩⟩
    rw [report_frame]
    rfl
  | false =>
    have told := indicationsOf_removeEntry_same entry
    have relay := relay_removeEntry_same (l := l) s (by simp [entry])
    have queued : (s.removeEntry l).queued (e.toRequest l e.program) = s.queued (e.toRequest l e.program) := by
      have now : (s.removeEntry l).now = s.now := by
        rw [removeEntry_frame]
        rfl
      simp only [State.queued, now, waitLimit_removeEntry]
    have queue : (s.removeEntry l).alloc.queue = s.alloc.queue := by rw [removeEntry_frame]
    have request : ((s.removeEntry l).enqueue (e.toRequest l e.program)).request l
        = some (s.queued (e.toRequest l e.program)) := by
      rw [State.request, enqueue_queue, queued, queue]
      exact find_insertRequest_same (w := s.queued (e.toRequest l e.program)) none
    rw [evictOne_deferred finishing]
    refine ⟨?_, ?_, fun _ => ⟨?_, ?_⟩, fun h => by simp [finishing] at h⟩
    · rw [report_frame]
      exact relay
    · rw [report_frame]
      exact told
    · rw [line_report]
      exact line_setLine_same _ _ _
    · rw [report_frame]
      exact request

/-! ## The loop -/

/-- A line stands as it did: its record, its request, its relay and its indications. -/
structure SameAt (l : LineNo) (s t : State) : Prop where
  line : t.line l = s.line l
  request : t.request l = s.request l
  relay : t.relay l = s.relay l
  told : t.indicationsOf l = s.indicationsOf l

theorem TakenOffRing.sameAt (a : TakenOffRing l s t) (other : k ≠ l) : SameAt k s t := by
  have apart : k ∉ [l] := by simpa using other
  exact ⟨a.moves.line k apart, a.moves.request k apart, a.moves.relay k apart, a.told k other⟩

theorem SameAt.trans (a : SameAt k s t) (b : SameAt k t u) : SameAt k s u :=
  ⟨b.line.trans a.line, b.request.trans a.request, b.relay.trans a.relay, b.told.trans a.told⟩

/-- Events at other lines after an eviction leave the line with what it has. -/
theorem Gone.after (a : Gone l s e t) (same : SameAt l t u) : Gone l s e u where
  relay := same.relay.trans a.relay
  told := same.told.trans a.told
  waits goes := by rw [same.line, same.request]; exact a.waits goes
  ends finishing := by rw [same.line, same.request]; exact a.ends finishing

/-- So do events at other lines before it. -/
theorem Gone.before (a : Gone l t e u) (same : SameAt l s t) (clock : t.clock = s.clock) (classes : t.classes = s.classes)
    (limit : t.alloc.waitLimit = s.alloc.waitLimit) : Gone l s e u where
  relay := a.relay
  told := by rw [a.told, same.told]
  waits goes := by
    obtain ⟨line, request⟩ := a.waits goes
    refine ⟨by rw [line, same.line], request.trans ?_⟩
    simp only [queued, now, clock, limit]
  ends finishing := by
    obtain ⟨line, request⟩ := a.ends finishing
    exact ⟨line.trans (returnRecord_congr same.line classes clock), request⟩

/-- No line has both an entry and a waiting request (R112). -/
def OneRing (s : State) : Prop := ∀ l, s.entry l ≠ none → s.request l = none

theorem oneRing_of_agrees (h : RingAgrees s) : OneRing s := by
  intro l entry
  obtain ⟨waits, rings, -⟩ := h l
  have state := rings.1 (Option.isSome_iff_ne_none.2 entry)
  rw [state] at waits
  simpa using waits

theorem oneRing_evictOne (entry : s.entry l = some e) (h : OneRing s) : OneRing (s.evictOne l e) := by
  intro k rung
  have other : k ≠ l := by
    rintro rfl
    exact rung (entry_evictOne_same entry)
  rw [entry_evictOne_other entry other] at rung
  rw [((takenOffRing_evictOne entry).sameAt other).request]
  exact h k rung

/-- `t` is `s` after entries have been evicted from the supply, youngest first. -/
structure EvictedFrom (sup : Supply) (s t : State) : Prop where
  entry : ∀ l, t.entry l = s.entry l ∨ (t.entry l = none ∧ ∃ e, s.entry l = some e ∧ e.sup = sup)
  kept : ∀ l, t.entry l = s.entry l → SameAt l s t
  order : ∀ l k e f, s.entry l = some e → s.entry k = some f → e.sup = sup → f.sup = sup → e.stamp < f.stamp →
    t.entry l = none → t.entry k = none
  gone : ∀ l e, s.entry l = some e → t.entry l = none → Gone l s e t

theorem EvictedFrom.refl (sup : Supply) (s : State) : EvictedFrom sup s s := by
  have stays {l : LineNo} {e : RingEntry} (entry : s.entry l = some e) : s.entry l ≠ none := by simp [entry]
  exact ⟨fun _ => .inl rfl, fun _ _ => ⟨rfl, rfl, rfl, rfl⟩, fun _ _ _ _ entry _ _ _ _ none => absurd none (stays entry),
    fun _ _ entry none => absurd none (stays entry)⟩

/-- The youngest entry is evicted before the others. -/
theorem EvictedFrom.evictOne (youngest : s.youngestOn sup = some (l, e)) (inv : OneRing s)
    (a : EvictedFrom sup (s.evictOne l e) t) : EvictedFrom sup s t := by
  obtain ⟨entry, on, oldest⟩ := youngest_of_youngestOn youngest
  have left := takenOffRing_evictOne entry
  have here := entry_evictOne_same entry
  have there (k : LineNo) (other : k ≠ l) := entry_evictOne_other entry other
  have none_here : t.entry l = none := by
    rcases a.entry l with same | ⟨none, -⟩
    · exact same.trans here
    · exact none
  refine ⟨fun k => ?_, fun k same => ?_, fun j k d f entry_j entry_k on_j on_k older none => ?_, fun k f entry_k none => ?_⟩
  · by_cases same : k = l
    · subst same
      exact .inr ⟨none_here, e, entry, on⟩
    · rw [← there k same]
      exact a.entry k
  · have other : k ≠ l := by
      rintro rfl
      rw [none_here, entry] at same
      cases same
    exact (left.sameAt other).trans (a.kept k (same.trans (there k other).symm))
  · by_cases same : k = l
    · rw [same]
      exact none_here
    · have other : j ≠ l := by
        rintro rfl
        have youngest := oldest k f entry_k on_k
        rw [entry] at entry_j
        rw [Option.some.inj entry_j] at youngest
        omega
      exact a.order j k d f ((there j other).trans entry_j) ((there k same).trans entry_k) on_j on_k older none
  · by_cases same : k = l
    · subst same
      rw [entry] at entry_k
      rw [← Option.some.inj entry_k]
      exact (gone_evictOne entry (inv k (by simp [entry]))).after (a.kept k (none_here.trans here.symm))
    · exact (a.gone k f ((there k same).trans entry_k) none).before (left.sameAt same) (by rw [left.frame]) (by rw [left.frame])
        (waitLimit_evictOne entry)

theorem evictedFrom_evictLoop (inv : OneRing s) : EvictedFrom sup s (evictLoop sup n s) := by
  induction n generalizing s with
  | zero => exact .refl sup s
  | succ n ih =>
    by_cases within : (s.supply sup).peak ≤ (s.supply sup).current
    · rw [evictLoop_within within]
      exact .refl sup s
    · cases y : s.youngestOn sup with
      | none =>
        rw [evictLoop_none y]
        exact .refl sup s
      | some best =>
        obtain ⟨l, e⟩ := best
        rw [evictLoop_succ within y]
        exact .evictOne y inv (ih (oneRing_evictOne (entry_of_youngestOn y) inv))

end Sys2Proof.Machine.State
end

section
/-! PROOFS. A new tap limit (R57, R58), and the taking of a plant state (R119, R146): the obligation O59. -/

namespace Sys2Proof.Machine

open Sys2Proof.Safety

/-- A line that is granted a tap again has the record of the first grant. -/
theorem grantedRecord_idem (r : LineRecord) : grantedRecord (grantedRecord r) = grantedRecord r := by
  simp [grantedRecord, LineRecord.enter, LineState.unheld, LineState.originating, State.orphan_off r (st := .dialTone) rfl]

/-- With every tap assigned all twelve are in use (R55). -/
theorem inUse_of_freeTap_none {t : TonePool} (h : t.freeTap = none) : t.inUse = 12 := by
  have used : ∀ x ∈ t.taps.toList, x.isSome = true := by
    intro x mem
    obtain ⟨i, hi, rfl⟩ := List.getElem_of_mem mem
    have small : i < 12 := by simpa using hi
    have some_ := State.freeTap_eq_none.1 h ⟨i, small⟩
    simpa [Option.isSome_iff_ne_none] using some_
  rw [TonePool.inUse, List.filter_eq_self.2 used]
  simp

namespace State

variable {s t u : State} {l k : LineNo} {e f : RingEntry} {sup : Supply} {n : Nat} {w : ToneWaiter} {ws : List ToneWaiter}

/-! ## The grants of a raised limit (R57, R58) -/

/-- A grant leaves the limits of the pool and the plant state that it has taken. -/
theorem grantHead_limits (s : State) :
    s.grantHead.tone.currentLimit = s.tone.currentLimit ∧ s.grantHead.tone.plant = s.tone.plant := by
  unfold grantHead
  split <;> exact ⟨rfl, rfl⟩

theorem grantLoop_limits (n : Nat) (s : State) :
    (grantLoop n s).tone.currentLimit = s.tone.currentLimit ∧ (grantLoop n s).tone.plant = s.tone.plant := by
  induction n generalizing s with
  | zero => exact ⟨rfl, rfl⟩
  | succ n ih =>
    unfold grantLoop
    split
    · obtain ⟨limit, plant⟩ := ih s.grantHead
      exact ⟨limit.trans s.grantHead_limits.1, plant.trans s.grantHead_limits.2⟩
    · exact ⟨rfl, rfl⟩

/-- The grants go on until nobody waits or the limit is reached. -/
theorem grantLoop_ends (top : s.tone.currentLimit ≤ 12) (long : s.tone.queue.length ≤ n) :
    (grantLoop n s).tone.queue = [] ∨ s.tone.currentLimit ≤ (grantLoop n s).tone.inUse := by
  induction n generalizing s with
  | zero => exact .inl (List.length_eq_zero_iff.1 (Nat.le_zero.1 long))
  | succ n ih =>
    by_cases still : s.tone.queue = [] ∨ s.tone.currentLimit ≤ s.tone.inUse
    · rwa [grantLoop_still _ still]
    · obtain ⟨waits, room⟩ := not_or.1 still
      have room := Nat.lt_of_not_le room
      obtain ⟨w, ws, queue⟩ := List.exists_cons_of_ne_nil waits
      obtain ⟨j, free⟩ : ∃ j, s.tone.freeTap = some j := by
        rw [← Option.ne_none_iff_exists']
        intro none
        have full := inUse_of_freeTap_none none
        omega
      have left : s.grantHead.tone.queue = ws := by
        rw [grantHead_eq queue free]
        rfl
      have limit := s.grantHead_limits.1
      rw [grantLoop_grants n waits room, ← limit]
      refine ih (by rw [limit]; exact top) ?_
      rw [left]
      rw [queue, List.length_cons] at long
      omega

theorem grantHead_granted (granted : s.line l = grantedRecord (s.line l)) : s.grantHead.line l = s.line l := by
  cases queue : s.tone.queue with
  | nil =>
    unfold grantHead
    rw [queue]
  | cons w ws =>
    cases free : s.tone.freeTap with
    | none => rw [grantHead_still free]
    | some j =>
      rw [grantHead_eq queue free]
      by_cases here : l = w.line
      · subst here
        exact (line_setLine_same _ _ _).trans granted.symm
      · exact line_setLine_other _ _ _ _ here

/-- A line that has been granted a tap keeps its record through the grants that follow. -/
theorem grantLoop_granted (n : Nat) (granted : s.line l = grantedRecord (s.line l)) : (grantLoop n s).line l = s.line l := by
  induction n generalizing s with
  | zero => rfl
  | succ n ih =>
    unfold grantLoop
    split
    · have same := grantHead_granted granted
      rw [ih (by rw [same]; exact granted), same]
    · rfl

/-- With room the head of the queue is granted the lowest free tap. -/
theorem grantAll_head {j : Fin 12} (queue : s.tone.queue = w :: ws) (room : s.tone.inUse < s.tone.currentLimit)
    (free : s.tone.freeTap = some j) :
    s.grantAll.line w.line = grantedRecord (s.line w.line) ∧ s.grantAll.tone.taps[j] = some w.line := by
  have first : s.grantHead.line w.line = grantedRecord (s.line w.line) := by
    rw [grantHead_eq queue free]
    exact line_setLine_same _ _ _
  have tap : s.grantHead.tone.taps[j] = some w.line := by
    rw [grantHead_eq queue free]
    exact Vector.getElem_set_self _
  have steps : s.grantAll = grantLoop ws.length s.grantHead := by
    rw [grantAll, queue, List.length_cons, grantLoop_grants _ (by rw [queue]; exact List.cons_ne_nil _ _) room]
  rw [steps]
  refine ⟨(grantLoop_granted _ (by rw [first, grantedRecord_idem])).trans first, ?_⟩
  obtain ⟨-, -, taps, -⟩ := grantLoop_after ws.length s.grantHead
  exact taps j w.line tap

theorem setTapLimit_rise (rise : s.tone.currentLimit < n) :
    s.setTapLimit n = (s.setTone { s.tone with currentLimit := n }).grantAll := if_pos rise

theorem setTapLimit_fall (fall : n ≤ s.tone.currentLimit) :
    s.setTapLimit n = s.setTone { s.tone with currentLimit := n } := if_neg (by simpa using fall)

theorem setTapLimit_limits (s : State) (n : Nat) :
    (s.setTapLimit n).tone.currentLimit = n ∧ (s.setTapLimit n).tone.plant = s.tone.plant := by
  by_cases rise : s.tone.currentLimit < n
  · rw [setTapLimit_rise rise]
    exact grantLoop_limits _ _
  · rw [setTapLimit_fall (by omega)]
    exact ⟨rfl, rfl⟩

/-! ## The Ring Allocator takes a plant state (R119) -/

/-- Evictions from the supplies whose budgets fell leave both maps within their budgets. -/
theorem within_evicted (maps : LoadMapsAddUp s) (before : ∀ v, (s.supply v).Within) (v : Supply) : (s.evicted.supply v).Within := by
  have start : LoadMapsAddUp s.selected := by
    intro v x
    rw [supply_selected]
    exact maps v x
  have raised (v : Supply) (stays : ¬(s.supply v).budgetFor s.alloc.plant < (s.supply v).current) : (s.selected.supply v).Within := by
    intro x
    rw [supply_selected]
    exact (before v x).trans (Nat.le_of_not_lt stays)
  have first := evicts_evictIf s.selected ((s.supply .one).budgetFor s.alloc.plant < (s.supply .one).current) .one
  have second := evicts_evictIf (s.selected.evictIf ((s.supply .one).budgetFor s.alloc.plant < (s.supply .one).current) .one)
    ((s.supply .two).budgetFor s.alloc.plant < (s.supply .two).current) .two
  cases v with
  | one =>
    refine (second.budgets.kept .one).within ?_
    unfold evictIf
    split
    · exact within_evict start
    · rename_i stays
      exact raised .one stays
  | two =>
    have maps' : LoadMapsAddUp
        (s.selected.evictIf ((s.supply .one).budgetFor s.alloc.plant < (s.supply .one).current) .one) := by
      unfold evictIf
      split
      · exact loadMapsAddUp_evictLoop start
      · exact start
    unfold evicted evictIf
    split
    · exact within_evict maps'
    · rename_i stays
      exact (first.budgets.kept .two).within (raised .two stays)

/-- A plant state that selects the budgets that stand changes nothing else. -/
theorem followBudgets_same (h : ∀ v, (s.supply v).budgetFor s.alloc.plant = (s.supply v).current) : s.followBudgets = s.selected := by
  have one : ¬(s.supply .one).current < (s.supply .one).current := lt_irrefl _
  have two : ¬(s.supply .two).current < (s.supply .two).current := lt_irrefl _
  have none : s.evicted = s.selected := by
    simp only [evicted, evictIf, h, if_neg one, if_neg two]
  rw [followBudgets_eq, none, h, h, decide_eq_false one, decide_eq_false two, Bool.or_self, Bool.or_false]

/-- The part as the Allocator has a plant state before it. -/
def givenPlant (s : State) (st : PlantState) (xs : List PlantState) : State :=
  { s with allocPlant := xs, alloc := { s.alloc with plant := st } }

theorem exec_ringAllocatorPlantChange {st : PlantState} {xs : List PlantState} (h : s.allocPlant = st :: xs) :
    exec .ringAllocatorPlantChange s = .next (s.givenPlant st xs).followBudgets.finish := by
  change execRingAllocatorPlantChange s = _
  simp only [execRingAllocatorPlantChange, h]
  rfl

/-- The part as the Tone Pool has a plant state before it. -/
def givenTonePlant (s : State) (st : PlantState) (xs : List PlantState) : State :=
  { s with tonePlant := xs, tone := { s.tone with plant := st } }

theorem exec_tapLimitChange {st : PlantState} {xs : List PlantState} (h : s.tonePlant = st :: xs) :
    exec .tapLimitChange s = .next ((s.givenTonePlant st xs).setTapLimit (s.tone.limitFor st)).finish := by
  change execTapLimitChange s = _
  simp only [execTapLimitChange, h]
  rfl

/-- What the Tone Pool leaves when it takes a plant state that selects a tap limit. -/
structure TonePlantTaken (s : State) (st : PlantState) (xs : List PlantState) (limit : Nat) (t : State) : Prop where
  frame : t = { s with lines := t.lines, tone := t.tone, tonePlant := xs }
  plant : t.tone.plant = st
  limits : t.tone.currentLimit = limit
  taps : ∀ (j : Fin 12) (l : LineNo), s.tone.taps[j] = some l → t.tone.taps[j] = some l
  fall : limit ≤ s.tone.currentLimit → t.tone.taps = s.tone.taps ∧ t.tone.queue = s.tone.queue ∧ t.lines = s.lines
  rise : s.tone.currentLimit < limit →
    t.tone.queue <:+ s.tone.queue ∧ (limit ≤ 12 → t.tone.queue = [] ∨ limit ≤ t.tone.inUse)
    ∧ ∀ w ws, ∀ k : Fin 12, s.tone.queue = w :: ws → s.tone.inUse < limit →
        s.tone.taps[k] = none → (∀ j : Fin 12, j < k → s.tone.taps[j] ≠ none) →
        t.line w.line = grantedRecord (s.line w.line) ∧ t.tone.taps[k] = some w.line

theorem tonePlantTaken (s : State) (st : PlantState) (xs : List PlantState) (limit : Nat) :
    TonePlantTaken s st xs limit ((s.givenTonePlant st xs).setTapLimit limit) := by
  obtain ⟨frame, -, taps, -⟩ := setTapLimit_after (s.givenTonePlant st xs) limit
  obtain ⟨limits, plant⟩ := setTapLimit_limits (s.givenTonePlant st xs) limit
  refine ⟨by rw [frame]; rfl, plant, limits, taps, fun fall => ?_, fun rise => ?_⟩
  · rw [setTapLimit_fall (s := s.givenTonePlant st xs) fall]
    exact ⟨rfl, rfl, rfl⟩
  · rw [setTapLimit_rise (s := s.givenTonePlant st xs) rise]
    exact ⟨grantLoop_queue _ _, fun top => grantLoop_ends top le_rfl,
      fun w ws k queue room free lower => grantAll_head queue room (freeTap_eq_some.2 ⟨free, lower⟩)⟩

/-- What the Ring Allocator leaves when it takes a plant state. -/
structure AllocPlantTaken (s : State) (st : PlantState) (xs : List PlantState) (t : State) : Prop where
  frame : t = { s with lines := t.lines, programs := t.programs, alloc := t.alloc, entries := t.entries, relays := t.relays,
                       indications := t.indications, queues := t.queues, ports := t.ports, allocPlant := xs }
  plant : t.alloc.plant = st
  current : ∀ v, (t.supply v).current = (s.supply v).budgetFor st
  still : ∀ k, s.entry k = none → s.request k = none → t.line k = s.line k
  within : LoadMapsAddUp s → BudgetsRight s → ∀ v, (t.supply v).Within
  queues : QueuesExtend (s.givenPlant st xs).evicted t
  same : (∀ v, (s.supply v).budgetFor st = (s.supply v).current) → t = (s.givenPlant st xs).selected

theorem supply_givenPlant (s : State) (st : PlantState) (xs : List PlantState) (v : Supply) :
    (s.givenPlant st xs).supply v = s.supply v := by cases v <;> rfl

theorem allocPlantTaken (settled : Settled s) (st : PlantState) (xs : List PlantState) :
    AllocPlantTaken s st xs (s.givenPlant st xs).followBudgets.finish := by
  have follows := followed_finish (s := s.givenPlant st xs) settled
  have supply := supply_givenPlant s st xs
  refine ⟨?_, ?_, fun v => ?_, follows.still, fun maps budgets v => ?_, follows.queues, fun same => ?_⟩
  · rw [follows.frame]
    rfl
  · exact follows.budgets.plant.trans (evicts_evicted _).budgets.plant
  · obtain ⟨-, -, current⟩ := follows.supply v
    rw [current, supply]
    rfl
  · refine (follows.budgets.kept v).within (within_evicted (fun u x => ?_) (fun u x => ?_) v)
    · rw [supply]
      exact maps u x
    · rw [supply]
      exact (budgets u).2 x
  · have stays : (s.givenPlant st xs).followBudgets = (s.givenPlant st xs).selected :=
      followBudgets_same fun v => by
        rw [supply]
        exact same v
    rw [stays]
    exact finish_settled settled

/-- Settles O59: the Allocator's change is the following of the budgets and the pass, the Tone Pool's is a new tap limit, and an eviction
is the removal of the youngest entry, again and again. -/
theorem blocksTakeThePlantState : Obligations.BlocksTakeThePlantState := by
  refine ⟨fun s st xs settled => ⟨fun queue => ?_, fun queue => ?_⟩, fun s sup agrees maps => ?_,
    fun s sup => (evicts_evict s sup).queues, fun s l e entry => ?_⟩
  · have took := allocPlantTaken settled st xs
    have frame := took.frame
    refine ⟨_, exec_ringAllocatorPlantChange queue, ?_, took.plant, fun v => (took.current v).trans ?_, took.still,
      fun _ accounts => ?_, ?_, fun same => (took.same fun v => ?_).trans ?_, frame⟩
    · rw [frame]
    · cases st <;> rfl
    · obtain ⟨maps, budgets, -⟩ := accounts
      exact took.within maps budgets
    · cases st <;> exact took.queues
    · refine Eq.trans ?_ (same v)
      cases st <;> rfl
    · cases st <;> rfl
  · have answer := exec_tapLimitChange queue
    rw [finish_settled (settled_setTapLimit (s := s.givenTonePlant st xs) settled _)] at answer
    have took := tonePlantTaken s st xs (s.tone.limitFor st)
    have frame := took.frame
    refine ⟨_, answer, ?_, took.plant, took.limits.trans ?_, took.taps, ?_, ?_, frame⟩
    · rw [frame]
    · cases st <;> rfl
    · cases st <;> exact took.fall
    · cases st <;> exact took.rise
  · have from_ := evictedFrom_evictLoop (sup := sup) (n := 64) (oneRing_of_agrees agrees)
    refine ⟨fun within => evictLoop_within (peak_le_iff.2 within), within_evict maps,
      fun l e ⟨x, above⟩ entry on youngest => evict_eq (fun within => ?_) (youngestOn_of_above entry on youngest),
      from_.entry, from_.order, fun l e entry none => ?_⟩
    · have small := peak_le_iff.1 within x
      omega
    · have gone := from_.gone l e entry none
      exact ⟨gone.relay, gone.told, gone.waits, gone.ends⟩
  · have made := reports_evictOne entry
    have body : s.report l (evictionReport e)
        = if e.finishing = true then s.report l (.ringStopped .finish e.party e.program e.cycles)
          else s.report l (.ringDeferred .evicted e.party e.program e.cycles) := apply_ite (s.report l) _ _ _
    rw [body] at made
    exact ⟨made.queues, made.ports⟩

end State

end Sys2Proof.Machine
end

section
/-! PROOFS. Answers to a ring, and the two requests that end or mark it (R9, R134, R135, R137, R138): the obligations O54 and O55. -/

namespace Sys2Proof.Machine.State

open Sys2Proof.Safety

variable {s : State} {p : Port} {l : LineNo} {e : RingEntry} {w : WaitingRequest} {rest : List ReplyItem}

/-! ## Answers (R9, R134, R135) -/

/-- The part with the ring of an answered line ended after the report `b`, and the line HELD with its handset off. -/
def answered (s : State) (l : LineNo) (b : ReportBody) : State :=
  (((s.setHook l .off).report l b).endRing l).enter l .held

theorem endRing_of_request (none : s.entry l = none) (waits : s.request l = some w) : s.endRing l = s.deleteRequest w := by
  simp only [endRing, none, waits]

/-- A lift on a RINGING line is an answer with the qualification and the step kind it carried (R134). -/
theorem lifted_of_entry (agreed : Agreed s) (entry : s.entry l = some e) (q : Qualification) (kind : Option StepKind) :
    s.lifted l q kind = s.answered l (.answer e.party (some e.sup) e.program q kind e.cycles) := by
  have rung : (s.setHook l .off).entry l = some e := entry
  have acts : s.lifted l q kind = (s.setHook l .off).answerRinging l q kind := by
    simp only [lifted, agreed.ringing_of_entry entry]
  rw [acts, answered, endRing_of_entry (e := e) (by simpa using rung)]
  simp only [answerRinging, rung]

/-- A lift on a RING_WAIT line is a pre-ring answer, which carries no step kind (R9, R135). -/
theorem lifted_of_request (agreed : Agreed s) (waits : s.request l = some w) (q : Qualification) (kind : Option StepKind) :
    s.lifted l q kind = s.answered l (.answer w.party none w.program q none w.cycles) := by
  have waiting : (s.setHook l .off).request l = some w := waits
  have unrung : (s.setHook l .off).entry l = none := agreed.entry_of_request waits
  have acts : s.lifted l q kind = (s.setHook l .off).preRingAnswer l q := by
    simp only [lifted, agreed.ringWait_of_request waits]
  rw [acts, answered, endRing_of_request (w := w) (by simpa using unrung) (by simpa using waiting)]
  simp only [preRingAnswer, waiting]

theorem line_answered (s : State) (l : LineNo) (b : ReportBody) :
    (s.answered l b).line l = { (s.line l).enter .held with hook := .off } := by
  rw [answered, enter_eq, line_setLine_same, line_of_lines (endRing_lines _ _), line_report, line_setHook]
  rfl

theorem takenOffRing_answered (s : State) (l : LineNo) (b : ReportBody) : TakenOffRing l s (s.answered l b) :=
  ((takenOffRing_setLine s l _).trans (takenOffRing_report _ l b)).trans
    ((takenOffRing_endRing _ l).trans (takenOffRing_setLine _ l _))

theorem sameReports_answered (s : State) (l : LineNo) (b : ReportBody) : SameReports (s.report l b) (s.answered l b) := by
  have lifts : SameReports s (s.setHook l .off) := sameReports_setLine s l _
  exact (lifts.report (by rw [line_setHook]) b).trans ((sameReports_endRing _ l).trans (sameReports_setLine _ l _))

/-- What is left of an answered line at the end of the event. -/
theorem answered_finish {b : ReportBody} (settled : Settled s) (agreed : Agreed (s.answered l b)) :
    let t := (s.answered l b).finish
    (t.line l = { (s.line l).enter .held with hook := .off } ∧ (t.line l).holder = (s.line l).holder
      ∧ t.entry l = none ∧ t.request l = none ∧ t.relay l = .released ∧ OnlyRingChanges s t l)
    ∧ QueuesExtend (s.report l b) t := by
  have record := line_answered s l b
  have off := (takenOffRing_answered s l b).finish settled agreed (by rw [record]; rfl)
  have line := off.line.trans record
  exact ⟨⟨line, by rw [line]; rfl, off.entry, off.request, off.relay, off.only⟩,
    queuesExtend_trans (sameReports_answered s l b).extend off.queues⟩

/-- An OFF-HOOK lifts with no step kind, an ANSWER with the one it was qualified in. -/
theorem exec_lifts {es : List ScanEvent} {c : Instr} {how : Qualification} {kind : Option StepKind}
    (event : (c = .offHook l ∧ how = .offHook ∧ kind = none ∧ ∃ at_ run, s.eventsOf l = .offHook at_ run :: es)
      ∨ (c = .answer l ∧ ∃ at_ k run, kind = some k ∧ s.eventsOf l = .answer at_ how k run :: es)) :
    exec c s = .next ((s.setEvents l es).lifted l how kind).finish := by
  rcases event with ⟨rfl, rfl, rfl, at_, run, h⟩ | ⟨rfl, at_, k, run, rfl, h⟩
  · simp only [exec, execOffHook, h, dropEvent_of_eventsOf h]
  · simp only [exec, execAnswer, h, dropEvent_of_eventsOf h]

/-- Settles O54: a lift on a line with a ring reports ANSWER, ends the ring and leaves the line HELD. -/
theorem answerTakesTheLineToHeld : Obligations.AnswerTakesTheLineToHeld := by
  intro s l es c how kind consistent event
  dsimp only
  obtain ⟨settled, agreed⟩ := consistent_iff.1 consistent
  have free := settled_setEvents settled l es
  have kept : Agreed (s.setEvents l es) := agreed.of_eq
  have ends := kept.lifted l how kind
  refine ⟨fun e entry => ?_, fun w waits => ?_⟩
  · have acts := lifted_of_entry kept (l := l) entry how kind
    rw [acts] at ends
    exact ⟨_, (exec_lifts event).trans (by rw [acts]), answered_finish free ends⟩
  · have acts := lifted_of_request kept (l := l) waits how kind
    rw [acts] at ends
    exact ⟨_, (exec_lifts event).trans (by rw [acts]), answered_finish free ends⟩

/-! ## RING STOP and RING FINISH (R132, R137, R138) -/

section
variable (s : State) (p : Port) (l : LineNo)

theorem ringStop_ring (holder : (s.line l).holder = some p) (ring : (s.line l).state = .ringing ∨ (s.line l).state = .ringWait) :
    s.ringStop p l = ((s.stopRing l .stop).toReturnState l, .ok) := by
  rcases ring with ring | ring <;> simp [ringStop, holder, ring]

theorem ringStop_notHolder (holder : (s.line l).holder ≠ some p) : s.ringStop p l = (s, .refuse .notHolder) := by
  simp [ringStop, holder]

theorem ringStop_lineActive (holder : (s.line l).holder = some p) (unrung : (s.line l).state ≠ .ringing)
    (unqueued : (s.line l).state ≠ .ringWait) : s.ringStop p l = (s, .refuse .lineActive) := by
  rw [ringStop, if_neg (by simp [holder])]
  split
  · contradiction
  · contradiction
  · rfl

theorem ringFinish_ringing (holder : (s.line l).holder = some p) (ringing : (s.line l).state = .ringing)
    (entry : s.entry l = some e) : s.ringFinish p l = (s.setEntry l (some { e with finishing := true }), .ok) := by
  simp [ringFinish, holder, ringing, entry]

theorem ringFinish_ringWait (holder : (s.line l).holder = some p) (waits : (s.line l).state = .ringWait) :
    s.ringFinish p l = ((s.stopRing l .finish).toReturnState l, .ok) := by
  simp [ringFinish, holder, waits]

theorem ringFinish_notHolder (holder : (s.line l).holder ≠ some p) : s.ringFinish p l = (s, .refuse .notHolder) := by
  simp [ringFinish, holder]

theorem ringFinish_lineActive (holder : (s.line l).holder = some p) (unrung : (s.line l).state ≠ .ringing)
    (unqueued : (s.line l).state ≠ .ringWait) : s.ringFinish p l = (s, .refuse .lineActive) := by
  rw [ringFinish, if_neg (by simp [holder])]
  split
  · contradiction
  · contradiction
  · rfl

end

/-- A request that stops the ring of its line and puts the line into its return state, once it is answered. -/
theorem answered_in_returnState {kind : Nat} {act : State → Port → LineNo → State × Reply} {c : StopCause}
    (settled : Settled s) (agreed : Agreed s) (asks : Asks s p kind [byteOf l.val] rest) (small : kind < 256)
    (fits : bodyFits kind [byteOf l.val] = true) (may : permitted kind [byteOf l.val] p = true)
    (ring : (s.line l).state = .ringWait ∨ (s.line l).state = .ringing)
    (acts : act (taken s p rest) p l = (((taken s p rest).stopRing l c).toReturnState l, .ok)) :
    ∃ t, takeRequest kind p (State.onLine act) s = .next t ∧ t.line l = returnRecord s l ∧ t.entry l = none ∧ t.request l = none
      ∧ t.relay l = .released ∧ QueuesExtend (ringStopReport (taken s p rest) l c) t
      ∧ OnlyRingChanges s t l ∧ (t.port p).sent = (s.port p).sent ++ [responseFrame (byteOf kind) .ok] := by
  have stopped := takenOffRing_stopRing (taken s p rest) l c
  have same : returnRecord ((taken s p rest).stopRing l c) l = returnRecord s l :=
    (stopped.returnRecord_eq (line_stopRing _ l l c)).trans
      (returnRecord_congr (line_taken _ _ _ _) (by rw [taken_frame]) (by rw [taken_frame]))
  have returns : ((taken s p rest).stopRing l c).toReturnState l = ((taken s p rest).stopRing l c).setLine l (returnRecord s l) := by
    rw [toReturnState_eq, same]
  have ended := (agreed_taken agreed p rest).stopRing_return (l := l) (by simpa using ring) c
  rw [returns] at ended acts
  exact answered_off_ring settled asks small fits may acts ended (returnRecord_holdsNothing s l)

/-- Settles O55, by the branches of `ringStop` and of `ringFinish`. -/
theorem ringStopAndRingFinish : Obligations.RingStopAndRingFinish := by
  intro s p l rest consistent
  dsimp only
  obtain ⟨settled, agreed⟩ := consistent_iff.1 consistent
  have free := settled_taken settled p rest
  have line : (taken s p rest).line l = s.line l := line_taken _ _ _ _
  refine ⟨fun asks holder ring => ?_, fun e asks holder ringing entry => ?_, fun asks holder waits => ?_,
    fun asks holder => ?_, fun asks holder unrung unqueued => ?_, fun asks holder => ?_, fun asks holder unrung unqueued => ?_⟩
  · obtain ⟨t, answer, record, entry, request, relay, reports, only, sent⟩ :=
      answered_in_returnState settled agreed asks (by decide) rfl rfl ring.symm
        (ringStop_ring _ p l (by rwa [line]) (by rwa [line]))
    exact ⟨t, answer, record, entry, request, relay, only, reports, sent⟩
  · exact takeRequest_line asks (by decide) rfl rfl
      (ringFinish_ringing _ p l (by rwa [line]) (by rwa [line]) (by simpa using entry)) free
  · obtain ⟨t, answer, record, -, request, -, reports, only, sent⟩ :=
      answered_in_returnState settled agreed asks (by decide) rfl rfl (.inl waits)
        (ringFinish_ringWait _ p l (by rwa [line]) (by rwa [line]))
    exact ⟨t, answer, record, request, only, reports, sent⟩
  · exact takeRequest_line asks (by decide) rfl rfl (ringStop_notHolder _ p l (by rwa [line])) free
  · exact takeRequest_line asks (by decide) rfl rfl
      (ringStop_lineActive _ p l (by rwa [line]) (by rwa [line]) (by rwa [line])) free
  · exact takeRequest_line asks (by decide) rfl rfl (ringFinish_notHolder _ p l (by rwa [line])) free
  · exact takeRequest_line asks (by decide) rfl rfl
      (ringFinish_lineActive _ p l (by rwa [line]) (by rwa [line]) (by rwa [line])) free

end Sys2Proof.Machine.State
end

section
/-! PROOFS. The Plant Monitor's level words and its sense timer (R142 to R146): the obligation O58. -/

namespace Sys2Proof.Machine

/-! ## Runs and declarations (R144, R145) -/

/-- A run is there and its qualify time has passed since its start (R144). -/
def RunDone (run : Option Ms) (seconds : Nat) (t : Ms) : Prop := ∃ b, run = some b ∧ b + 1000 * seconds ≤ t

theorem runComplete_iff {run : Option Ms} {seconds : Nat} {t : Ms} :
    runComplete run seconds t = true ↔ RunDone run seconds t := by
  cases run <;> simp [runComplete, RunDone]

theorem runAfter_decide (run : Option Ms) (meets : Prop) [Decidable meets] (t : Ms) :
    runAfter run (decide meets) t = if meets then some (run.getD t) else none := by
  simp only [runAfter, decide_eq_true_eq]

namespace PlantMonitor

variable {p : PlantMonitor}

/-- The monitor with the level and the time of a good word recorded and the sense timer restarted (R142). -/
def heard (p : PlantMonitor) (level : Nat) (t : Ms) : PlantMonitor :=
  { p with lastLevel := some level, lastWordTime := some t, senseDeadline := some (t + Config.senseTime) }

/-- The monitor after a good word, before a declaration. -/
def afterWord (p : PlantMonitor) (level : Nat) (t : Ms) : PlantMonitor := (p.heard level t).applyRuns level t

/-- The monitor with its economy, shed and recovery runs as given. -/
def withRuns (p : PlantMonitor) (e d r : Option Ms) : PlantMonitor :=
  { p with economyRun := e, shedRun := d, recoveryRun := r }

theorem afterWord_of_normal (normal : p.state = .normal) (level : Nat) (t : Ms) :
    p.afterWord level t = (p.heard level t).withRuns
      (if level < p.limits.economyLevel then some (p.economyRun.getD t) else none)
      (if level < p.limits.shedLevel then some (p.shedRun.getD t) else none) none := by
  simp only [afterWord, applyRuns, heard, normal, runAfter_decide, withRuns]

theorem afterWord_of_economy (economy : p.state = .economy) (level : Nat) (t : Ms) :
    p.afterWord level t = (p.heard level t).withRuns none
      (if level < p.limits.shedLevel then some (p.shedRun.getD t) else none)
      (if p.limits.economyLevel + p.limits.hysteresis ≤ level then some (p.recoveryRun.getD t) else none) := by
  simp only [afterWord, applyRuns, heard, economy, runAfter_decide, withRuns]

theorem afterWord_of_shed (shed : p.state = .shed) (level : Nat) (t : Ms) :
    p.afterWord level t = (p.heard level t).withRuns none none
      (if p.limits.shedLevel + p.limits.hysteresis ≤ level then some (p.recoveryRun.getD t) else none) := by
  simp only [afterWord, applyRuns, heard, shed, runAfter_decide, withRuns]

/-- A good word records itself and moves the runs, and nothing else of the monitor. -/
theorem afterWord_runs (p : PlantMonitor) (level : Nat) (t : Ms) :
    ∃ e d r, p.afterWord level t = (p.heard level t).withRuns e d r := by
  cases state : p.state with
  | normal => exact ⟨_, _, _, afterWord_of_normal state level t⟩
  | economy => exact ⟨_, _, _, afterWord_of_economy state level t⟩
  | shed => exact ⟨_, _, _, afterWord_of_shed state level t⟩

theorem afterWord_state (p : PlantMonitor) (level : Nat) (t : Ms) : (p.afterWord level t).state = p.state := by
  obtain ⟨e, d, r, word⟩ := p.afterWord_runs level t
  rw [word]
  rfl

theorem declared_of_normal (normal : p.state = .normal) (e d r : Option Ms) (t : Ms) :
    (p.withRuns e d r).declared t = if runComplete d p.limits.shedQualify t then some (.shed, .shed)
      else if runComplete e p.limits.economyQualify t then some (.economy, .economy) else none := by
  simp only [declared, withRuns, normal]

theorem declared_of_economy (economy : p.state = .economy) (e d r : Option Ms) (t : Ms) :
    (p.withRuns e d r).declared t = if runComplete d p.limits.shedQualify t then some (.shed, .shed)
      else if runComplete r p.limits.recoveryTime t then some (.normal, .recovery) else none := by
  simp only [declared, withRuns, economy]

theorem declared_of_shed (shed : p.state = .shed) (e d r : Option Ms) (t : Ms) :
    (p.withRuns e d r).declared t
      = if runComplete r p.limits.recoveryTime t then some (.economy, .recovery) else none := by
  simp only [declared, withRuns, shed]

/-- The one declaration that keeps a run: the shed run goes on from NORMAL to ECONOMY. -/
theorem changeTo_keeps_shedRun (normal : p.state = .normal) (e d r : Option Ms) :
    (p.withRuns e d r).changeTo .economy = { p.withRuns none d none with state := .economy } := by
  simp [changeTo, withRuns, normal]

theorem changeTo_discards {new : PlantState} (other : ¬(p.state = .normal ∧ new = .economy)) (e d r : Option Ms) :
    (p.withRuns e d r).changeTo new = { p.withRuns none none none with state := new } := by
  simp [changeTo, withRuns, other]

end PlantMonitor

namespace State

variable {s : State} {w : LevelWord} {q : PlantMonitor} {new : PlantState} {run : PlantRun}

/-! ## Level words (R142 to R146) -/

theorem restoreSense_of_lost (lost : s.plant.senseLost = true) (level : Nat) :
    s.restoreSense level = (s.setPlant { s.plant with senseLost := false }).reportPresent
      (.plantSenseRestored level (s.plant.lastWordTime.map (s.now - ·)) s.plant.state) := by
  simp only [restoreSense, lost, if_true]

theorem restoreSense_of_sensed (sensed : s.plant.senseLost = false) (level : Nat) : s.restoreSense level = s := by
  simp [restoreSense, sensed]

theorem restoreSense_senseLost (s : State) (level : Nat) : (s.restoreSense level).plant.senseLost = false := by
  cases sense : s.plant.senseLost with
  | false => rwa [restoreSense_of_sensed sense]
  | true => rw [restoreSense_of_lost sense, reportPresent_plant, setPlant_plant]

theorem now_restoreSense (s : State) (level : Nat) : (s.restoreSense level).now = s.now := by
  cases sense : s.plant.senseLost with
  | false => rw [restoreSense_of_sensed sense]
  | true => rw [restoreSense_of_lost sense, now_reportPresent, now_setPlant]

/-- The loss is cleared before the word that ends it is applied (R143). -/
theorem goodWord_restoreSense (s : State) (level : Nat) : (s.restoreSense level).goodWord level = s.goodWord level := by
  unfold goodWord
  rw [restoreSense_of_sensed (restoreSense_senseLost s level)]

theorem plant_declarePlant (s : State) (level : Nat) : (s.declarePlant new level run).plant = s.plant.changeTo new := by
  simp [declarePlant]

theorem goodWord_of_sensed (sensed : s.plant.senseLost = false) (level : Nat) :
    s.goodWord level = ((s.plant.afterWord level s.now).declared s.now).elim (s.setPlant (s.plant.afterWord level s.now))
      fun d => (s.setPlant (s.plant.afterWord level s.now)).declarePlant d.1 level d.2 := by
  simp only [goodWord, restoreSense_of_sensed sensed, setPlant_plant, now_setPlant, PlantMonitor.afterWord, PlantMonitor.heard]
  split
  · rename_i declared
    rw [declared]
    rfl
  · rename_i undeclared
    rw [undeclared]
    rfl

/-- What every good word leaves behind: the sense is there, and the word and its time are recorded (R142, R143). -/
theorem goodWord_recorded (s : State) (level : Nat) :
    let p := (s.goodWord level).plant
    p.senseLost = false ∧ p.lastLevel = some level ∧ p.lastWordTime = some s.now
      ∧ p.senseDeadline = some (s.now + Config.senseTime) := by
  rw [← goodWord_restoreSense, goodWord_of_sensed (restoreSense_senseLost s level), ← now_restoreSense s level]
  have sensed := restoreSense_senseLost s level
  generalize s.restoreSense level = v at *
  obtain ⟨e, d, r, word⟩ := v.plant.afterWord_runs level v.now
  rw [word]
  cases PlantMonitor.declared _ v.now with
  | none => exact ⟨sensed, rfl, rfl, rfl⟩
  | some declaration =>
    rw [Option.elim_some, plant_declarePlant]
    exact ⟨sensed, rfl, rfl, rfl⟩

/-- The part after a declaration that leaves the monitor `q`: PLANT STATE is reported, and the new state is handed to the Ring
Allocator and to the Tone Pool (R146). -/
def declaring (s : State) (q : PlantMonitor) (new : PlantState) (level : Nat) (run : PlantRun) : State :=
  let v := (s.setPlant q).reportPresent (.plantState new s.plant.state level run)
  { v with allocPlant := v.allocPlant ++ [new], tonePlant := v.tonePlant ++ [new] }

theorem declarePlant_setPlant (same : q.state = s.plant.state) (new : PlantState) (level : Nat) (run : PlantRun) :
    (s.setPlant q).declarePlant new level run = s.declaring (q.changeTo new) new level run := by
  unfold declaring
  rw [← same]
  rfl

section
-- The monitor `h` after the word, with its economy run `e`, its shed run `d` and its recovery run `r`.
variable {h : PlantMonitor} {e d r : Option Ms} (good : w ≠ 1023#10)
include good

theorem exec_levelWord_good (s : State) : exec (.levelWord w) s = .next (s.goodWord w.toNat) := by
  simp only [exec, execLevelWord, good, if_false]

variable (sensed : s.plant.senseLost = false) (word : s.plant.afterWord w.toNat s.now = h.withRuns e d r)
include sensed word

/-- A good word with which no run completes leaves the runs begun, extended or ended (R144). -/
theorem exec_levelWord_keeps (undeclared : (h.withRuns e d r).declared s.now = none) :
    exec (.levelWord w) s = .next (s.setPlant (h.withRuns e d r)) := by
  rw [exec_levelWord_good good, goodWord_of_sensed sensed, word, undeclared]
  rfl

/-- A good word with which a run completes declares the state of that run (R145, R146). -/
theorem exec_levelWord_declares (declared : (h.withRuns e d r).declared s.now = some (new, run))
    (changed : (h.withRuns e d r).changeTo new = q) :
    exec (.levelWord w) s = .next (s.declaring q new w.toNat run) := by
  have same : (h.withRuns e d r).state = s.plant.state := word ▸ s.plant.afterWord_state w.toNat s.now
  rw [exec_levelWord_good good, goodWord_of_sensed sensed, word, declared, ← changed, ← declarePlant_setPlant same]
  rfl

/-- NORMAL: SHED is declared before ECONOMY, and ECONOMY keeps the shed run. -/
theorem levelWord_in_normal (normal : h.state = .normal) :
    let k := h.limits
    (¬RunDone d k.shedQualify s.now → ¬RunDone e k.economyQualify s.now →
        exec (.levelWord w) s = .next (s.setPlant (h.withRuns e d r)))
    ∧ (RunDone d k.shedQualify s.now →
        exec (.levelWord w) s = .next (s.declaring { h.withRuns none none none with state := .shed } .shed w.toNat .shed))
    ∧ (¬RunDone d k.shedQualify s.now → RunDone e k.economyQualify s.now →
        exec (.levelWord w) s
          = .next (s.declaring { h.withRuns none d none with state := .economy } .economy w.toNat .economy)) := by
  have declared := PlantMonitor.declared_of_normal normal e d r s.now
  refine ⟨fun unshed uneconomic => exec_levelWord_keeps good sensed word (declared.trans ?_),
    fun shed => exec_levelWord_declares good sensed word (declared.trans ?_) (PlantMonitor.changeTo_discards (by simp) _ _ _),
    fun unshed economic => exec_levelWord_declares good sensed word (declared.trans ?_)
      (PlantMonitor.changeTo_keeps_shedRun normal _ _ _)⟩
  · rw [if_neg (mt runComplete_iff.1 unshed), if_neg (mt runComplete_iff.1 uneconomic)]
  · rw [if_pos (runComplete_iff.2 shed)]
  · rw [if_neg (mt runComplete_iff.1 unshed), if_pos (runComplete_iff.2 economic)]

/-- ECONOMY: SHED is declared before NORMAL. -/
theorem levelWord_in_economy (economy : h.state = .economy) :
    let k := h.limits
    (¬RunDone d k.shedQualify s.now → ¬RunDone r k.recoveryTime s.now →
        exec (.levelWord w) s = .next (s.setPlant (h.withRuns e d r)))
    ∧ (RunDone d k.shedQualify s.now →
        exec (.levelWord w) s = .next (s.declaring { h.withRuns none none none with state := .shed } .shed w.toNat .shed))
    ∧ (¬RunDone d k.shedQualify s.now → RunDone r k.recoveryTime s.now →
        exec (.levelWord w) s
          = .next (s.declaring { h.withRuns none none none with state := .normal } .normal w.toNat .recovery)) := by
  have declared := PlantMonitor.declared_of_economy economy e d r s.now
  have discards (new : PlantState) := PlantMonitor.changeTo_discards (new := new)
    (fun ⟨normal, _⟩ => nomatch economy.symm.trans normal) e d r
  refine ⟨fun unshed unrecovered => exec_levelWord_keeps good sensed word (declared.trans ?_),
    fun shed => exec_levelWord_declares good sensed word (declared.trans ?_) (discards _),
    fun unshed recovered => exec_levelWord_declares good sensed word (declared.trans ?_) (discards _)⟩
  · rw [if_neg (mt runComplete_iff.1 unshed), if_neg (mt runComplete_iff.1 unrecovered)]
  · rw [if_pos (runComplete_iff.2 shed)]
  · rw [if_neg (mt runComplete_iff.1 unshed), if_pos (runComplete_iff.2 recovered)]

/-- SHED: only ECONOMY can be declared. -/
theorem levelWord_in_shed (shed : h.state = .shed) :
    let k := h.limits
    (¬RunDone r k.recoveryTime s.now → exec (.levelWord w) s = .next (s.setPlant (h.withRuns e d r)))
    ∧ (RunDone r k.recoveryTime s.now →
        exec (.levelWord w) s
          = .next (s.declaring { h.withRuns none none none with state := .economy } .economy w.toNat .recovery)) := by
  have declared := PlantMonitor.declared_of_shed shed e d r s.now
  refine ⟨fun unrecovered => exec_levelWord_keeps good sensed word (declared.trans ?_),
    fun recovered => exec_levelWord_declares good sensed word (declared.trans ?_)
      (PlantMonitor.changeTo_discards (fun ⟨normal, _⟩ => nomatch shed.symm.trans normal) _ _ _)⟩
  · rw [if_neg (mt runComplete_iff.1 unrecovered)]
  · rw [if_pos (runComplete_iff.2 recovered)]

end

/-! ## The sense timer (R143) -/

theorem exec_senseTimerExpiry_passed {deadline : Ms} (runs : s.plant.senseDeadline = some deadline)
    (passed : deadline ≤ s.now) :
    exec .senseTimerExpiry s = .next s.senseExpired := by
  simp only [exec, execSenseTimerExpiry, deadlinePassed, runs, decide_eq_true passed, if_true]

/-- Settles O58, by the plant state that a good word finds. -/
theorem plantFollowsItsLevelWords : Obligations.PlantFollowsItsLevelWords := by
  refine ⟨⟨fun s => rfl, fun s w good sensed => ⟨fun normal => ?_, fun economy => ?_, fun shed => ?_⟩⟩,
    fun s deadline runs passed => ?_, fun s w good lost => ⟨?_, ?_⟩⟩
  · exact levelWord_in_normal (h := s.plant.heard w.toNat s.now) good sensed
      (PlantMonitor.afterWord_of_normal normal _ _) normal
  · exact levelWord_in_economy (h := s.plant.heard w.toNat s.now) good sensed
      (PlantMonitor.afterWord_of_economy economy _ _) economy
  · exact levelWord_in_shed (h := s.plant.heard w.toNat s.now) good sensed
      (PlantMonitor.afterWord_of_shed shed _ _) shed
  · exact exec_senseTimerExpiry_passed runs passed
  · rw [exec_levelWord_good good, exec_levelWord_good good, ← restoreSense_of_lost lost, goodWord_restoreSense]
  · exact ⟨_, exec_levelWord_good good s, goodWord_recorded s w.toNat⟩

end State

end Sys2Proof.Machine
end

section
/-! PROOFS. A report queue and its marks, the copy of a report at a port, the routes of reports, and SET ROUTE (R163, R164, R165): the
obligations O15 and O16. -/

namespace Sys2Proof.Machine

open Sys2Proof.Safety

/-! ## Marks of a report queue (R165) -/

namespace ReportQueue

/-- The mark that a queue keeps for a line, or its shelf mark. -/
def isMarked (q : ReportQueue) : Option LineNo → Bool
  | some l => q.marks[l]
  | none => q.shelfMark

/-- The queue with that mark set or cleared. -/
def withMark (q : ReportQueue) (k : Option LineNo) (v : Bool) : ReportQueue :=
  match k with
  | some l => { q with marks := q.marks.set l v }
  | none => { q with shelfMark := v }

@[simp] theorem withMark_records (q : ReportQueue) (k : Option LineNo) (v : Bool) : (q.withMark k v).records = q.records := by
  cases k <;> rfl

@[simp] theorem isMarked_withMark_same (q : ReportQueue) (k : Option LineNo) (v : Bool) : (q.withMark k v).isMarked k = v := by
  cases k <;> simp [withMark, isMarked]

theorem isMarked_withMark_other (q : ReportQueue) {j k : Option LineNo} (v : Bool) (h : k ≠ j) :
    (q.withMark k v).isMarked j = q.isMarked j := by
  match k, j with
  | none, none => exact absurd rfl h
  | none, some _ | some _, none => rfl
  | some k, some j =>
    have apart : k.val ≠ j.val := fun e => h (congrArg some (Fin.ext e))
    simp [withMark, isMarked, apart]

end ReportQueue

namespace State

variable {s : State} {p q : Port} {r : Report} {l : LineNo}

/-! ## Queues and attention (R165) -/

theorem marked_eq (s : State) (p : Port) (k : Option LineNo) : s.marked p k = (s.queue p).isMarked k := by
  cases k <;> rfl

theorem setMark_eq (s : State) (p : Port) (k : Option LineNo) (v : Bool) :
    s.setMark p k v = s.setQueue p ((s.queue p).withMark k v) := by
  cases k <;> rfl

@[simp] theorem queue_setQueue_same (s : State) (p : Port) (n : ReportQueue) : (s.setQueue p n).queue p = n :=
  (queue_setQueue s p p n).trans (if_pos rfl)

theorem queue_setQueue_other (s : State) (n : ReportQueue) (h : q ≠ p) : (s.setQueue p n).queue q = s.queue q :=
  (queue_setQueue s p q n).trans (if_neg h)

@[simp] theorem port_setQueue_same (s : State) (p : Port) (n : ReportQueue) :
    (s.setQueue p n).port p = { s.port p with attention := !n.records.isEmpty } := by
  simp [setQueue]

theorem port_setQueue_other (s : State) (n : ReportQueue) (h : q ≠ p) : (s.setQueue p n).port q = s.port q := by
  simp [setQueue, h]

/-! ## The copy of a report at a port (R165) -/

theorem deliver_of_not_present (h : (s.port p).state ≠ .present) (r : Report) : s.deliver p r = s := by
  simp [deliver, present, h]

theorem deliver_of_marked (h : s.marked p r.line = true) : s.deliver p r = s := by
  simp [deliver, h]

theorem deliver_of_room (present : (s.port p).state = .present) (unmarked : s.marked p r.line = false)
    (room : (s.queue p).records.length < 48) : s.deliver p r = s.pushRecord p r := by
  simp [deliver, State.present, present, unmarked, Config.queueSize, room]

theorem deliver_of_full (present : (s.port p).state = .present) (unmarked : s.marked p r.line = false)
    (full : 48 ≤ (s.queue p).records.length) :
    s.deliver p r = s.setQueue p ((s.queue p).withMark r.line true) := by
  simp [deliver, State.present, present, unmarked, Config.queueSize, Nat.not_lt.2 full, setMark_eq]

/-- All that the taking of a copy can do. -/
theorem deliver_cases (s : State) (p : Port) (r : Report) :
    s.deliver p r = s
    ∨ ((s.queue p).records.length < 48 ∧ s.deliver p r = s.pushRecord p r)
    ∨ s.deliver p r = s.setQueue p ((s.queue p).withMark r.line true) := by
  by_cases present : (s.port p).state = .present
  · cases unmarked : s.marked p r.line with
    | true => exact .inl (deliver_of_marked unmarked)
    | false =>
      rcases Nat.lt_or_ge (s.queue p).records.length 48 with room | full
      · exact .inr (.inl ⟨room, deliver_of_room present unmarked room⟩)
      · exact .inr (.inr (deliver_of_full present unmarked full))
  · exact .inl (deliver_of_not_present present r)

/-- A copy for one port leaves the other ports and their queues. -/
theorem deliver_other (s : State) (r : Report) (h : q ≠ p) :
    (s.deliver p r).queue q = s.queue q ∧ (s.deliver p r).port q = s.port q := by
  rcases deliver_cases s p r with e | ⟨-, e⟩ | e <;> rw [e]
  · exact ⟨rfl, rfl⟩
  all_goals exact ⟨queue_setQueue_other s _ h, port_setQueue_other s _ h⟩

/-- A copy that finds the queue full is discarded, and sets the mark of its line or the shelf mark. -/
theorem marks_of_full (k : Option LineNo) (full : 48 ≤ (s.queue p).records.length) :
    let t := s.setQueue p ((s.queue p).withMark k true)
    t.marked p k = true ∧ (t.queue p).records = (s.queue p).records ∧ t.port p = { s.port p with attention := true }
    ∧ (∀ l, k ≠ some l → t.marked p (some l) = s.marked p (some l))
    ∧ (k ≠ none → t.marked p none = s.marked p none) := by
  have filled : (s.queue p).records ≠ [] := by
    intro e
    simp [e] at full
  simp only [marked_eq, queue_setQueue_same, port_setQueue_same, ReportQueue.withMark_records, ReportQueue.isMarked_withMark_same]
  refine ⟨trivial, trivial, by simp [filled], fun l other => ?_, fun other => ?_⟩
  all_goals exact ReportQueue.isMarked_withMark_other _ true other

/-! ## Routes (R163) -/

theorem routeOf_of_kind {k : Nat} {i : Fin 22} (h : k = 66 + i.val) : s.routeOf k = s.routes[i] := by
  have hi := i.isLt
  subst h
  simp [routeOf, List.getD_eq_getElem?_getD]

/-- A report about a line goes to the destinations that the route of its kind gives with the holder (R163). -/
theorem report_of_route {b : ReportBody} {i : Fin 22} {route : ReportRoute} {holder : Option Port} (kind : b.kind = 66 + i.val)
    (routed : s.routes[i] = route) (held : (s.line l).holder = holder) :
    s.report l b = s.deliverAll (route.destinations holder) ⟨some l, s.now, b⟩ := by
  rw [report, routeOf_of_kind kind, routed, held]

theorem destinations_holderAndM (h : q ≠ .M) : ReportRoute.holderAndM.destinations (some q) = [q, .M] := by
  cases q
  case M => exact absurd rfl h
  all_goals rfl

/-- Settles O15: the four cases of a copy, and the destinations of each route. -/
theorem reportsAreRoutedAndQueued : Obligations.ReportsAreRoutedAndQueued := by
  refine ⟨fun s p r => ⟨fun absent => ?_, deliver_of_marked, fun present unmarked room => ?_, fun present unmarked full => ?_,
    s.deliver_frame p r, fun q other => deliver_other s r other⟩, fun s l b i kind => ⟨fun route => ?_, fun route => ?_,
    fun q route held => ?_, fun route free => ?_, fun q route held other => ?_, fun route held => ?_⟩⟩
  · exact deliver_of_not_present absent r
  · rw [deliver_of_room present unmarked room, pushRecord]
    exact ⟨queue_setQueue_same _ _ _, by simp⟩
  · rw [deliver_of_full present unmarked full]
    exact marks_of_full r.line full
  · exact report_of_route kind route rfl
  · exact report_of_route kind route rfl
  · exact report_of_route kind route held
  · exact report_of_route kind route free
  · rw [report_of_route kind route held, destinations_holderAndM other]
    rfl
  · rcases held with held | held <;> exact report_of_route kind route held

/-! ## SET ROUTE (R164) -/

theorem reportRouteOf_byteOf (route : ReportRoute) : reportRouteOf (byteOf (reportRouteCode route)) = some route := by
  cases route <;> rfl

theorem reportRouteOf_none {b : Byte} (h : 3 < b.toNat) : reportRouteOf b = none := by
  unfold reportRouteOf
  split
  case h_5 => rfl
  all_goals omega

theorem setRoute_ok (s : State) (p : Port) (i : Fin 22) (route : ReportRoute) :
    s.setRoute p [byteOf (66 + i.val), byteOf (reportRouteCode route)] = ({ s with routes := s.routes.set i route }, .ok) := by
  have hi := i.isLt
  have kind : (byteOf (66 + i.val)).toNat = 66 + i.val := by simp; omega
  have range : inRange 66 87 (66 + i.val) = true := inRange_iff.2 (by omega)
  have written : s.routes.setIfInBounds i.val route = s.routes.set i route := by
    ext j hj
    rw [Vector.getElem_setIfInBounds, Vector.getElem_set]
  simp only [setRoute, kind, range, reportRouteOf_byteOf, Nat.add_sub_cancel_left, written]

theorem setRoute_badValue {k r : Byte} (bad : k.toNat < 66 ∨ 87 < k.toNat ∨ 3 < r.toNat) :
    s.setRoute p [k, r] = (s, .refuse .badValue) := by
  by_cases range : inRange 66 87 k.toNat = true
  · have code : 3 < r.toNat := by
      have := inRange_iff.1 range
      omega
    simp [setRoute, reportRouteOf_none code]
  · simp [setRoute, range]

/-- Settles O16, by the two answers of `setRoute`. -/
theorem setRouteWritesOneRoute : Obligations.SetRouteWritesOneRoute := by
  intro s p rest settled
  have start := settled_taken settled p rest
  refine ⟨fun i route asks => ?_, fun k r asks bad => ?_⟩
  · exact takeRequest_settled asks (by decide) rfl rfl (setRoute_ok _ p i route) start
  · exact takeRequest_settled asks (by decide) rfl rfl (setRoute_badValue bad) start

end State

end Sys2Proof.Machine
end

section
/-! PROOFS. Reports keep the report queues right and leave the reply orders (R151, R165): the events of the Tone Pool, the entries of a
line, and the ringing of the Allocator and the Sequencer, for the obligation O4. -/

namespace Sys2Proof.Machine.State

open Sys2Proof.Safety

variable {s t u : State} {p : Port} {l : LineNo}

/-! ## Events that only report -/

/-- Between the two the report queues and the attention outputs have stayed right (R165), and no reply order has moved (R151). -/
structure Reported (s t : State) : Prop where
  queues : ReportQueuesRight s → ReportQueuesRight t
  reply : ∀ p, (t.port p).reply = (s.port p).reply

theorem reported_refl (s : State) : Reported s s := ⟨id, fun _ => rfl⟩

theorem Reported.trans (a : Reported s t) (b : Reported t u) : Reported s u :=
  ⟨fun h => b.queues (a.queues h), fun p => (b.reply p).trans (a.reply p)⟩

/-- A change of other blocks than the Report Unit and the Control Ports. -/
theorem Reported.same (h : Reported s t) (queues : u.queues = t.queues) (ports : u.ports = t.ports) : Reported s u := by
  have queue (p : Port) : u.queue p = t.queue p := by cases p <;> simp [State.queue, queues]
  have port (p : Port) : u.port p = t.port p := by cases p <;> simp [State.port, ports]
  refine h.trans ⟨fun right p => ?_, fun p => by rw [port]⟩
  rw [queue, port]
  exact right p

theorem Reported.modLine (h : Reported s t) (l : LineNo) (f : LineRecord → LineRecord) : Reported s (t.modLine l f) :=
  h.same rfl rfl

theorem Reported.enter (h : Reported s t) (l : LineNo) (st : LineState) : Reported s (t.enter l st) := h.same rfl rfl

theorem Reported.startTimer (h : Reported s t) (l : LineNo) (q : TimerPurpose) (n : Nat) : Reported s (t.startTimer l q n) :=
  h.same rfl rfl

theorem Reported.sendCommand (h : Reported s t) (l : LineNo) (c : ScanCommand) : Reported s (t.sendCommand l c) := h.same rfl rfl

theorem Reported.setProgram (h : Reported s t) (g : ProgramNo) (e : ProgramEntry) : Reported s (t.setProgram g e) := h.same rfl rfl

theorem Reported.setEntry (h : Reported s t) (l : LineNo) (e : Option RingEntry) : Reported s (t.setEntry l e) := h.same rfl rfl

theorem Reported.enqueue (h : Reported s t) (w : WaitingRequest) : Reported s (t.enqueue w) := h.same rfl rfl

theorem Reported.setPlant (h : Reported s t) (m : PlantMonitor) : Reported s (t.setPlant m) := h.same rfl rfl

theorem Reported.setTone (h : Reported s t) (m : TonePool) : Reported s (t.setTone m) := h.same rfl rfl

theorem Reported.setAlloc (h : Reported s t) (a : Allocator) : Reported s { t with alloc := a } := h.same rfl rfl

theorem Reported.setSupply (h : Reported s t) (v : Supply) (r : SupplyRecord) : Reported s (t.setSupply v r) :=
  h.same (setSupply_queues t v r) (setSupply_ports t v r)

theorem Reported.foldl {α : Type} {f : State → α → State} (step : ∀ {t}, Reported s t → ∀ a, Reported s (f t a)) (h : Reported s t)
    (as : List α) : Reported s (as.foldl f t) := by
  induction as generalizing t with
  | nil => exact h
  | cons a as ih => exact ih (step h a)

theorem Reported.ite {c : Prop} {_ : Decidable c} (yes : Reported s t) (no : Reported s u) : Reported s (if c then t else u) := by
  split
  · exact yes
  · exact no

/-- The attention output follows a queue that is written (R165). -/
theorem Reported.setQueue (h : Reported s t) {n : ReportQueue} (few : (t.queue p).records.length ≤ 48 → n.records.length ≤ 48) :
    Reported s (t.setQueue p n) := by
  refine h.trans ⟨fun right q => ?_, fun q => ?_⟩ <;> by_cases e : q = p
  · subst e
    rw [queue_setQueue_same, port_setQueue_same]
    exact ⟨few (right q).1, rfl⟩
  · rw [queue_setQueue_other t n e, port_setQueue_other t n e]
    exact right q
  · subst e
    rw [port_setQueue_same]
  · rw [port_setQueue_other t n e]

/-- A change of a port's record that keeps its attention output and its reply order. -/
theorem Reported.modPort (h : Reported s t) {f : PortRecord → PortRecord} (attention : ∀ r, (f r).attention = r.attention)
    (reply : ∀ r, (f r).reply = r.reply) : Reported s (t.modPort p f) := by
  refine h.trans ⟨fun right q => ?_, fun q => ?_⟩ <;> by_cases e : q = p
  · subst e
    rw [port_modPort_same, attention, modPort_eq, queue_setPort]
    exact right q
  · rw [port_modPort_other t p q f e, modPort_eq, queue_setPort]
    exact right q
  · subst e
    rw [port_modPort_same, reply]
  · rw [port_modPort_other t p q f e]

theorem Reported.setMark (h : Reported s t) (p : Port) (k : Option LineNo) (v : Bool) : Reported s (t.setMark p k v) := by
  rw [setMark_eq]
  exact h.setQueue (by simp)

theorem Reported.pushRecord (h : Reported s t) {p : Port} (room : (t.queue p).records.length < 48) (r : Report) :
    Reported s (t.pushRecord p r) :=
  h.setQueue fun _ => by simpa using room

theorem Reported.deliver (h : Reported s t) (p : Port) (r : Report) : Reported s (t.deliver p r) := by
  rcases deliver_cases t p r with e | ⟨room, e⟩ | e <;> rw [e]
  · exact h
  · exact h.pushRecord room r
  · exact h.setQueue (by simp)

theorem Reported.deliverAll (h : Reported s t) (ps : List Port) (r : Report) : Reported s (t.deliverAll ps r) :=
  Reported.foldl (fun h p => h.deliver p r) h ps

theorem Reported.report (h : Reported s t) (l : LineNo) (b : ReportBody) : Reported s (t.report l b) := h.deliverAll _ _

theorem Reported.reportTo (h : Reported s t) (p : Port) (l : LineNo) (b : ReportBody) : Reported s (t.reportTo p l b) := h.deliver _ _

theorem Reported.reportPresent (h : Reported s t) (b : ReportBody) : Reported s (t.reportPresent b) := h.deliverAll _ _

theorem Reported.reportPortState (h : Reported s t) (p : Port) (n : PortState) (c : PortStateCause) :
    Reported s (t.reportPortState p n c) := h.deliverAll _ _

theorem Reported.refreshPresence (h : Reported s t) (p : Port) : Reported s (t.refreshPresence p) := by
  unfold State.refreshPresence
  dsimp only
  split
  · exact (h.modPort (by simp) (by simp)).reportPortState p .present .request
  · exact h.modPort (by simp) (by simp)

theorem Reported.respond (h : Reported s t) (p : Port) (k : Byte) (r : Reply) : Reported s (t.respond p k r) :=
  h.modPort (by simp) (by simp)

/-! ## The Tone Pool (R56, R57, R58) -/

theorem Reported.giveUpTone (h : Reported s t) (l : LineNo) : Reported s (t.giveUpTone l) :=
  h.same (by rw [giveUpTone_frame]) (by rw [giveUpTone_frame])

theorem Reported.askTone (h : Reported s t) (l : LineNo) : Reported s (t.askTone l) :=
  h.same (by rw [askTone_frame]) (by rw [askTone_frame])

theorem Reported.settleTone (h : Reported s t) : Reported s t.settleTone := by
  obtain ⟨v, ⟨grants, -⟩, eq⟩ := settleTone_after t
  rw [eq]
  exact h.same (by rw [grants]) (by rw [grants])

theorem Reported.setTapLimit (h : Reported s t) (n : Nat) : Reported s (t.setTapLimit n) := by
  obtain ⟨frame, -⟩ := setTapLimit_after t n
  exact h.same (by rw [frame]; rfl) (by rw [frame]; rfl)

/-! ## Entries of a line (R18, R50, R51, R52, R80, R83, R132) -/

theorem Reported.enterParked (h : Reported s t) (l : LineNo) (why : ParkReason) : Reported s (t.enterParked l why) := by
  unfold State.enterParked
  dsimp only
  split
  · exact (h.modLine l _).startTimer l _ _
  · exact h.modLine l _

theorem Reported.toReturnState (h : Reported s t) (l : LineNo) : Reported s (t.toReturnState l) :=
  h.same (queues_toReturnState t l) (ports_toReturnState t l)

theorem Reported.enterIdle (h : Reported s t) (l : LineNo) : Reported s (t.enterIdle l) := h.enter l .idle

theorem Reported.enterCleared (h : Reported s t) (l : LineNo) : Reported s (t.enterCleared l) := (h.modLine l _).startTimer l _ _

theorem Reported.offerTo (h : Reported s t) (l : LineNo) (stage : OfferStage) (p : Port) : Reported s (t.offerTo l stage p) :=
  h.same rfl rfl

theorem Reported.unparkToIdle (h : Reported s t) (l : LineNo) : Reported s (t.unparkToIdle l) := (h.enterIdle l).report l .lineUnparked

theorem Reported.abandonOffer (h : Reported s t) (l : LineNo) (c : AbandonCause) : Reported s (t.abandonOffer l c) := by
  unfold State.abandonOffer
  dsimp only
  split
  · exact h.reportTo _ l _
  · exact h

theorem Reported.parkFromOrigination (h : Reported s t) (l : LineNo) (why : ParkReason) (c : AbandonCause) :
    Reported s (t.parkFromOrigination l why c) :=
  (((h.giveUpTone l).abandonOffer l c).report l (.lineParked why)).enterParked l why

theorem Reported.sendOriginate (h : Reported s t) (l : LineNo) : Reported s (t.sendOriginate l) := by
  unfold State.sendOriginate
  dsimp only
  split
  · exact h.reportTo _ l _
  · exact h

theorem Reported.originate (h : Reported s t) (l : LineNo) : Reported s (t.originate l) := by
  unfold State.originate
  split
  · exact (h.enterParked l .noController).report l (.lineParked .noController)
  · exact ((((h.modLine l _).offerTo l _ _).askTone l).startTimer l _ _).sendOriginate l

theorem Reported.releaseCleared (h : Reported s t) (l : LineNo) : Reported s (t.releaseCleared l) := by
  unfold State.releaseCleared
  dsimp only
  split
  · exact (h.modLine l _).originate l
  · exact (h.modLine l _).enterIdle l

theorem Reported.advanceOffer (h : Reported s t) (l : LineNo) : Reported s (t.advanceOffer l) := by
  unfold State.advanceOffer
  dsimp only
  split
  · exact (h.offerTo l .alternate _).sendOriginate l
  · exact h.parkFromOrigination l .noController .noController

/-! ## The Ring Allocator (R106 to R116) -/

theorem Reported.takeTurns (h : Reported s t) (w : WaitingRequest) : Reported s (t.takeTurns w) :=
  h.same (queues_takeTurns t w) (ports_takeTurns t w)

theorem Reported.place (h : Reported s t) (w : WaitingRequest) (v : Supply) (o : Nat) : Reported s (t.place w v o) :=
  h.same (queues_place t w v o) (ports_place t w v o)

theorem Reported.deleteRequest (h : Reported s t) (w : WaitingRequest) : Reported s (t.deleteRequest w) :=
  h.same (queues_deleteRequest t w) (by rw [State.deleteRequest, unqueue_frame]; rfl)

theorem Reported.groundFault (h : Reported s t) (w : WaitingRequest) : Reported s (t.groundFault w) :=
  ((h.deleteRequest w).report w.line _).toReturnState w.line

theorem Reported.passOverAll (h : Reported s t) (v : Supply) (fs : List FailedRequest) : Reported s (passOverAll v fs t).1 :=
  h.same (queues_passOverAll v fs t) (ports_passOverAll v fs t)

theorem Reported.passWalk (h : Reported s t) (ks : List LineNo) (fs : List FailedRequest) : Reported s (passWalk ks fs t) := by
  induction ks generalizing fs t with
  | nil => exact h
  | cons k ks ih =>
    unfold State.passWalk
    split
    · exact ih h fs
    · split
      · exact ih ((h.place _ _ _).passOverAll _ fs) _
      · exact ih (h.groundFault _) fs
      · exact ih h _

theorem Reported.runPasses (h : Reported s t) (n : Nat) : Reported s (runPasses n t) := by
  induction n generalizing t with
  | zero => exact h.same rfl rfl
  | succ n ih =>
    unfold State.runPasses
    split
    · have started : Reported s { t with passDue := false } := h.same rfl rfl
      exact ih (started.passWalk _ [])
    · exact h

/-- The grants and passes at the end of an event (R57, R114). -/
theorem Reported.finish (h : Reported s t) : Reported s t.finish := h.settleTone.runPasses _

/-! ## The ending of a ring (R97, R113, R118, R131) -/

theorem Reported.removeEntry (h : Reported s t) (l : LineNo) : Reported s (t.removeEntry l) :=
  h.same (by rw [removeEntry_frame]) (by rw [removeEntry_frame])

theorem Reported.endEntry (h : Reported s t) (l : LineNo) (e : RingEntry) : Reported s (t.endEntry l e) :=
  (h.removeEntry l).setProgram e.program _

theorem Reported.endRing (h : Reported s t) (l : LineNo) : Reported s (t.endRing l) :=
  h.same (by rw [endRing_frame]) (by rw [endRing_frame])

theorem Reported.stopRing (h : Reported s t) (l : LineNo) (c : StopCause) : Reported s (t.stopRing l c) := by
  unfold State.stopRing
  split
  · exact (h.report l _).endRing l
  · exact h

theorem Reported.failRing (h : Reported s t) (l : LineNo) (c : RingFailure) : Reported s (t.failRing l c) := by
  unfold State.failRing
  split
  · exact (h.report l _).endRing l
  · exact h

theorem Reported.integrityFault (h : Reported s t) (g : ProgramNo) (i : Nat) : Reported s (t.integrityFault g i) := by
  unfold State.integrityFault
  dsimp only
  refine Reported.foldl (fun h x => (h.report x.line _).toReturnState x.line) ?_ _
  exact Reported.foldl (fun h x => h.endRing x.line) (h.setProgram g _) _

theorem Reported.evictOne (h : Reported s t) (l : LineNo) (e : RingEntry) : Reported s (t.evictOne l e) := by
  unfold State.evictOne
  split
  · exact (h.stopRing l .finish).toReturnState l
  · exact (((h.removeEntry l).enqueue _).enter l .ringWait).report l _

theorem Reported.evictLoop (h : Reported s t) (v : Supply) (n : Nat) : Reported s (evictLoop v n t) := by
  induction n generalizing t with
  | zero => exact h
  | succ n ih =>
    unfold State.evictLoop
    split
    · exact h
    · split
      · exact ih (h.evictOne _ _)
      · exact h

theorem Reported.selectBudget (h : Reported s t) (v : Supply) : Reported s (t.selectBudget v) :=
  h.setSupply v _

theorem Reported.evictIf (h : Reported s t) (c : Prop) [Decidable c] (v : Supply) : Reported s (t.evictIf c v) :=
  .ite (h.evictLoop v 64) h

theorem Reported.followBudgets (h : Reported s t) : Reported s t.followBudgets := by
  have evicted : Reported s t.evicted := (((h.selectBudget .one).selectBudget .two).evictIf _ .one).evictIf _ .two
  rw [followBudgets_eq]
  exact evicted.same rfl rfl

/-! ## The Ring Sequencer (R125 to R130) -/

theorem Reported.enterStep (h : Reported s t) (l : LineNo) (e : RingEntry) (i : Nat) : Reported s (t.enterStep l e i) := by
  unfold State.enterStep
  split
  · exact h.integrityFault e.program i
  · dsimp only
    split <;> exact h.same rfl rfl

theorem Reported.replaceRing (h : Reported s t) (l : LineNo) (w : WaitingRequest) : Reported s (t.replaceRing l w) := by
  unfold State.replaceRing
  split
  · exact h.place w _ _
  · exact h.groundFault w
  · exact ((h.enqueue w).enter l .ringWait).report l _

theorem Reported.followOnSwitch (h : Reported s t) (l : LineNo) (e : RingEntry) (f : ProgramNo) :
    Reported s (t.followOnSwitch l e f) := by
  unfold State.followOnSwitch
  split
  · exact (((h.setProgram f _).setProgram e.program _).removeEntry l).replaceRing l _
  · exact ((h.report l _).endEntry l e).toReturnState l

theorem Reported.cycleEnd (h : Reported s t) (l : LineNo) (e : RingEntry) : Reported s (t.cycleEnd l e) := by
  unfold State.cycleEnd
  dsimp only
  split
  · exact (((h.setEntry l _).report l _).endEntry l _).toReturnState l
  · split
    · exact ((h.setEntry l _).stopRing l .finish).toReturnState l
    · split
      · split
        · exact (h.setEntry l _).followOnSwitch l _ _
        · exact (h.setEntry l _).enterStep l _ 0
      · exact (h.setEntry l _).enterStep l _ 0

theorem Reported.afterFeed (h : Reported s t) (l : LineNo) (e : RingEntry) (x : CurrentStep) : Reported s (t.afterFeed l e x) := by
  unfold State.afterFeed
  split
  · exact h.cycleEnd l e
  · exact h.enterStep l e _

theorem Reported.endStep (h : Reported s t) (l : LineNo) (e : RingEntry) (x : CurrentStep) : Reported s (t.endStep l e x) := by
  unfold State.endStep
  split
  · exact h.afterFeed l e x
  · exact .ite (((h.setEntry l _).failRing l _).toReturnState l) ((h.setEntry l _).afterFeed l _ x)

theorem Reported.stepEnded (h : Reported s t) (l : LineNo) (e : RingEntry) : Reported s (t.stepEnded l e) := by
  unfold State.stepEnded
  split
  · exact h.enterStep l e 0
  · exact h.endStep l e _

end Sys2Proof.Machine.State
end

section
/-! PROOFS. Reports keep the report queues right and leave the reply orders (R151, R165): the events at a line record, the absence of a
port, the plant and the scanner, for the obligation O4. -/

namespace Sys2Proof.Machine.State

open Sys2Proof.Safety

variable {s t u : State} {p : Port} {l : LineNo}

/-! ## Lifts and answers (R2, R50, R134 to R136) -/

theorem Reported.answerRinging (h : Reported s t) (l : LineNo) (q : Qualification) (kind : Option StepKind) :
    Reported s (t.answerRinging l q kind) := by
  unfold State.answerRinging
  split
  · rename_i e _
    exact ((h.report l _).endEntry l e).enter l .held
  · exact h

theorem Reported.preRingAnswer (h : Reported s t) (l : LineNo) (q : Qualification) : Reported s (t.preRingAnswer l q) := by
  unfold State.preRingAnswer
  split
  · exact ((h.report l _).deleteRequest _).enter l .held
  · exact h

theorem Reported.lifted (h : Reported s t) (l : LineNo) (q : Qualification) (kind : Option StepKind) :
    Reported s (t.lifted l q kind) := by
  have hook : Reported s (t.setHook l .off) := h.modLine l _
  unfold State.lifted
  split
  case h_1 => exact h
  case h_2 => exact hook.originate l
  case h_8 => exact hook.preRingAnswer l q
  case h_9 => exact hook.answerRinging l q kind
  case h_10 | h_11 => exact hook.modLine l _
  all_goals exact hook

/-! ## Pulses and digits (R62 to R64, R73 to R75) -/

theorem Reported.startInterdigit (h : Reported s t) (l : LineNo) : Reported s (t.startInterdigit l) := h.startTimer l _ _

theorem Reported.startFirstDigit (h : Reported s t) (l : LineNo) : Reported s (t.startFirstDigit l) := h.startTimer l _ _

theorem Reported.restartInterdigit (h : Reported s t) (l : LineNo) : Reported s (t.restartInterdigit l) :=
  .ite (h.startInterdigit l) h

theorem Reported.pulsed (h : Reported s t) (l : LineNo) : Reported s (t.pulsed l) := by
  have dialled : Reported s ((t.giveUpTone l).enter l .digits) := (h.giveUpTone l).enter l .digits
  unfold State.pulsed
  split
  case h_3 => exact h.restartInterdigit l
  case h_4 => exact h.modLine l _
  case h_5 => exact h
  all_goals exact dialled.restartInterdigit l

theorem Reported.dialingDone (h : Reported s t) (l : LineNo) : Reported s (t.dialingDone l) :=
  (h.report l _).enter l .held

theorem Reported.digitToHolder (h : Reported s t) (l : LineNo) (d : Digit) : Reported s (t.digitToHolder l d) := by
  have counted (f : LineRecord → LineRecord) : Reported s ((t.report l (.digit d false)).modLine l f) :=
    (h.report l _).modLine l f
  exact .ite ((counted _).dialingDone l) ((counted _).restartInterdigit l)

theorem Reported.bufferDigit (h : Reported s t) (l : LineNo) (d : Digit) (n : Nat) : Reported s (t.bufferDigit l d n) :=
  .ite (h.modLine l _) (h.report l _)

theorem Reported.digitEnded (h : Reported s t) (l : LineNo) (o : DigitOutcome) (n : Nat) : Reported s (t.digitEnded l o n) := by
  unfold State.digitEnded
  split
  · exact .ite (h.digitToHolder l _) (h.bufferDigit l _ n)
  · exact (h.report l _).restartInterdigit l
  · exact h.report l _
  · exact h.report l _
  · exact (h.modLine l _).bufferDigit l _ n
  · exact (h.modLine l _).report l _
  · exact h

theorem Reported.badBroken (h : Reported s t) (l : LineNo) (start : Ms) (n : Nat) : Reported s (t.badBroken l start n) := by
  unfold State.badBroken
  split
  case h_3 => exact h
  all_goals exact h.report l _

/-! ## Flashes (R67, R72, R75) -/

theorem Reported.startRecall (h : Reported s t) (l : LineNo) (n : Nat) : Reported s (t.startRecall l n) :=
  ((h.modLine l _).startTimer l _ _).report l _

theorem Reported.restartDialling (h : Reported s t) (l : LineNo) (n : Nat) : Reported s (t.restartDialling l n) :=
  (((h.modLine l _).askTone l).startFirstDigit l).report l _

theorem Reported.flashed (h : Reported s t) (l : LineNo) (n : Nat) : Reported s (t.flashed l n) := by
  unfold State.flashed
  split
  · exact (h.startFirstDigit l).report l _
  · exact (h.startFirstDigit l).report l _
  · exact h.restartDialling l n
  · exact h.startRecall l n
  · exact h.startRecall l n
  · exact h

/-! ## Hang-ups (R18, R66, R73, R79, R80) -/

theorem Reported.clearCall (h : Reported s t) (l : LineNo) (n : Nat) : Reported s (t.clearCall l n) := by
  have cleared (b : ReportBody) : Reported s ((t.giveUpTone l).report l b) := (h.giveUpTone l).report l b
  exact .ite ((cleared _).enterCleared l) ((cleared _).enterIdle l)

theorem Reported.parkedHangUp (h : Reported s t) (l : LineNo) (start : Ms) : Reported s (t.parkedHangUp l start) :=
  .ite (h.unparkToIdle l) (h.modLine l _)

theorem Reported.hungUp (h : Reported s t) (l : LineNo) (start : Ms) (n : Nat) : Reported s (t.hungUp l start n) := by
  have hook : Reported s (t.setHook l .on) := h.modLine l _
  have originating : Reported s (if ((t.setHook l .on).line l).holder.isSome then (t.setHook l .on).clearCall l n
      else (((t.setHook l .on).giveUpTone l).abandonOffer l .onHook).enterIdle l) :=
    .ite (hook.clearCall l n) (((hook.giveUpTone l).abandonOffer l .onHook).enterIdle l)
  unfold State.hungUp
  split
  · exact h
  · exact originating
  · exact originating
  · exact originating
  · exact hook.clearCall l n
  · exact hook.clearCall l n
  · exact hook.modLine l _
  · exact hook.parkedHangUp l start
  all_goals exact hook

/-! ## Expiries (R61, R64, R65, R76, R81) -/

theorem Reported.firstDigitExpired (h : Reported s t) (l : LineNo) : Reported s (t.firstDigitExpired l) :=
  .ite (((h.giveUpTone l).report l _).enter l .held) (h.parkFromOrigination l .permanentSignal .permanentSignal)

theorem Reported.interdigitExpired (h : Reported s t) (l : LineNo) : Reported s (t.interdigitExpired l) :=
  .ite ((h.report l _).enter l .held) ((h.report l _).modLine l _)

theorem Reported.recallLapsed (h : Reported s t) (l : LineNo) : Reported s (t.recallLapsed l) :=
  (h.report l _).enter l .held

theorem Reported.toneDelayed (h : Reported s t) (l : LineNo) : Reported s (t.toneDelayed l) := (h.modLine l _).report l _

/-! ## Teardown and card events (R16, R22, R24, R25) -/

theorem Reported.freeLine (h : Reported s t) (l : LineNo) (c : TeardownCause) : Reported s (t.freeLine l c) := by
  have tone := h.giveUpTone l
  have emptied {v : State} (rung : Reported s v) : Reported s
      (((v.abandonOffer l .teardown).modLine l fun r => { r with digits := [], expected := 0 }).sendCommand l .discardPulseCount) :=
    ((rung.abandonOffer l .teardown).modLine l _).sendCommand l .discardPulseCount
  cases c with
  | cardLoss => exact emptied (tone.failRing l .lineLost)
  | park | remove => exact emptied (tone.stopRing l .maintenance)

theorem Reported.clearFields (h : Reported s t) (l : LineNo) : Reported s (t.clearFields l) := h.modLine l _

theorem Reported.enterOutOfService (h : Reported s t) (l : LineNo) (why : OosReason) : Reported s (t.enterOutOfService l why) :=
  h.modLine l _

theorem Reported.teardown (h : Reported s t) (l : LineNo) (c : TeardownCause) : Reported s (t.teardown l c) := by
  have freed := h.freeLine l c
  cases c with
  | park => exact ((freed.report l (.lineParked .maintenance)).clearFields l).enterParked l .maintenance
  | remove => exact ((freed.report l .lineLost).clearFields l).enterOutOfService l .admin
  | cardLoss => exact ((freed.report l .lineLost).clearFields l).enterOutOfService l .card

theorem Reported.forceReleased (h : Reported s t) (l : LineNo) : Reported s (t.forceReleased l) := by
  have freed := ((h.freeLine l .park).report l .releaseForced).clearFields l
  unfold State.forceReleased
  dsimp only
  exact .ite (freed.enterIdle l) (freed.enterParked l .maintenance)

theorem Reported.restoreService (h : Reported s t) (l : LineNo) : Reported s (t.restoreService l) :=
  (((h.enterIdle l).modLine l _).sendCommand l .takeAfresh).report l .lineRestored

theorem Reported.lineCardLost (h : Reported s t) (l : LineNo) : Reported s (t.lineCardLost l) := .ite (h.modLine l _) (h.teardown l .cardLoss)

theorem Reported.lineCardPresent (h : Reported s t) (l : LineNo) : Reported s (t.lineCardPresent l) :=
  .ite (h.modLine l _) h

theorem Reported.lineCardSettled (h : Reported s t) (l : LineNo) : Reported s (t.lineCardSettled l) :=
  .ite (.ite (h.modLine l _) (h.restoreService l)) h

/-! ## Release (R84, R85) -/

theorem Reported.releaseToPark (h : Reported s t) (l : LineNo) : Reported s (t.releaseToPark l) := by
  have freed (f : LineRecord → LineRecord) := ((h.giveUpTone l).modLine l f).sendCommand l .discardPulseCount
  exact ((freed _).report l (.lineParked .releasedOffHook)).enterParked l .releasedOffHook

theorem Reported.releaseLine (h : Reported s t) (l : LineNo) : Reported s (t.releaseLine l) := by
  have rung := h.stopRing l .release
  unfold State.releaseLine
  split
  case h_1 => exact h.releaseCleared l
  case h_7 | h_8 => exact rung.enterIdle l
  case h_9 | h_10 | h_11 => exact h
  all_goals exact h.releaseToPark l

/-! ## The absence of a port (R139, R156, R157) -/

theorem Reported.orphanLine (h : Reported s t) (l : LineNo) : Reported s (t.orphanLine l) :=
  (h.modLine l _).report l .orphaned

theorem Reported.offerAgain (h : Reported s t) (l : LineNo) : Reported s (t.offerAgain l) := by
  unfold State.offerAgain
  dsimp only
  split
  · exact ((h.modLine l _).offerTo l _ _).sendOriginate l
  · exact (h.modLine l _).parkFromOrigination l .noController .noController

theorem Reported.cancelRing (h : Reported s t) (l : LineNo) (p : Port) : Reported s (t.cancelRing l p) := by
  have ended := h.endRing l
  unfold State.cancelRing
  split
  · have due : Reported s (t.endRing l).callPass := ended.same rfl rfl
    exact (due.enterIdle l).report l _
  · exact h

theorem Reported.lineAbsent (h : Reported s t) (p : Port) (l : LineNo) : Reported s (t.lineAbsent p l) := by
  unfold State.lineAbsent
  refine .ite ?_ (.ite (h.advanceOffer l) h)
  split
  case h_1 | h_2 => exact h.orphanLine l
  case h_3 | h_4 | h_5 => exact h.offerAgain l
  case h_6 => exact h.releaseCleared l
  case h_7 | h_8 => exact h.cancelRing l p
  all_goals exact h

theorem Reported.absence (h : Reported s t) (p : Port) (c : PortStateCause) : Reported s (t.absence p c) := by
  have emptied : Reported s ((t.modPort p fun r => { r with state := .absent, deadline := none }).setQueue p .reset) :=
    (h.modPort (by simp) (by simp)).setQueue fun _ => Nat.zero_le _
  exact (Reported.foldl (fun h l => h.lineAbsent p l) (emptied.reportPortState p .absent c) allLines).finish

/-! ## The plant (R142 to R146) -/

theorem Reported.handOut (h : Reported s t) (a b : List PlantState) : Reported s { t with allocPlant := a, tonePlant := b } :=
  h.same rfl rfl

theorem Reported.declarePlant (h : Reported s t) (new : PlantState) (n : Nat) (r : PlantRun) :
    Reported s (t.declarePlant new n r) := by
  have told : Reported s ((t.setPlant (t.plant.changeTo new)).reportPresent (.plantState new t.plant.state n r)) :=
    (h.setPlant _).reportPresent _
  exact told.handOut _ _

theorem Reported.restoreSense (h : Reported s t) (n : Nat) : Reported s (t.restoreSense n) :=
  .ite ((h.setPlant _).reportPresent _) h

theorem Reported.goodWord (h : Reported s t) (n : Nat) : Reported s (t.goodWord n) := by
  have sensed := h.restoreSense n
  unfold State.goodWord
  dsimp only
  split
  · exact (sensed.setPlant _).declarePlant _ n _
  · exact sensed.setPlant _

theorem Reported.senseExpired (h : Reported s t) : Reported s t.senseExpired := (h.setPlant _).reportPresent _

theorem Reported.takeAllocPlant (h : Reported s t) (x : PlantState) : Reported s (t.takeAllocPlant x) :=
  (h.setAlloc _).followBudgets

theorem Reported.takeTonePlant (h : Reported s t) (x : PlantState) : Reported s (t.takeTonePlant x) :=
  (h.setTone _).setTapLimit _

/-! ## The scanner and the Sequencer's notices (R28 to R48, R127) -/

theorem Reported.scanShelf (h : Reported s t) (v : ShelfSample) : Reported s (t.scanShelf v) := by
  have frame : t.scanShelf v = _ := scannerOnly_scanShelf t v
  exact h.same (by rw [frame]; rfl) (by rw [frame]; rfl)

theorem Reported.settleCard (h : Reported s t) (c : CardNo) : Reported s (t.settleCard c) := by
  have settled : Reported s (t.setCard c { t.card c with state := .inService, settleStart := none }) :=
    h.same rfl rfl
  exact settled.same (by rw [State.settleCard, declareCard_frame]) (by rw [State.settleCard, declareCard_frame])

theorem Reported.takeAfresh (h : Reported s t) (l : LineNo) : Reported s (t.takeAfresh l) := .ite (h.same rfl rfl) h

theorem Reported.fedBurst (h : Reported s t) (l : LineNo) : Reported s (t.fedBurst l) := by
  unfold State.fedBurst
  split
  · exact .ite (h.setEntry l _) h
  · exact h

theorem Reported.dropEvent (h : Reported s t) (l : LineNo) : Reported s (t.dropEvent l) := h.same rfl rfl

theorem Reported.takeCardEvent {act : State → LineNo → State} (acts : ∀ {t}, Reported s t → ∀ l, Reported s (act t l))
    (h : Reported s t) (c : CardNo) : Reported s (t.takeCardEvent c act) :=
  (Reported.foldl (f := cardStep act) (fun h l => acts (h.dropEvent l) l) h (cardLines c)).finish

end Sys2Proof.Machine.State
end

section
/-! PROOFS. Every command keeps the report queues and the input holds right (R151, R165): the obligation O4. -/

namespace Sys2Proof.Machine

open Sys2Proof.Safety

/-! ## Reply orders (R151) -/

/-- The input hold has at most four frames and every answer mark counts 1 to 255, in one reply order (R151). -/
def ReplyRight (q : List ReplyItem) : Prop := heldCount q ≤ 4 ∧ ∀ r n, ReplyItem.mark r n ∈ q → 1 ≤ n ∧ n ≤ 255

theorem inputHoldsRight_iff {s : State} : InputHoldsRight s ↔ ∀ p, ReplyRight (s.port p).reply := Iff.rfl

theorem heldCount_append (a b : List ReplyItem) : heldCount (a ++ b) = heldCount a + heldCount b := by
  simp [heldCount]

theorem heldCount_cons (x : ReplyItem) (q : List ReplyItem) : heldCount (x :: q) = heldCount [x] + heldCount q :=
  heldCount_append [x] q

theorem replyRight_nil : ReplyRight [] := ⟨Nat.zero_le 4, fun _ _ h => nomatch h⟩

theorem ReplyRight.tail {x : ReplyItem} {q : List ReplyItem} (h : ReplyRight (x :: q)) : ReplyRight q := by
  refine ⟨?_, fun r n mem => h.2 r n (List.mem_cons_of_mem x mem)⟩
  have count := h.1
  rw [heldCount_cons] at count
  omega

/-- A held frame joins while there is room. -/
theorem ReplyRight.hold {q : List ReplyItem} (h : ReplyRight q) (room : heldCount q < 4) (k : Byte) (body : List Byte) :
    ReplyRight (q ++ [.held k body]) := by
  refine ⟨?_, fun r n mem => ?_⟩
  · rw [heldCount_append]
    exact room
  · rcases List.mem_append.1 mem with old | new
    · exact h.2 r n old
    · simp at new

/-- A mark joins the one at the tail, or a new one is formed behind (R151). -/
theorem joinMark_cases (r : MarkResult) (q : List ReplyItem) :
    joinMark r q = q ++ [.mark r 1]
    ∨ ∃ init n, q = init ++ [.mark r n] ∧ n < 255 ∧ joinMark r q = init ++ [.mark r (n + 1)] := by
  induction q using joinMark.induct (r := r) with
  | case1 => exact .inl rfl
  | case2 x n joins =>
    obtain ⟨rfl, below⟩ := joins
    exact .inr ⟨[], n, rfl, below, by rw [joinMark, if_pos ⟨rfl, below⟩, List.nil_append]⟩
  | case3 x n apart => exact .inl (by rw [joinMark, if_neg apart, List.cons_append, List.nil_append])
  | case4 x q more ih =>
    have walks : joinMark r (x :: q) = x :: joinMark r q := by rw [joinMark]; exact more
    rw [walks]
    rcases ih with new | ⟨init, n, tail, below, joined⟩
    · exact .inl (congrArg (x :: ·) new)
    · exact .inr ⟨x :: init, n, congrArg (x :: ·) tail, below, congrArg (x :: ·) joined⟩

theorem ReplyRight.joinMark {q : List ReplyItem} (h : ReplyRight q) (r : MarkResult) : ReplyRight (joinMark r q) := by
  have put {init : List ReplyItem} {n : Nat} (few : heldCount init ≤ 4) (right : ∀ x m, ReplyItem.mark x m ∈ init → 1 ≤ m ∧ m ≤ 255)
      (counts : 1 ≤ n ∧ n ≤ 255) : ReplyRight (init ++ [.mark r n]) := by
    refine ⟨by rw [heldCount_append]; exact few, fun x m mem => ?_⟩
    rcases List.mem_append.1 mem with old | new
    · exact right x m old
    · obtain ⟨rfl, rfl⟩ : x = r ∧ m = n := by simpa using new
      exact counts
  obtain ⟨few, right⟩ := h
  rcases joinMark_cases r q with new | ⟨init, n, rfl, below, joined⟩
  · rw [new]
    exact put few right (by omega)
  · rw [joined]
    refine put ?_ (fun x m mem => right x m (List.mem_append_left _ mem)) (by omega)
    rw [heldCount_append] at few
    exact few

/-! ## The record of a port as bytes arrive (R150, R151) -/

namespace PortRecord

/-- The reply order stays right and the attention output as it is. -/
structure Hears (a b : PortRecord) : Prop where
  reply : ReplyRight a.reply → ReplyRight b.reply
  attention : b.attention = a.attention

theorem hears_refl (a : PortRecord) : Hears a a := ⟨id, rfl⟩

theorem Hears.trans {a b c : PortRecord} (x : Hears a b) (y : Hears b c) : Hears a c :=
  ⟨fun h => y.reply (x.reply h), y.attention.trans x.attention⟩

theorem hears_assembling (a : PortRecord) (f : Option PartFrame) : Hears a { a with assembling := f } := ⟨id, rfl⟩

theorem hears_badFrame (a : PortRecord) : Hears a a.badFrame := ⟨fun h => h.joinMark .frameError, rfl⟩

theorem hears_completeFrame (a : PortRecord) (k : Byte) (body : List Byte) : Hears a (a.completeFrame k body) := by
  unfold completeFrame
  split
  · rename_i room
    exact ⟨fun h => h.hold room k body, rfl⟩
  · exact ⟨fun h => h.joinMark .overrun, rfl⟩

theorem hears_startByte (a : PortRecord) (b : Byte) (now : Ms) : Hears a (a.startByte b now) := by
  unfold startByte
  split
  · exact hears_assembling a _
  · exact hears_refl a

theorem hears_nextByte (a : PortRecord) (f : PartFrame) (b : Byte) (now : Ms) : Hears a (a.nextByte f b now) := by
  unfold nextByte
  split
  · split
    · exact hears_assembling a _
    · exact hears_badFrame a
  · split
    · exact hears_assembling a _
    · split
      · exact hears_completeFrame a _ _
      · exact hears_badFrame a
  · exact hears_assembling a _

theorem hears_receive (a : PortRecord) (b : Byte) (now : Ms) : Hears a (a.receive b now) := by
  unfold receive
  split
  · exact hears_startByte a b now
  · split
    · exact (hears_badFrame a).trans (hears_startByte _ b now)
    · exact hears_nextByte a _ b now

end PortRecord

namespace State

variable {s t u : State} {p : Port} {l : LineNo}

/-! ## Answers that keep the queues and the holds right -/

/-- The step from `s` to `t` keeps the report queues right (R165) and the input holds (R151). -/
structure PortsKept (s t : State) : Prop where
  queues : ReportQueuesRight s → ReportQueuesRight t
  holds : InputHoldsRight s → InputHoldsRight t

theorem Reported.kept (h : Reported s t) : PortsKept s t := by
  refine ⟨h.queues, fun right p => ?_⟩
  rw [h.reply p]
  exact right p

theorem PortsKept.trans (a : PortsKept s t) (b : PortsKept t u) : PortsKept s u :=
  ⟨fun h => b.queues (a.queues h), fun h => b.holds (a.holds h)⟩

theorem portsKept_modPort {f : PortRecord → PortRecord} (hears : (s.port p).Hears (f (s.port p))) : PortsKept s (s.modPort p f) := by
  refine ⟨fun right q => ?_, fun right q => ?_⟩ <;> by_cases e : q = p
  · subst e
    rw [port_modPort_same, hears.attention, modPort_eq, queue_setPort]
    exact right q
  · rw [port_modPort_other s p q f e, modPort_eq, queue_setPort]
    exact right q
  · subst e
    rw [port_modPort_same]
    exact hears.reply (right q)
  · rw [port_modPort_other s p q f e]
    exact right q

/-- A port whose reply order is emptied from its head. -/
theorem hears_drop {x : ReplyItem} {rest : List ReplyItem} {a b : PortRecord} (head : a.reply = x :: rest) (reply : b.reply = rest)
    (attention : b.attention = a.attention) : a.Hears b := by
  refine ⟨fun h => ?_, attention⟩
  rw [head] at h
  exact reply ▸ h.tail

/-- Both resets empty the queues and the reply orders, and negate the attention outputs (R161, R168). -/
theorem portsKept_of_reset (queue : ∀ p, t.queue p = .reset) (reply : ∀ p, (t.port p).reply = [])
    (attention : ∀ p, (t.port p).attention = false) : PortsKept s t := by
  refine ⟨fun _ p => ?_, fun _ p => ?_⟩
  · rw [queue, attention]
    exact ⟨Nat.zero_le _, rfl⟩
  · rw [reply]
    exact replyRight_nil

theorem portsKept_powerOn (s : State) : PortsKept s s.powerOn :=
  portsKept_of_reset (fun p => by cases p <;> rfl) (fun p => by cases p <;> rfl) (fun p => by cases p <;> rfl)

theorem portsKept_shelfReset (s : State) (c : ResetCause) : PortsKept s (s.shelfReset c) :=
  portsKept_of_reset (fun p => by cases p <;> rfl) (fun p => by cases p <;> rfl) (fun p => by cases p <;> rfl)

/-- Whatever the command answers keeps the queues and the holds right. -/
def KeepsPorts (s : State) (o : Answer) : Prop := ∀ t, o = .next t → PortsKept s t

theorem PortsKept.keeps (k : PortsKept s t) : KeepsPorts s (.next t) := by
  rintro _ ⟨⟩
  exact k

theorem Reported.keeps (h : Reported s t) : KeepsPorts s (.next t) := h.kept.keeps

theorem keepsPorts_refl (s : State) : KeepsPorts s (.next s) := (reported_refl s).keeps

/-- An event that is taken when it is there. -/
theorem keepsPorts_if {c : Prop} {_ : Decidable c} (h : Reported s t) : KeepsPorts s (.next (if c then t else s)) :=
  (Reported.ite h (reported_refl s)).keeps

/-! ## Taking a request (R151, R152) -/

/-- An owner that only reports does so behind the checks of the port. -/
theorem Reported.handOver {kind : Nat} {body : List Byte} {owner : State → Port → List Byte → State × Reply}
    (acts : ∀ {t}, Reported s t → Reported s (owner t p body).1) (h : Reported s t) :
    Reported s (t.handOver kind p body owner).1 := by
  unfold State.handOver
  split
  · exact h
  · split
    · exact h
    · exact acts h

theorem keepsPorts_request {kind : Nat} {owner : State → Port → List Byte → State × Reply}
    (acts : ∀ {u t} body, Reported u t → Reported u (owner t p body).1) (s : State) : KeepsPorts s (takeRequest kind p owner s) := by
  unfold takeRequest
  split
  · rename_i k body rest head
    split
    · have read : PortsKept s (s.modPort p fun t => { t with reply := rest }) := portsKept_modPort (hears_drop head rfl rfl)
      have present := (reported_refl (s.modPort p fun t => { t with reply := rest })).refreshPresence p
      have ended := (Reported.handOver (acts body) present (kind := kind)).finish.respond p k
      exact (read.trans (ended _).kept).keeps
    · exact keepsPorts_refl s
  · exact keepsPorts_refl s

theorem Reported.onLine {act : State → Port → LineNo → State × Reply} (acts : ∀ {t} l, Reported s t → Reported s (act t p l).1)
    (body : List Byte) (h : Reported s t) : Reported s (t.onLine act p body).1 := by
  unfold State.onLine
  split
  · split
    · exact acts _ h
    · exact h
  · exact h

theorem Reported.onLineAndCount {act : State → Port → LineNo → Nat → State × Reply}
    (acts : ∀ {t} l n, Reported s t → Reported s (act t p l n).1) (body : List Byte) (h : Reported s t) :
    Reported s (t.onLineAndCount act p body).1 := by
  unfold State.onLineAndCount
  split
  · split
    · exact acts _ _ h
    · exact h
  · exact h

theorem Reported.onProgram {act : State → ProgramNo → State × Reply} (acts : ∀ {t} g, Reported s t → Reported s (act t g).1)
    (body : List Byte) (h : Reported s t) : Reported s (t.onProgram act p body).1 := by
  unfold State.onProgram
  split
  · split
    · exact acts _ h
    · exact h
  · exact h

/-! ## The requests of chapter 1 -/

theorem Reported.adopt (h : Reported s t) (p : Port) (l : LineNo) : Reported s (t.adopt p l).1 := by
  unfold State.adopt
  dsimp only
  split
  · exact h.same rfl rfl
  · split <;> exact h

theorem Reported.setLineConfig (h : Reported s t) (p : Port) (body : List Byte) : Reported s (t.setLineConfig p body).1 := by
  unfold State.setLineConfig
  split
  · split
    · split
      · exact h.same rfl rfl
      · exact h
    · exact h
  · exact h

theorem Reported.setClassValues (h : Reported s t) (p : Port) (body : List Byte) : Reported s (t.setClassValues p body).1 := by
  unfold State.setClassValues
  split
  · exact h.same rfl rfl
  · exact h

theorem Reported.parkLine (h : Reported s t) (p : Port) (l : LineNo) : Reported s (t.parkLine p l).1 := by
  unfold State.parkLine
  split
  · exact h
  · exact (h.modLine l _).report l _
  · dsimp only
    exact h.teardown l .park

theorem Reported.unparkLine (h : Reported s t) (p : Port) (l : LineNo) : Reported s (t.unparkLine p l).1 := by
  unfold State.unparkLine
  split
  · exact .ite ((h.unparkToIdle l).originate l) (h.unparkToIdle l)
  · exact h

theorem Reported.removeLine (h : Reported s t) (p : Port) (l : LineNo) : Reported s (t.removeLine p l).1 := by
  have torn : Reported s (if (t.line l).state == .outOfService then t else t.teardown l .remove) := .ite h (h.teardown l .remove)
  unfold State.removeLine
  dsimp only
  exact torn.modLine l _

theorem Reported.restoreLine (h : Reported s t) (p : Port) (l : LineNo) : Reported s (t.restoreLine p l).1 := by
  have cleared : Reported s (t.modLine l fun r => { r with admin := false }) := h.modLine l _
  unfold State.restoreLine
  dsimp only
  split
  · exact .ite (cleared.restoreService l) cleared
  · exact h

theorem Reported.forceRelease (h : Reported s t) (p : Port) (l : LineNo) : Reported s (t.forceRelease p l).1 := by
  unfold State.forceRelease
  split
  · dsimp only
    exact h.forceReleased l
  · exact h

/-! ## The requests of the holder -/

theorem Reported.claimLine (h : Reported s t) (p : Port) (l : LineNo) (n : Nat) : Reported s (t.claimLine p l n).1 := by
  have told : Reported s (if (t.line l).offeredPort == some p then t else t.abandonOffer l .claimedElsewhere) :=
    .ite h (h.abandonOffer l .claimedElsewhere)
  unfold State.claimLine
  dsimp only
  generalize hq : State.modLine _ l _ = q
  have claimed : Reported s q := hq ▸ told.modLine l _
  exact .ite ((claimed.giveUpTone l).dialingDone l) (.ite (claimed.startInterdigit l) claimed)

theorem Reported.claim (h : Reported s t) (p : Port) (l : LineNo) (n : Nat) : Reported s (t.claim p l n).1 := by
  unfold State.claim
  dsimp only
  split
  · exact h
  · split
    · exact h.claimLine p l n
    · split
      · exact h.same rfl rfl
      · exact h

theorem Reported.endTone (h : Reported s t) (p : Port) (l : LineNo) : Reported s (t.endTone p l).1 := by
  have digits : Reported s ((t.giveUpTone l).enter l .digits) := (h.giveUpTone l).enter l .digits
  unfold State.endTone
  dsimp only
  split
  · exact h
  · split
    · exact .ite digits (digits.startInterdigit l)
    · exact .ite digits (digits.startInterdigit l)
    · exact h
    · exact h

theorem Reported.connect (h : Reported s t) (p : Port) (l : LineNo) : Reported s (t.connect p l).1 := by
  unfold State.connect
  dsimp only
  split
  · exact h
  · split
    · exact (h.giveUpTone l).enter l .held
    · exact h

theorem Reported.giveToneLine (h : Reported s t) (l : LineNo) (n : Nat) : Reported s (t.giveToneLine l n).1 := by
  unfold State.giveToneLine
  dsimp only
  generalize hq : State.modLine t l _ = q
  have marked : Reported s q := hq ▸ h.modLine l _
  exact .ite (marked.dialingDone l) (.ite ((marked.enter l .digits).startInterdigit l) ((marked.askTone l).startFirstDigit l))

theorem Reported.giveTone (h : Reported s t) (p : Port) (l : LineNo) (n : Nat) : Reported s (t.giveTone p l n).1 := by
  unfold State.giveTone
  dsimp only
  split
  · exact h
  · split
    · exact h
    · exact h.giveToneLine l n

theorem Reported.keepCall (h : Reported s t) (p : Port) (l : LineNo) : Reported s (t.keepCall p l).1 := by
  unfold State.keepCall
  dsimp only
  split
  · exact h
  · split
    · exact h
    · exact h.enter l .held

theorem Reported.release (h : Reported s t) (p : Port) (l : LineNo) : Reported s (t.release p l).1 := by
  unfold State.release
  split
  · exact h
  · exact h.releaseLine l

/-! ## The requests for ringing -/

theorem Reported.acceptRing (h : Reported s t) (p : Port) (o : RingOperands) (back : ReturnState) :
    Reported s (t.acceptRing p o back) := by
  unfold State.acceptRing
  dsimp only
  generalize hq : State.modLine _ o.line _ = q
  have formed : Reported s q := hq ▸ (h.setProgram _ _).modLine _ _
  split
  · split
    · exact formed.place _ _ _
    · exact formed.groundFault _
    · exact (formed.enqueue _).enter _ .ringWait
  · exact (formed.enqueue _).enter _ .ringWait

theorem Reported.ring (h : Reported s t) (p : Port) (body : List Byte) : Reported s (t.ring p body).1 := by
  unfold State.ring
  split
  · exact h
  · split
    · exact h
    · split
      · exact h
      · split
        · exact h
        · split
          · exact h
          · exact (h.acceptRing p _ _).finish

theorem Reported.ringStop (h : Reported s t) (p : Port) (l : LineNo) : Reported s (t.ringStop p l).1 := by
  have stopped := (h.stopRing l .stop).toReturnState l
  unfold State.ringStop
  split
  · exact h
  · split
    · exact stopped
    · exact stopped
    · exact h

theorem Reported.ringFinish (h : Reported s t) (p : Port) (l : LineNo) : Reported s (t.ringFinish p l).1 := by
  unfold State.ringFinish
  split
  · exact h
  · split
    · exact h.setEntry l _
    · exact (h.stopRing l .finish).toReturnState l
    · exact h

theorem Reported.setBudget (h : Reported s t) (p : Port) (body : List Byte) : Reported s (t.setBudget p body).1 := by
  unfold State.setBudget
  split
  · split
    · exact ((h.setSupply .one _).setSupply .two _).followBudgets
    · exact h
  · exact h

theorem Reported.setRingLimits (h : Reported s t) (p : Port) (body : List Byte) : Reported s (t.setRingLimits p body).1 := by
  unfold State.setRingLimits
  split
  · split
    · exact .ite (Reported.foldl (fun h w => .ite (h.takeTurns w) h) (h.setAlloc _) _) (h.setAlloc _)
    · exact h
  · exact h

/-! ## The requests of the Cadence Store -/

theorem Reported.setStep (h : Reported s t) (n : StepNo) (c : StepCell) : Reported s (t.setStep n c) := h.same rfl rfl

theorem Reported.writeBlock (h : Reported s t) (g : ProgramNo) (fs : List StepFields) : Reported s (t.writeBlock g fs) :=
  Reported.foldl (fun h i => h.setStep (stepNo g i) _) h _

theorem Reported.writeSteps (h : Reported s t) (p : Port) (body : List Byte) : Reported s (t.writeSteps p body).1 := by
  unfold State.writeSteps
  split
  · split
    · split
      · exact h
      · split
        · exact h
        · dsimp only
          generalize hq : State.writeBlock t _ _ = q
          have written : Reported s q := hq ▸ h.writeBlock _ _
          exact written.setProgram _ _
    · exact h
  · exact h

theorem Reported.commitProgram (h : Reported s t) (p : Port) (body : List Byte) : Reported s (t.commitProgram p body).1 := by
  unfold State.commitProgram
  split
  · split
    · split
      · exact h
      · split
        · exact h
        · split
          · exact h
          · exact h.setProgram _ _
    · exact h
  · exact h

theorem Reported.eraseProgram (h : Reported s t) (g : ProgramNo) : Reported s (t.eraseProgram g).1 := by
  unfold State.eraseProgram
  split
  · exact h
  · split
    · exact h
    · exact (h.writeBlock g []).setProgram g .empty

theorem Reported.readProgram (h : Reported s t) (g : ProgramNo) : Reported s (t.readProgram g).1 := by
  unfold State.readProgram
  dsimp only
  split
  · split
    · exact h.integrityFault g _
    · exact h
  · exact h

/-! ## The requests about the shelf -/

theorem Reported.setPlantLimits (h : Reported s t) (p : Port) (body : List Byte) : Reported s (t.setPlantLimits p body).1 := by
  unfold State.setPlantLimits
  split
  · exact h.setPlant _
  · exact h

theorem Reported.setToneLimits (h : Reported s t) (p : Port) (body : List Byte) : Reported s (t.setToneLimits p body).1 := by
  unfold State.setToneLimits
  split
  · split
    · exact (h.setTone _).setTapLimit _
    · exact h
  · exact h

theorem Reported.setRoute (h : Reported s t) (p : Port) (body : List Byte) : Reported s (t.setRoute p body).1 := by
  unfold State.setRoute
  split
  · split
    · exact h.same rfl rfl
    · exact h
  · exact h

/-- A snapshot is queued while there is room (R166). -/
theorem Reported.snapshot (h : Reported s t) (room : (t.queue p).records.length < 48) (k : Option LineNo) (r : Report) :
    Reported s ((t.setMark p k false).pushRecord p r) :=
  (h.setMark p k false).pushRecord (by simpa [setMark_eq] using room) r

theorem Reported.resyncLine (h : Reported s t) (p : Port) (l : LineNo) : Reported s (resyncLine p t l) := by
  unfold State.resyncLine
  split
  · rename_i due
    simp only [Bool.and_eq_true, decide_eq_true_eq] at due
    exact h.snapshot due.1 _ _
  · exact h

theorem Reported.resyncShelf (h : Reported s t) (p : Port) : Reported s (resyncShelf p t) := by
  unfold State.resyncShelf
  split
  · rename_i due
    simp only [Bool.and_eq_true, decide_eq_true_eq] at due
    exact h.snapshot due.1 _ _
  · exact h

theorem Reported.resyncIssue (h : Reported s t) (p : Port) : Reported s (t.resyncIssue p) :=
  (Reported.foldl (fun h l => h.resyncLine p l) h allLines).resyncShelf p

theorem Reported.fetch (h : Reported s t) (p : Port) (body : List Byte) : Reported s (t.fetch p body).1 := by
  have drained (n : Nat) : Reported s (t.setQueue p { t.queue p with records := (t.queue p).records.drop n }) :=
    h.setQueue fun few => by
      rw [List.length_drop]
      omega
  unfold State.fetch
  split
  · split
    · exact .ite ((drained _).resyncIssue p) (drained _)
    · exact h
  · exact h

theorem Reported.setPortWindow (h : Reported s t) (p : Port) (body : List Byte) : Reported s (t.setPortWindow p body).1 := by
  unfold State.setPortWindow
  split
  · split
    · dsimp only
      exact h.modPort (by simp) (by simp)
    · exact h
  · exact h

theorem Reported.portRestart (h : Reported s t) (p : Port) (body : List Byte) : Reported s (t.portRestart p body).1 :=
  ((h.absence p .restart).modPort (by simp) (by simp)).reportPortState p .present .restart

/-! ## The commands of the ports (R150, R151, R156) -/

theorem keepsPorts_frameByteTimeout (p : Port) (s : State) : KeepsPorts s (execFrameByteTimeout p s) := by
  unfold execFrameByteTimeout
  split
  · split
    · exact (portsKept_modPort (PortRecord.hears_badFrame _)).keeps
    · exact keepsPorts_refl s
  · exact keepsPorts_refl s

theorem keepsPorts_answerMark (p : Port) (s : State) : KeepsPorts s (execAnswerMark p s) := by
  unfold execAnswerMark
  split
  · rename_i head
    exact (portsKept_modPort (hears_drop head rfl rfl)).keeps
  · exact keepsPorts_refl s

theorem keepsPorts_unknownKind (p : Port) (s : State) : KeepsPorts s (execUnknownKind p s) := by
  unfold execUnknownKind
  split
  · rename_i k body rest head
    split
    · exact keepsPorts_refl s
    · have read : PortsKept s (s.modPort p fun t => { t with reply := rest }) := portsKept_modPort (hears_drop head rfl rfl)
      exact (read.trans ((reported_refl _).respond p k _).kept).keeps
  · exact keepsPorts_refl s

/-! ## The commands that take a notice -/

theorem keepsPorts_takeAfresh (l : LineNo) (s : State) : KeepsPorts s (execTakeAfresh l s) := by
  unfold execTakeAfresh
  split
  · rename_i rest _
    have read : Reported s (s.setCommands l rest) := (reported_refl s).same rfl rfl
    exact (read.takeAfresh l).keeps
  · exact keepsPorts_refl s

theorem keepsPorts_burstFed (l : LineNo) (s : State) : KeepsPorts s (execBurstFed l s) := by
  unfold execBurstFed
  split
  · rename_i rest _
    have read : Reported s (s.setBursts l rest) := (reported_refl s).same rfl rfl
    exact (read.fedBurst l).keeps
  · exact keepsPorts_refl s

theorem Reported.setMode (h : Reported s t) (l : LineNo) (m : ScanMode) : Reported s (t.setMode l m) := h.same rfl rfl

/-- A ringing indication taken from the head of a line's list. -/
theorem Reported.indication (h : Reported s t) (l : LineNo) (is : List RingIndication) (m : ScanMode) :
    Reported s ((t.setIndications l is).setMode l m) := h.same rfl rfl

theorem keepsPorts_discardPulseCount (l : LineNo) (s : State) : KeepsPorts s (execDiscardPulseCount l s) := by
  unfold execDiscardPulseCount
  split
  · rename_i rest _
    have read : Reported s (s.setCommands l rest) := (reported_refl s).same rfl rfl
    exact (read.setMode l _).keeps
  · exact keepsPorts_refl s

theorem keepsPorts_stepOn (l : LineNo) (s : State) : KeepsPorts s (execStepOn l s) := by
  unfold execStepOn
  split
  · exact ((reported_refl s).indication l _ _).keeps
  · exact keepsPorts_refl s

theorem keepsPorts_stepOff (l : LineNo) (s : State) : KeepsPorts s (execStepOff l s) := by
  unfold execStepOff
  split
  · exact ((reported_refl s).indication l _ _).keeps
  · exact keepsPorts_refl s

theorem keepsPorts_ringEnd (l : LineNo) (s : State) : KeepsPorts s (execRingEnd l s) := by
  unfold execRingEnd
  split
  · exact ((reported_refl s).indication l _ _).keeps
  · exact keepsPorts_refl s

theorem keepsPorts_ringAllocatorPlantChange (s : State) : KeepsPorts s (execRingAllocatorPlantChange s) := by
  unfold execRingAllocatorPlantChange
  split
  · rename_i x rest _
    have read : Reported s { s with allocPlant := rest } := (reported_refl s).same rfl rfl
    exact (read.takeAllocPlant x).finish.keeps
  · exact keepsPorts_refl s

theorem keepsPorts_tapLimitChange (s : State) : KeepsPorts s (execTapLimitChange s) := by
  unfold execTapLimitChange
  split
  · rename_i x rest _
    have read : Reported s { s with tonePlant := rest } := (reported_refl s).same rfl rfl
    exact (read.takeTonePlant x).finish.keeps
  · exact keepsPorts_refl s

/-! ## The commands at a line record (R31, R117, R125) -/

theorem keepsPorts_offHook (l : LineNo) (s : State) : KeepsPorts s (execOffHook l s) := by
  have read := (reported_refl s).dropEvent l
  unfold execOffHook
  split
  · exact (read.lifted l .offHook none).finish.keeps
  · exact keepsPorts_refl s

theorem keepsPorts_pulse (l : LineNo) (s : State) : KeepsPorts s (execPulse l s) := by
  have read := (reported_refl s).dropEvent l
  unfold execPulse
  split
  · exact (read.pulsed l).finish.keeps
  · exact keepsPorts_refl s

theorem keepsPorts_flash (l : LineNo) (s : State) : KeepsPorts s (execFlash l s) := by
  have read := (reported_refl s).dropEvent l
  unfold execFlash
  split
  · exact (read.flashed l _).finish.keeps
  · exact keepsPorts_refl s

theorem keepsPorts_badBreak (l : LineNo) (s : State) : KeepsPorts s (execBadBreak l s) := by
  have read := (reported_refl s).dropEvent l
  unfold execBadBreak
  split
  · exact (read.badBroken l _ _).finish.keeps
  · exact keepsPorts_refl s

theorem keepsPorts_disconnect (l : LineNo) (s : State) : KeepsPorts s (execDisconnect l s) := by
  have read := (reported_refl s).dropEvent l
  unfold execDisconnect
  split
  · exact (read.hungUp l _ _).finish.keeps
  · exact keepsPorts_refl s

theorem keepsPorts_digitEnd (l : LineNo) (s : State) : KeepsPorts s (execDigitEnd l s) := by
  have read := (reported_refl s).dropEvent l
  unfold execDigitEnd
  split
  · exact (read.digitEnded l _ _).finish.keeps
  · exact keepsPorts_refl s

theorem keepsPorts_answer (l : LineNo) (s : State) : KeepsPorts s (execAnswer l s) := by
  have read := (reported_refl s).dropEvent l
  unfold execAnswer
  split
  · exact (read.lifted l _ _).finish.keeps
  · exact keepsPorts_refl s

theorem keepsPorts_stepEnd (l : LineNo) (s : State) : KeepsPorts s (execStepEnd l s) := by
  unfold execStepEnd
  split
  · exact keepsPorts_if ((reported_refl s).stepEnded l _).finish
  · exact keepsPorts_refl s

theorem keepsPorts_waitLimitExpiry (l : LineNo) (s : State) : KeepsPorts s (execWaitLimitExpiry l s) := by
  unfold execWaitLimitExpiry
  split
  · split
    · exact (((reported_refl s).failRing l .waitLimit).toReturnState l).finish.keeps
    · exact keepsPorts_refl s
  · exact keepsPorts_refl s

/-! ## Every command -/

/-- Every command keeps the report queues and the input holds right. -/
theorem exec_keepsPorts (c : Instr) (s : State) : KeepsPorts s (exec c s) := by
  have still := reported_refl s
  cases c with
  | powerOnReset => exact (portsKept_powerOn s).keeps
  | resetInput => exact (portsKept_shelfReset s .resetInput).keeps
  | shelfResetTakesEffect =>
    show KeepsPorts s (.next (if s.shelfResetDue then s.shelfReset .shelfResetRequest else s))
    split
    · exact (portsKept_shelfReset s .shelfResetRequest).keeps
    · exact keepsPorts_refl s
  | receiveByte p b => exact (portsKept_modPort (PortRecord.hears_receive _ b s.now)).keeps
  | frameByteTimeout p => exact keepsPorts_frameByteTimeout p s
  | answerMark p => exact keepsPorts_answerMark p s
  | unknownKind p => exact keepsPorts_unknownKind p s
  | lineQuery p => exact keepsPorts_request (Reported.onLine fun _ h => h) s
  | adopt p => exact keepsPorts_request (Reported.onLine fun l h => h.adopt p l) s
  | claim p => exact keepsPorts_request (Reported.onLineAndCount fun l n h => h.claim p l n) s
  | endTone p => exact keepsPorts_request (Reported.onLine fun l h => h.endTone p l) s
  | connect p => exact keepsPorts_request (Reported.onLine fun l h => h.connect p l) s
  | giveTone p => exact keepsPorts_request (Reported.onLineAndCount fun l n h => h.giveTone p l n) s
  | keepCall p => exact keepsPorts_request (Reported.onLine fun l h => h.keepCall p l) s
  | release p => exact keepsPorts_request (Reported.onLine fun l h => h.release p l) s
  | ring p => exact keepsPorts_request (fun body h => h.ring p body) s
  | ringStop p => exact keepsPorts_request (Reported.onLine fun l h => h.ringStop p l) s
  | ringFinish p => exact keepsPorts_request (Reported.onLine fun l h => h.ringFinish p l) s
  | setLine p => exact keepsPorts_request (fun body h => h.setLineConfig p body) s
  | setClass p => exact keepsPorts_request (fun body h => h.setClassValues p body) s
  | park p => exact keepsPorts_request (Reported.onLine fun l h => h.parkLine p l) s
  | unpark p => exact keepsPorts_request (Reported.onLine fun l h => h.unparkLine p l) s
  | removeLine p => exact keepsPorts_request (Reported.onLine fun l h => h.removeLine p l) s
  | restoreLine p => exact keepsPorts_request (Reported.onLine fun l h => h.restoreLine p l) s
  | forceRelease p => exact keepsPorts_request (Reported.onLine fun l h => h.forceRelease p l) s
  | writeSteps p => exact keepsPorts_request (fun body h => h.writeSteps p body) s
  | commitProgram p => exact keepsPorts_request (fun body h => h.commitProgram p body) s
  | eraseProgram p => exact keepsPorts_request (Reported.onProgram fun g h => h.eraseProgram g) s
  | readProgram p => exact keepsPorts_request (Reported.onProgram fun g h => h.readProgram g) s
  | setBudget p => exact keepsPorts_request (fun body h => h.setBudget p body) s
  | setRingLimits p => exact keepsPorts_request (fun body h => h.setRingLimits p body) s
  | setPlantLimits p => exact keepsPorts_request (fun body h => h.setPlantLimits p body) s
  | setToneLimits p => exact keepsPorts_request (fun body h => h.setToneLimits p body) s
  | setRoute p => exact keepsPorts_request (fun body h => h.setRoute p body) s
  | fetch p => exact keepsPorts_request (fun body h => h.fetch p body) s
  | status p => exact keepsPorts_request (fun _ h => h) s
  | setPort p => exact keepsPorts_request (fun body h => h.setPortWindow p body) s
  | portRestart p => exact keepsPorts_request (fun body h => h.portRestart p body) s
  | shelfReset p => exact keepsPorts_request (fun _ h => h.same rfl rfl) s
  | presenceDeadlineExpiry p =>
    show KeepsPorts s (if s.presenceExpired p then .next (s.absence p .window) else .next s)
    split
    · exact (still.absence p .window).keeps
    · exact keepsPorts_refl s
  | scanInstant v => exact (still.scanShelf v).keeps
  | cardSettleTimeout c => exact keepsPorts_if (still.settleCard c)
  | offHook l => exact keepsPorts_offHook l s
  | pulse l => exact keepsPorts_pulse l s
  | flash l => exact keepsPorts_flash l s
  | badBreak l => exact keepsPorts_badBreak l s
  | disconnect l => exact keepsPorts_disconnect l s
  | digitEnd l => exact keepsPorts_digitEnd l s
  | answer l => exact keepsPorts_answer l s
  | cardLoss c => exact keepsPorts_if (still.takeCardEvent (fun h l => h.lineCardLost l) c)
  | cardPresent c => exact keepsPorts_if (still.takeCardEvent (fun h l => h.lineCardPresent l) c)
  | cardSettled c => exact keepsPorts_if (still.takeCardEvent (fun h l => h.lineCardSettled l) c)
  | takeAfresh l => exact keepsPorts_takeAfresh l s
  | discardPulseCount l => exact keepsPorts_discardPulseCount l s
  | stepOn l => exact keepsPorts_stepOn l s
  | stepOff l => exact keepsPorts_stepOff l s
  | ringEnd l => exact keepsPorts_ringEnd l s
  | burstFed l => exact keepsPorts_burstFed l s
  | slotBoundary =>
    have counted : Reported s s.advanceSlot.countSlots := still.same rfl rfl
    exact counted.keeps
  | stepEnd l => exact keepsPorts_stepEnd l s
  | waitLimitExpiry l => exact keepsPorts_waitLimitExpiry l s
  | offerAdvance l => exact keepsPorts_if (still.advanceOffer l).finish
  | firstDigitExpiry l => exact keepsPorts_if (still.firstDigitExpired l).finish
  | interdigitExpiry l => exact keepsPorts_if (still.interdigitExpired l).finish
  | recallWindowExpiry l => exact keepsPorts_if (still.recallLapsed l).finish
  | releaseWaitExpiry l => exact keepsPorts_if (still.releaseCleared l).finish
  | parkReleaseExpiry l => exact keepsPorts_if (still.unparkToIdle l).finish
  | toneDelayExpiry l => exact keepsPorts_if (still.toneDelayed l).finish
  | levelWord w => exact (Reported.ite still (still.goodWord _)).keeps
  | senseTimerExpiry => exact keepsPorts_if still.senseExpired
  | ringAllocatorPlantChange => exact keepsPorts_ringAllocatorPlantChange s
  | tapLimitChange => exact keepsPorts_tapLimitChange s

theorem portsKept_of_step (h : Machine.step s = .next t) : PortsKept s t := by
  unfold Machine.step at h
  split at h
  · rename_i c rest _
    have queue : Reported s { s with pending := rest } := (reported_refl s).same rfl rfl
    exact queue.kept.trans (exec_keepsPorts c _ t h)
  · have ticked : Reported s s.tick := (reported_refl s).same rfl rfl
    exact ticked.keeps t h

/-- Settles O4: a report joins a queue only while there is room and its attention output is written with it, and a reply order changes
only where a byte arrives and where its head is taken. -/
theorem stepKeepsQueuesAndHoldsRight : Obligations.StepKeepsQueuesAndHoldsRight :=
  ⟨fun _ _ right next => (portsKept_of_step next).queues right, fun _ _ right next => (portsKept_of_step next).holds right⟩

end State

end Sys2Proof.Machine
end

section
/-! PROOFS. FETCH and the resync issue (R165, R166, R171): the obligation O17. -/

namespace Sys2Proof.Machine

open Sys2Proof.Safety

/-! ## The resync issue at a report queue (R166) -/

namespace ReportQueue

/-- The queue after a mark is answered with its snapshot, while there is room: the mark cleared, the snapshot behind. -/
def answered (q : ReportQueue) (k : Option LineNo) (r : Report) : ReportQueue :=
  if q.records.length < 48 ∧ q.isMarked k = true then { q.withMark k false with records := q.records ++ [r] } else q

/-- The queue after the snapshots of the marked lines among `ks`, as long as there is room. -/
def linesAnswered (q : ReportQueue) (snap : LineNo → Report) (ks : List LineNo) : ReportQueue :=
  ks.foldl (fun q k => q.answered (some k) (snap k)) q

variable {q : ReportQueue} {snap : LineNo → Report} {k : Option LineNo} {r : Report}

theorem answered_of_due (room : q.records.length < 48) (marked : q.isMarked k = true) :
    q.answered k r = { q.withMark k false with records := q.records ++ [r] } := if_pos ⟨room, marked⟩

theorem answered_of_unmarked (h : q.isMarked k = false) : q.answered k r = q := if_neg (by simp [h])

theorem answered_of_full (h : 48 ≤ q.records.length) : q.answered k r = q := if_neg (by omega)

theorem isMarked_answered_other {j : Option LineNo} (h : k ≠ j) : (q.answered k r).isMarked j = q.isMarked j := by
  unfold answered
  split
  · exact q.isMarked_withMark_other false h
  · rfl

/-- The lines of a walk that get their snapshots: the marked ones, as many as there is room for. -/
def issued (q : ReportQueue) (ks : List LineNo) : List LineNo :=
  (ks.filter fun k => q.isMarked (some k)).take (48 - q.records.length)

theorem issued_cons_of_due {l : LineNo} {ks : List LineNo} (fresh : l ∉ ks) (room : q.records.length < 48)
    (marked : q.isMarked (some l) = true) : q.issued (l :: ks) = l :: (q.answered (some l) r).issued ks := by
  have others : ks.filter (fun k => (q.answered (some l) r).isMarked (some k)) = ks.filter fun k => q.isMarked (some k) :=
    List.filter_congr fun k mem => isMarked_answered_other fun e => fresh (Option.some.inj e ▸ mem)
  have more : 48 - q.records.length = 48 - (q.records.length + 1) + 1 := by omega
  have length : (q.answered (some l) r).records.length = q.records.length + 1 := by simp [answered_of_due room marked]
  rw [issued, List.filter_cons_of_pos (p := fun k => q.isMarked (some k)) marked, more, List.take_succ_cons, issued, others, length]

theorem issued_cons_of_unmarked {l : LineNo} {ks : List LineNo} (unmarked : q.isMarked (some l) = false) :
    q.issued (l :: ks) = q.issued ks := by
  rw [issued, List.filter_cons_of_neg (p := fun k => q.isMarked (some k)) (by simp [unmarked]), issued]

theorem issued_of_full (ks : List LineNo) (full : 48 ≤ q.records.length) : q.issued ks = [] := by
  rw [issued, Nat.sub_eq_zero_of_le full, List.take_zero]

/-- What the walk of a resync issue over the lines leaves: the snapshots in the order of the walk, and their marks cleared. -/
theorem linesAnswered_spec {ks : List LineNo} (distinct : ks.Nodup) (q : ReportQueue) :
    (q.linesAnswered snap ks).records = q.records ++ (q.issued ks).map snap
    ∧ (∀ j, (q.linesAnswered snap ks).isMarked (some j) = (q.isMarked (some j) && !(q.issued ks).contains j))
    ∧ (q.linesAnswered snap ks).isMarked none = q.isMarked none := by
  induction ks generalizing q with
  | nil => simp [linesAnswered, issued]
  | cons l ks ih =>
    obtain ⟨fresh, distinct⟩ := List.nodup_cons.1 distinct
    obtain ⟨records, lines, shelf⟩ := ih distinct (q.answered (some l) (snap l))
    have walk : q.linesAnswered snap (l :: ks) = (q.answered (some l) (snap l)).linesAnswered snap ks := rfl
    rw [walk]
    rcases Nat.lt_or_ge q.records.length 48 with room | full
    · cases marked : q.isMarked (some l) with
      | true =>
        rw [issued_cons_of_due (r := snap l) fresh room marked]
        refine ⟨?_, fun j => ?_, shelf.trans (isMarked_answered_other (by simp))⟩
        · rw [records, answered_of_due room marked]
          simp
        · rw [lines]
          by_cases e : j = l
          · subst e
            simp [answered_of_due room marked, isMarked, withMark]
          · have apart : some l ≠ some j := fun h => e (Option.some.inj h).symm
            rw [isMarked_answered_other apart]
            simp [e]
      | false =>
        rw [answered_of_unmarked marked] at records lines shelf ⊢
        rw [issued_cons_of_unmarked marked]
        exact ⟨records, lines, shelf⟩
    · rw [answered_of_full full] at records lines shelf ⊢
      rw [issued_of_full _ full] at records lines ⊢
      exact ⟨records, lines, shelf⟩

/-- The walk leaves room exactly where the marked lines leave it. -/
theorem linesAnswered_length {ks : List LineNo} (distinct : ks.Nodup) (few : q.records.length ≤ 24) :
    (q.linesAnswered snap ks).records.length < 48
      ↔ q.records.length + (ks.filter fun k => q.isMarked (some k)).length < 48 := by
  rw [(linesAnswered_spec distinct q).1, List.length_append, List.length_map, issued, List.length_take]
  omega

end ReportQueue

namespace State

variable {s u : State} {p : Port}

/-! ## Parts that differ in one report queue -/

theorem setQueue_setQueue (s : State) (p : Port) (a b : ReportQueue) : (s.setQueue p a).setQueue p b = s.setQueue p b := by
  cases p <;> rfl

/-- A line snapshot shows nothing of the report queues and the ports (R172). -/
theorem lineSnapshot_of_frame {t : State} (h : t = { s with queues := t.queues, ports := t.ports }) (l : LineNo) :
    t.lineSnapshot l = s.lineSnapshot l := by
  rw [h]
  rfl

/-- A shelf snapshot shows of the report queues their lengths alone (R172). -/
theorem shelfSnapshot_setQueue (s : State) (p : Port) {a b : ReportQueue} (h : a.records = b.records) :
    (s.setQueue p a).shelfSnapshot = (s.setQueue p b).shelfSnapshot := by
  obtain ⟨records, marks, shelf⟩ := a
  obtain ⟨_, marks', shelf'⟩ := b
  obtain rfl : records = _ := h
  cases p <;> rfl

/-- A snapshot in answer to a mark, at a queue that is written (R166). -/
theorem snapshot_setQueue (u : State) (p : Port) (q : ReportQueue) (k : Option LineNo) (r : Report) :
    (if (((u.setQueue p q).queue p).records.length < Config.queueSize && (u.setQueue p q).marked p k) = true then
      ((u.setQueue p q).setMark p k false).pushRecord p r else u.setQueue p q) = u.setQueue p (q.answered k r) := by
  simp only [queue_setQueue_same, marked_eq, setMark_eq, pushRecord, setQueue_setQueue, ReportQueue.withMark_records, Config.queueSize,
    Bool.and_eq_true, decide_eq_true_eq, ReportQueue.answered]
  split <;> rfl

theorem resyncLine_setQueue (u : State) (p : Port) (q : ReportQueue) (l : LineNo) :
    resyncLine p (u.setQueue p q) l = u.setQueue p (q.answered (some l) ⟨some l, u.now, .lineSnapshot (u.lineSnapshot l)⟩) := by
  have shown := lineSnapshot_of_frame (u.setQueue_frame p q) l
  rw [← snapshot_setQueue, resyncLine, shown, now_setQueue]

theorem resyncShelf_setQueue (u : State) (p : Port) (q : ReportQueue) :
    resyncShelf p (u.setQueue p q)
      = u.setQueue p (q.answered none ⟨none, u.now, .shelfSnapshot (u.setQueue p q).shelfSnapshot⟩) := by
  rw [← snapshot_setQueue, resyncShelf, now_setQueue]

/-- The record of a line snapshot, made as the part stands. -/
def lineReport (s : State) (l : LineNo) : Report := ⟨some l, s.now, .lineSnapshot (s.lineSnapshot l)⟩

/-- The queue after a resync issue that finds `q` in the port's place (R166). -/
def issuedQueue (u : State) (p : Port) (q : ReportQueue) : ReportQueue :=
  let walked := q.linesAnswered u.lineReport allLines
  walked.answered none ⟨none, u.now, .shelfSnapshot (u.setQueue p walked).shelfSnapshot⟩

theorem resyncIssue_setQueue (u : State) (p : Port) (q : ReportQueue) :
    (u.setQueue p q).resyncIssue p = u.setQueue p (u.issuedQueue p q) := by
  have walk : allLines.foldl (resyncLine p) (u.setQueue p q) = u.setQueue p (q.linesAnswered u.lineReport allLines) :=
    List.foldl_hom (u.setQueue p) fun q l => resyncLine_setQueue u p q l
  rw [resyncIssue, walk, resyncShelf_setQueue]
  rfl

/-- With no mark set a resync issue does nothing. -/
theorem issuedQueue_of_unmarked {q : ReportQueue} (lines : ∀ l, q.isMarked (some l) = false) (shelf : q.isMarked none = false) :
    u.issuedQueue p q = q := by
  have walked : q.linesAnswered u.lineReport allLines = q :=
    List.foldl_fixed' (fun l => ReportQueue.answered_of_unmarked (lines l)) allLines
  rw [issuedQueue, walked, ReportQueue.answered_of_unmarked shelf]

/-- The queue after a resync issue: behind what was left the line snapshots as far as there is room, then the shelf snapshot if there
is still room; the marks of the records issued are cleared. -/
theorem issuedQueue_spec (u : State) (p : Port) {q : ReportQueue} (few : q.records.length ≤ 24) :
    let lines := (q.issued allLines).map u.lineReport
    let shelf : List Report :=
      if q.isMarked none = true ∧ q.records.length + (allLines.filter fun l => q.isMarked (some l)).length < 48 then
        [⟨none, u.now, .shelfSnapshot (u.setQueue p { u.queue p with records := q.records ++ lines }).shelfSnapshot⟩]
      else []
    (u.issuedQueue p q).records = q.records ++ lines ++ shelf
    ∧ (∀ l, (u.issuedQueue p q).isMarked (some l) = (q.isMarked (some l) && !(q.issued allLines).contains l))
    ∧ (u.issuedQueue p q).isMarked none = (q.isMarked none && shelf.isEmpty) := by
  obtain ⟨records, marks, mark⟩ := ReportQueue.linesAnswered_spec (snap := u.lineReport) allLines_nodup q
  have length := ReportQueue.linesAnswered_length (snap := u.lineReport) allLines_nodup few
  have shown := u.shelfSnapshot_setQueue p (b := { u.queue p with records := q.records ++ (q.issued allLines).map u.lineReport }) records
  unfold issuedQueue
  dsimp only
  rw [← shown, ← mark, ← records]
  simp only [← length]
  generalize q.linesAnswered u.lineReport allLines = w at marks
  split
  · rename_i due
    rw [ReportQueue.answered_of_due due.2 due.1]
    exact ⟨rfl, marks, (w.isMarked_withMark_same none false).trans (Bool.and_false _).symm⟩
  · rename_i idle
    rw [ReportQueue.answered, if_neg fun h => idle h.symm]
    exact ⟨(List.append_nil _).symm, marks, (Bool.and_true _).symm⟩

/-! ## FETCH (R166) -/

/-- The queue of a port after a FETCH of `n` records. -/
def fetchedQueue (u : State) (p : Port) (n : Nat) : ReportQueue :=
  let left := { u.queue p with records := (u.queue p).records.drop n }
  if left.records.length ≤ 24 then u.issuedQueue p left else left

theorem fetchRecords_eq (u : State) (p : Port) (n : Nat) :
    u.fetchRecords p n = (u.setQueue p (u.fetchedQueue p n), .okWith (fetchData ((u.queue p).records.take n))) := by
  simp only [fetchRecords, fetchedQueue, Config.resyncLevel, resyncIssue_setQueue]
  split <;> rfl

theorem exec_fetch_of_count {n : Byte} {rest : List ReplyItem} (settled : Settled s) (asks : Asks s p 28 [n] rest)
    (one : 1 ≤ n.toNat) (eight : n.toNat ≤ 8) :
    let u := taken s p rest
    exec (.fetch p) s
      = .next ((u.setQueue p (u.fetchedQueue p n.toNat)).respond p 28#8 (.okWith (fetchData ((u.queue p).records.take n.toNat)))) := by
  have owns : (taken s p rest).fetch p [n] = _ := (if_pos (inRange_iff.2 ⟨one, eight⟩)).trans (fetchRecords_eq _ p n.toNat)
  refine takeRequest_settled asks (by decide) rfl rfl owns ?_
  simpa [Settled] using settled

theorem exec_fetch_badValue {n : Byte} {rest : List ReplyItem} (settled : Settled s) (asks : Asks s p 28 [n] rest)
    (bad : n.toNat < 1 ∨ 8 < n.toNat) : exec (.fetch p) s = .next ((taken s p rest).respond p 28#8 (.refuse .badValue)) := by
  have owns : (taken s p rest).fetch p [n] = (taken s p rest, .refuse .badValue) := if_neg (by rw [inRange_iff]; omega)
  exact takeRequest_settled asks (by decide) rfl rfl owns (settled_taken settled p rest)

/-- A FETCH that leaves more than 24 records, or finds no mark set, does no more than take its records. -/
theorem fetchedQueue_of_idle {n : Nat}
    (idle : 24 < ((u.queue p).records.drop n).length ∨ ((∀ l, u.marked p (some l) = false) ∧ u.marked p none = false)) :
    u.fetchedQueue p n = { u.queue p with records := (u.queue p).records.drop n } := by
  unfold fetchedQueue
  dsimp only
  rcases idle with more | ⟨lines, shelf⟩
  · exact if_neg (Nat.not_le.2 more)
  · rw [issuedQueue_of_unmarked (q := { u.queue p with records := (u.queue p).records.drop n }) lines shelf, ite_self]

/-! ## A port's queue written in the answer to its request -/

@[simp] theorem queue_respond (s : State) (p q : Port) (k : Byte) (r : Reply) : (s.respond p k r).queue q = s.queue q := by
  rw [respond, modPort_eq, queue_setPort]

theorem port_respond_other {q : Port} (h : q ≠ p) (s : State) (k : Byte) (r : Reply) : (s.respond p k r).port q = s.port q :=
  s.port_modPort_other p q _ h

/-- What the answer leaves of the ports and of the rest of the part. -/
theorem setQueue_respond_spec (u : State) (p : Port) (n : ReportQueue) (k : Byte) (r : Reply) :
    let t := (u.setQueue p n).respond p k r
    (t.port p).attention = !n.records.isEmpty
    ∧ (t.port p).sent = (u.port p).sent ++ [responseFrame k r]
    ∧ (∀ q, q ≠ p → t.queue q = u.queue q ∧ t.port q = u.port q)
    ∧ t = { u with queues := t.queues, ports := t.ports } := by
  refine ⟨?_, ?_, fun q other => ⟨?_, ?_⟩, ?_⟩
  · rw [respond_def_ports, port_setQueue_same]
  · rw [respond_def_ports, port_setQueue_same]
  · rw [queue_respond, queue_setQueue_other u n other]
  · rw [port_respond_other other, port_setQueue_other u n other]
  · rw [respond_frame, setQueue_frame]

/-- Settles O17: a FETCH writes one queue, and a resync issue is a walk over the marks of that queue. -/
theorem fetchTakesRecordsAndIssuesSnapshots : Obligations.FetchTakesRecordsAndIssuesSnapshots := by
  refine ⟨fun s p n rest settled asks => ⟨fun one eight idle => ?_, fun bad => ?_⟩, fun s p n rest settled asks one eight => ?_,
    fun d => ⟨rfl, rfl, rfl, rfl⟩⟩
  · rw [exec_fetch_of_count settled asks one eight, fetchedQueue_of_idle idle]
    rfl
  · exact exec_fetch_badValue settled asks bad
  · have answer := exec_fetch_of_count settled asks one eight
    have shown : (taken s p rest).lineReport = fun l => ⟨some l, s.now, .lineSnapshot (s.lineSnapshot l)⟩ := funext fun l => by
      rw [lineReport, now_taken, lineSnapshot_of_frame (taken_frame s p rest)]
    have same : ∀ q, ((taken s p rest).port q).sent = (s.port q).sent := sameSent_taken s p rest
    have frame := taken_frame s p rest
    have now := now_taken s p rest
    dsimp only at answer ⊢
    generalize taken s p rest = u at *
    intro few
    obtain ⟨records, marks, mark⟩ := issuedQueue_spec u p (q := { u.queue p with records := (u.queue p).records.drop n.toNat }) few
    obtain ⟨attention, sent, others, unchanged⟩ := setQueue_respond_spec u p (u.fetchedQueue p n.toNat) 28#8
      (.okWith (fetchData ((u.queue p).records.take n.toNat)))
    have issued : u.fetchedQueue p n.toNat = u.issuedQueue p { u.queue p with records := (u.queue p).records.drop n.toNat } :=
      if_pos few
    have written : ((u.setQueue p (u.fetchedQueue p n.toNat)).respond p 28#8
        (.okWith (fetchData ((u.queue p).records.take n.toNat)))).queue p = u.fetchedQueue p n.toNat :=
      (queue_respond ..).trans (queue_setQueue_same ..)
    rw [shown, now, ← issued] at records mark
    rw [← issued] at marks
    refine ⟨_, answer, ?_, fun l => ?_, ?_, ?_, ?_, others, ?_⟩
    · rw [written]
      exact records
    · rw [marked_eq, written]
      exact marks l
    · rw [marked_eq, written]
      exact mark
    · rw [attention, written]
    · rw [sent, same p]
      rfl
    · rw [unchanged, frame]

end State

end Sys2Proof.Machine
end

section
/-! PROOFS. The layout of a response frame and of a report record (R169, R171): the obligation O10. -/

namespace Sys2Proof.Machine

/-- A response frame before its check byte (R169). -/
def responseHead (k : Byte) (r : Reply) : List Byte :=
  [166#8, byteOf ((r.data.length + 2) / 256), byteOf (r.data.length + 2), k, byteOf r.result.code] ++ r.data

theorem responseFrame_eq (k : Byte) (r : Reply) : responseFrame k r = responseHead k r ++ [checkByte (responseHead k r)] := by
  have length : bytes2 (2 + r.data.length) = [byteOf ((r.data.length + 2) / 256), byteOf (r.data.length + 2)] := by
    rw [Nat.add_comm, bytes2]
  rw [responseFrame, length]
  rfl

theorem responseFrame_sum (k : Byte) (r : Reply) : (responseFrame k r).foldl (· + ·) 0#8 = 0#8 := by
  rw [responseFrame_eq, checkByte_sum]

theorem Report.encode_def (r : Report) :
    r.encode = [byteOf r.body.kind, byteOf (lineCode r.line)] ++ bytes4 r.time ++ [byteOf r.body.detail.length] ++ r.body.detail :=
  rfl

theorem lineCode_some (l : LineNo) : lineCode (some l) = l.val := rfl

theorem byteOf_lineCode_none : byteOf (lineCode none) = 255#8 := rfl

/-- Settles O10: a frame is its head closed by the check byte of that head, and a record is told by the code of its line. -/
theorem framesAndRecordsAreLaidOut : Obligations.FramesAndRecordsAreLaidOut := by
  refine ⟨fun k r _ => ⟨checkByte (responseHead k r), responseFrame_eq k r, responseFrame_sum k r⟩, fun l at_ b => ⟨?_, ?_⟩⟩
  · rw [Report.encode_def, lineCode_some]
  · rw [Report.encode_def, byteOf_lineCode_none]

end Sys2Proof.Machine
end
